-- ==== Sys2Proof/Word.lean ====
section
/-! DEFINITION. The words the manual counts in, and the eight-fold table that coins, groups and denominations share. -/

namespace Sys2Proof

/-- One byte of a frame, a record or the notice area (12 R202). -/
abbrev Byte := BitVec 8

/-- A value of the monotonic seconds counter, 0 to 4,294,967,295, which wraps (01 R5). -/
abbrev Seconds := BitVec 32

/-- A value for each of eight indices: the denominations 0 to 7 (05 R82) and the groups 0 to 7 (08 R158). -/
structure Octet (α : Type) where
  i0 : α
  i1 : α
  i2 : α
  i3 : α
  i4 : α
  i5 : α
  i6 : α
  i7 : α
  deriving DecidableEq, Repr

/-- The same value at every index. -/
def Octet.const {α : Type} (a : α) : Octet α := ⟨a, a, a, a, a, a, a, a⟩

/-- The value at an index; an index above 7 reads as index 7, and no rule reads one. -/
def Octet.get {α : Type} (o : Octet α) : Nat → α
  | 0 => o.i0
  | 1 => o.i1
  | 2 => o.i2
  | 3 => o.i3
  | 4 => o.i4
  | 5 => o.i5
  | 6 => o.i6
  | _ => o.i7

/-- Replace the value at an index; an index above 7 writes nothing. -/
def Octet.set {α : Type} (o : Octet α) (i : Nat) (a : α) : Octet α :=
  match i with
  | 0 => { o with i0 := a }
  | 1 => { o with i1 := a }
  | 2 => { o with i2 := a }
  | 3 => { o with i3 := a }
  | 4 => { o with i4 := a }
  | 5 => { o with i5 := a }
  | 6 => { o with i6 := a }
  | 7 => { o with i7 := a }
  | _ => o

/-- The eight values in index order. -/
def Octet.toList {α : Type} (o : Octet α) : List α :=
  [o.i0, o.i1, o.i2, o.i3, o.i4, o.i5, o.i6, o.i7]

/-- Apply a function at every index. -/
def Octet.map {α β : Type} (f : α → β) (o : Octet α) : Octet β :=
  ⟨f o.i0, f o.i1, f o.i2, f o.i3, f o.i4, f o.i5, f o.i6, f o.i7⟩

/-- Combine two tables index by index. -/
def Octet.zipWith {α β γ : Type} (f : α → β → γ) (a : Octet α) (b : Octet β) : Octet γ :=
  ⟨f a.i0 b.i0, f a.i1 b.i1, f a.i2 b.i2, f a.i3 b.i3, f a.i4 b.i4, f a.i5 b.i5, f a.i6 b.i6,
    f a.i7 b.i7⟩

/-- The sum of eight numbers. -/
def Octet.sum (o : Octet Nat) : Nat :=
  o.i0 + o.i1 + o.i2 + o.i3 + o.i4 + o.i5 + o.i6 + o.i7

end Sys2Proof
end

