-- ==== Sys2Proof/Config.lean ====
section
/-! DEFINITION. The sizes and defaults the manual fixes, and the values it leaves open. -/

namespace Sys2Proof.Config

/-- Size of the notice area in bytes (10, section 10.2). -/
def noticeAreaBytes : Nat := 4096
/-- Places of the drop ring (05 R94). -/
def dropPlaces : Nat := 256
/-- Entries of the Machine Directory (07 R145). -/
def directoryEntries : Nat := 64
/-- Records of the permit table (04 R63). -/
def permitRecords : Nat := 4096
/-- Dates of the special-day list (01 R8). -/
def specialDayDates : Nat := 32
/-- Largest balance of a permit, at which a return saturates (04 R69). -/
def maxBalance : Nat := 65535
/-- Suspensions one operation may suffer (08 R154). -/
def maxSuspensions : Nat := 16
/-- Ticket serials run from 1 to this and wrap (03 R49). -/
def serials : Nat := 999999
/-- Largest distance ahead that a serial may stand (03 R49). -/
def serialWindow : Nat := 1000
/-- Drop numbers and round numbers run from 1 to this and wrap (05 R93, R98). -/
def maxNumber : Nat := 65535
/-- Phases of a line cycle: an uplink and a downlink in each of its 33 windows (07 R125). -/
def cyclePhases : Nat := 66
/-- Largest backlog (08 R160). -/
def maxBacklog : Nat := 3
/-- Arguments typed at the round port are kept modulo this (09 R169). -/
def argumentModulus : Nat := 1000000

/-- Values in force when the store holds none (10 R187). -/
def defaultQuoteLifetime : Nat := 120
def defaultHoldLimit : Nat := 20
def defaultSilenceLimit : Nat := 5
def defaultReleaseLimit : Nat := 60
def defaultCheckpointPeriod : Nat := 15
def defaultNoticeThreshold : Nat := 512
def defaultNoticeTimeout : Nat := 10

/-- The free value of log entry 8: the answer code byte of a repeated BoxRemoved whose last removal result is
none. The manual gives such an answer no code, so nothing is known of this constant; it is applied to the
free-value counter of State. -/
opaque freeAnswerCode : Nat → Byte

/-- The free value of log entry 8: the third byte of a HoldInterrupted notice, which 12 R205 gives no value. -/
opaque freeNoticeByte : Nat → Byte

end Sys2Proof.Config
end

