-- ==== Sys2Proof/Syntax.lean ====
section
/-! DEFINITION. The commands of the PD64, one constructor of `Instr` per row of spec/opcode_table.json.
Operands are carried as the ports carry them (12 R203, R204): numbers are the values of the frame's fields, and a
value outside its range is refused by the block that owns the command, not here. -/

namespace Sys2Proof

/-- The two machine lines (07). -/
inductive LineId where
  | a
  | b
  deriving DecidableEq, Repr

/-- The key switch as its input stands when a command reads it (09 R167). -/
inductive KeyInput where
  | off
  | collect
  | service
  /-- between two positions, which reads as Off -/
  | between
  deriving DecidableEq, Repr

/-- A date as a frame carries it: year less 2000, month, day (12 R202). -/
structure DateArg where
  yy : Nat
  mm : Nat
  dd : Nat
  deriving DecidableEq, Repr

/-- The contents of a Join frame (12 R203): the presence byte has bit 0 for the serial, bit 1 for the box. -/
structure JoinFrame where
  machine : Nat
  presence : Nat
  serial : Nat
  cash : Nat
  box : Nat
  deriving DecidableEq, Repr

/-- The contents of a QuoteRequest frame (12 R203); the amount field carries A for Cash and D otherwise. -/
structure QuoteFrame where
  machine : Nat
  rateClass : Nat
  payKind : Nat
  amount : Nat
  permit : Nat
  deriving DecidableEq, Repr

/-- One entry of a coin list (03, section 3.1). -/
structure CoinPair where
  index : Nat
  count : Nat
  deriving DecidableEq, Repr

/-- The contents of a SaleCommit frame (12 R203). -/
structure SaleFrame where
  machine : Nat
  token : Nat
  serial : Nat
  payKind : Nat
  tendered : Nat
  authorisation : Nat
  coins : List CoinPair
  deriving DecidableEq, Repr

/-- One band of PendingZone (12 R204). -/
structure BandArg where
  start : Nat
  kind : Nat
  rate : Nat
  deriving DecidableEq, Repr

/-- The arguments of PendingZone (12 R204); day class 255 stands for none. -/
structure ZoneArgs where
  zone : Nat
  minimum : Nat
  maxStay : Nat
  discount : Nat
  visitorRate : Nat
  carryOver : Nat
  dayClass : Nat
  bands : List BandArg
  deriving DecidableEq, Repr

/-- The arguments of PermitInsert (12 R204). -/
structure PermitArgs where
  number : Nat
  kind : Nat
  zones : Nat
  validFrom : DateArg
  validTo : DateArg
  state : Nat
  balancePresence : Nat
  balance : Nat
  deriving DecidableEq, Repr

/-- The arguments of PermitUpdate: a number and the values its mask selects (12 R204). -/
structure PermitChange where
  number : Nat
  state : Option Nat
  dates : Option (DateArg × DateArg)
  zones : Option Nat
  balance : Option Nat
  deriving DecidableEq, Repr

/-- The arguments of RegisterMachine (12 R204). -/
structure RegisterArgs where
  machine : Nat
  zone : Nat
  permitted : Nat
  capacity : Nat
  margin : Nat
  fitted : Nat
  deriving DecidableEq, Repr

/-- The values SetTimers may carry, in the order of 10 R187. -/
structure TimerArgs where
  lifetime : Option Nat
  holdLimit : Option Nat
  silence : Option Nat
  release : Option Nat
  period : Option Nat
  threshold : Option Nat
  timeout : Option Nat
  deriving DecidableEq, Repr

/-- A character received at the round port (09 R168): eight bits, or a framing error or break. -/
inductive PortChar where
  | char (c : Byte)
  | broken
  deriving DecidableEq, Repr

/-- How a round-port command is ended: Return, or the exclamation mark of the forced form (09 R171). -/
inductive Terminator where
  | carriageReturn
  | exclamation
  deriving DecidableEq, Repr

/-- The commands and events of the PD64, in the order of spec/opcode_table.json. -/
inductive Instr where
  | secondTick
  | minuteEvent
  | midnightEvent
  | join (line : LineId) (frame : JoinFrame)
  | leave (line : LineId) (slot machine : Nat)
  | statusFrame (line : LineId) (slot machine : Nat) (kinds : List Nat)
  | quoteRequest (line : LineId) (slot : Nat) (frame : QuoteFrame)
  | lookupCompletion
  | quoteExpiry (machine : Nat)
  | saleCommit (line : LineId) (slot : Nat) (frame : SaleFrame)
  | decrementCompletion
  | returnCompletion
  | boxRemoved (line : LineId) (slot machine : Nat)
  | boxInserted (line : LineId) (slot machine box : Nat)
  | nothingHeard (line : LineId) (slot : Nat)
  | silenceLimitReached (line : LineId) (slot : Nat)
  | releaseLimitReached (line : LineId) (slot : Nat)
  | downlinkPhase (line : LineId) (slot : Nat)
  | boxWriteCompletion
  | heldDropWriteCompletion
  | roundWriteCompletion
  | fetchDropReadCompletion
  | fetchDropMarkingCompletion
  | permitWriteCompletion
  | permitReadCompletion
  | writeCompletion
  | checkpointPeriodExpiry
  | trickleCheckpointRequest
  | checkpointCompletion
  | holdGrant
  | holdTimeout
  | noticeTimeout
  | cabinetFrameRejected (edges : Nat) (bytes : List Byte)
  | status (key : KeyInput)
  | result
  | readSummary
  | fetchDrop
  | holdRequest
  | holdRelease
  | pendingSeal (key : KeyInput)
  | pendingCancel (key : KeyInput)
  | orderlyRestart
  | readNotices (count : Nat)
  | advanceNotices (position : Nat)
  | setClock (date : DateArg) (minute second : Nat)
  | overrideToday (dayClass : Nat)
  | specialDayAdd (date : DateArg)
  | specialDayRemove (date : DateArg)
  | pendingBegin (key : KeyInput) (date : DateArg) (minute : Nat)
  | pendingZone (key : KeyInput) (args : ZoneArgs)
  | setGuard (key : KeyInput) (side span complement mode : Nat)
  | permitInsert (args : PermitArgs)
  | permitUpdate (args : PermitChange)
  | permitDelete (number : Nat)
  | permitRead (number : Nat)
  | registerMachine (args : RegisterArgs)
  | deregisterMachine (machine : Nat)
  | readMachine (machine : Nat)
  | clearCardTotals (machine : Nat)
  | roundSkip (machine : Nat)
  | setSlotEnable (line enables : Nat)
  | setDenominations (values : Octet Nat)
  | setTimers (args : TimerArgs)
  | setFlag (machine flag : Nat)
  | clearFlag (machine flag : Nat)
  | ackFault (machine kind : Nat)
  | roundOpen (machines : List Nat)
  | roundClose (argument : Nat)
  | roundCloseForced
  | roundPortCharacter (key : KeyInput) (char : PortChar)
  | tallyReadout (key : KeyInput) (ended : Terminator)
  | faultReadout (key : KeyInput) (ended : Terminator)
  | nextReadoutLine (key : KeyInput) (ended : Terminator)
  | roundPortOpen (key : KeyInput) (ended : Terminator)
  | roundPortSkip (key : KeyInput) (ended : Terminator)
  | roundPortClose (key : KeyInput)
  | roundPortForcedClose (key : KeyInput)
  | roundPortAck (key : KeyInput) (ended : Terminator)
  | roundPortSetFlag (key : KeyInput) (ended : Terminator)
  | roundPortClearFlag (key : KeyInput) (ended : Terminator)
  | powerFailWarning
  | enterParked
  | warningWithdrawn
  | orderlyRestartStart
  | powerOn (batteryKept : Bool)
  | resetAsserted
  | resetReleased
  | startUpCompletion
  | powerLoss
  deriving DecidableEq, Repr

end Sys2Proof
end

