-- ==== Sys2Proof/Machine/State.lean ====
section
/-! DEFINITION. Everything the PD64 holds, as plain data, and its value after reset. -/

namespace Sys2Proof.Machine

/-! ## Calendar and tariffs (01) -/

/-- A date from 1 January 2000 to 31 December 2099 (00, Conventions). -/
structure Date where
  year : Nat
  month : Nat
  day : Nat
  deriving DecidableEq, Repr

/-- A date and a minute, the form of every recorded time (12 R202). -/
structure Moment where
  date : Date
  minute : Nat
  deriving DecidableEq, Repr

/-- District time (01 R4). -/
structure ClockTime where
  date : Date
  minute : Nat
  second : Nat
  deriving DecidableEq, Repr

/-- The four day classes, in the order of 00, Classes and grades. -/
inductive DayClass where
  | weekday
  | saturday
  | sunday
  | special
  deriving DecidableEq, Repr

/-- The kind of a band; only a Charged band has a rate (01, section 1.1). -/
inductive BandKind where
  | charged (rate : Nat)
  | free
  | noParking
  deriving DecidableEq, Repr

/-- A band of a day schedule (01 R1). -/
structure Band where
  start : Nat
  kind : BandKind
  deriving DecidableEq, Repr

/-- The five parameters of a zone (01, section 1.1). -/
structure ZoneParams where
  minimum : Nat
  maxStay : Nat
  discount : Nat
  visitorRate : Nat
  carryOver : Bool
  deriving DecidableEq, Repr

/-- A zone's tariff: five parameters and one schedule for each day class (01, section 1.1). -/
structure Tariff where
  params : ZoneParams
  weekday : List Band
  saturday : List Band
  sunday : List Band
  special : List Band
  deriving DecidableEq, Repr

/-- One zone of the working table, with its generation (01 R3). -/
structure ZoneEntry where
  tariff : Tariff
  generation : Nat
  deriving DecidableEq, Repr

/-- A zone included in the pending set: its parameters, and the schedules loaded for it (01 R13). -/
structure PendingZone where
  zone : Nat
  params : ZoneParams
  weekday : Option (List Band)
  saturday : Option (List Band)
  sunday : Option (List Band)
  special : Option (List Band)
  deriving DecidableEq, Repr

/-- The pending set, Loading or Sealed; no set stands for status None (01, section 1.4). Zones ascend. -/
structure PendingSet where
  activation : Moment
  isSealed : Bool
  zones : List PendingZone
  deriving DecidableEq, Repr

/-- The side field of the tariff guard (01, section 1.5). -/
inductive GuardSide where
  | low
  | high
  deriving DecidableEq, Repr

/-- The mode field of the tariff guard (01, section 1.5). -/
inductive GuardMode where
  | opened
  | keyed
  | frozen
  deriving DecidableEq, Repr

/-- The tariff guard (01, section 1.5). -/
structure GuardWord where
  side : GuardSide
  span : Nat
  complement : Bool
  mode : GuardMode
  deriving DecidableEq, Repr

/-! ## Result codes and answers (12 R204) -/

/-- The result codes in the order of their numbers, 0 to 62 (12 R204). -/
inductive Code where
  | done | pending | rejected | busy | wait | empty | badRequest | notFound | inUse | clockUnset
  | badTariff | guarded | notLoading | tooLate | listFull | guardFrozen | keyRequired | kindNotAllowed
  | paymentBlocked | permitRefused
  | balanceExhausted | zoneChanged | noParking | belowMinimum | noQuote | quoteStale | serialOld
  | saleMismatch | permitUnavailable | balanceChanged
  | duplicate | tableFull | wrongKind | revoked | holdInterrupted | holdActive | notHeld
  | directoryFull | roundOpen | badList
  | roundClosed | entryState | roundBusy | notAcknowledgeable | notActive | badPointer
  | unknownMachine | wrongLine | lineFull | suspended
  | notCurrent | wrongZone | unverified | quoted | free | accepted | idle | left | recorded | held
  | noDrop | installed | conflict
  deriving DecidableEq, Repr

/-- An answer on a line or at the cabinet port: a code byte and its data (12 R203, R204). -/
structure Answer where
  code : Byte
  data : List Byte
  deriving DecidableEq, Repr

/-! ## Quotes and sales (02, 03) -/

/-- The rate classes (00, Classes and grades). -/
inductive RateClass where
  | standard
  | resident
  | visitor
  deriving DecidableEq, Repr

/-- The payment kinds Cash, Card and None (00, Classes and grades). -/
inductive PayKind where
  | cash
  | card
  | unpaid
  deriving DecidableEq, Repr

/-- Why a walk stopped, in the order of 12 R203. -/
inductive StopReason where
  | maxStay
  | balance
  | credit
  | timeReached
  | ban
  | horizon
  deriving DecidableEq, Repr

/-- What a priced quote costs: the amount tendered and the useful amount, or the cost (02 R43). -/
inductive QuotePrice where
  | byMoney (tendered useful : Nat)
  | byTime (cost : Nat)
  deriving DecidableEq, Repr

/-- The open quote record (02 R43). -/
structure OpenQuote where
  token : Nat
  zone : Nat
  generation : Nat
  rate : RateClass
  pay : PayKind
  minutes : Nat
  price : QuotePrice
  expiry : Moment
  permit : Option Nat
  issued : Seconds
  deriving DecidableEq, Repr

/-- A visitor sale in flight at the Cash Tally Unit, with the quote it has claimed (03 R47, R53). `gap` is set
when its serial stood 2 to 1000 ahead (R49); `superseded` once the machine has opened another quote since (R60). -/
structure CommitInFlight where
  id : Nat
  token : Nat
  serial : Nat
  gap : Bool
  quote : OpenQuote
  superseded : Bool
  deriving DecidableEq, Repr

/-- The requests that a machine may have pending (07 R130). -/
inductive RequestKind where
  | quoteRequest
  | saleCommit
  | boxRemoved
  | boxInserted
  deriving DecidableEq, Repr

/-- A pending request (07 R130): the work that answers it, its reply once ready, and whether the machine's zone
changed while it was in flight (02 R29). -/
structure Request where
  kind : RequestKind
  id : Nat
  reply : Option Answer
  zoneChanged : Bool
  deriving DecidableEq, Repr

/-! ## Permits (04) -/

/-- The kinds of permit (04, section 4.1). -/
inductive PermitKind where
  | resident
  | visitor
  deriving DecidableEq, Repr

/-- The states of a permit (04, section 4.1). -/
inductive PermitState where
  | active
  | suspended
  | revoked
  deriving DecidableEq, Repr

/-- A permit record (04 R62); bit z of the zone set stands for zone z. -/
structure Permit where
  number : Nat
  kind : PermitKind
  zones : BitVec 16
  validFrom : Date
  validTo : Date
  state : PermitState
  balance : Option Nat
  deriving DecidableEq, Repr

/-- The causes that refuse a permit, in the order of 04 R65. -/
inductive PermitCause where
  | notFound
  | wrongKind
  | revoked
  | suspended
  | notCurrent
  | wrongZone
  deriving DecidableEq, Repr

/-- The states of the bulk-load hold (04, section 4.5). -/
inductive HoldState where
  | free
  | requested
  | granted
  | interrupted
  deriving DecidableEq, Repr

/-- What a decrement decided when the store performed it (04 R68). -/
inductive DecrementResult where
  | taken
  | refused (cause : PermitCause)
  | short
  deriving DecidableEq, Repr

/-- A balance return: b minutes to give back to a permit (04 R69). -/
structure Return where
  permit : Nat
  minutes : Nat
  deriving DecidableEq, Repr

/-! ## Machines (05, 06, 07) -/

/-- The permitted line of a registration (07, section 7.6). -/
inductive PermittedLine where
  | lineA
  | lineB
  | either
  deriving DecidableEq, Repr

/-- The payment kinds fitted to a machine (07, section 7.6). -/
inductive Fitted where
  | cash
  | card
  | both
  deriving DecidableEq, Repr

/-- A registration entry but for its machine number (07, section 7.6); the group is `position / 8`. -/
structure Registration where
  position : Nat
  zone : Nat
  permitted : PermittedLine
  capacity : Nat
  margin : Nat
  fitted : Fitted
  deriving DecidableEq, Repr

/-- A live tally (03, section 3.3). -/
structure Tally where
  counts : Octet Nat
  cash : Nat
  unitemised : Nat
  sales : Nat
  coins : Nat
  first : Option Nat
  last : Option Nat
  deriving DecidableEq, Repr

/-- The card totals (03, section 3.3). -/
structure CardTotals where
  amount : Nat
  sales : Nat
  deriving DecidableEq, Repr

/-- The last accepted serial and token (03 R61); reconciliation may leave the token absent (05 R106). -/
structure Accepted where
  serial : Option Nat
  token : Option Nat
  deriving DecidableEq, Repr

/-- The box state (05 R86). -/
inductive BoxState where
  | unknown
  | installed (id : Nat)
  | out
  deriving DecidableEq, Repr

/-- The recorded box (05 R86). -/
inductive RecordedBox where
  | nothing
  | installed (id : Nat)
  | out
  deriving DecidableEq, Repr

/-- The last removal result (05 R86). -/
inductive Removal where
  | nothing
  | recorded (number : Nat)
  | held
  | noDrop
  deriving DecidableEq, Repr

/-- A drop snapshot: a drop record but for its number (05 R93). -/
structure Snapshot where
  machine : Nat
  round : Option Nat
  box : Nat
  time : Option Moment
  counts : Octet Nat
  cash : Nat
  unitemised : Nat
  sales : Nat
  first : Option Nat
  last : Option Nat
  deriving DecidableEq, Repr

/-- The fifteen fault kinds, in the order of their numbers 1 to 15 (06, section 6.1). -/
inductive FaultKind where
  | paperOut
  | paperLow
  | ticketJam
  | coinJam
  | cardReader
  | doorOpen
  | batteryLow
  | boxOut
  | boxNearFull
  | boxFull
  | boxConflict
  | cashTamper
  | dropHeld
  | silent
  | tallyGap
  deriving DecidableEq, Repr

/-- Fault severities, lowest first (00, Classes and grades). -/
inductive Severity where
  | warning
  | fault
  | alarm
  deriving DecidableEq, Repr

/-- The causes of a clear, in the order of 06 R112. -/
inductive ClearCause where
  | report
  | inserted
  | removed
  | dropWritten
  | heard
  | ackCabinet
  | ackRound
  deriving DecidableEq, Repr

/-- A fault entry (06 R109). -/
structure FaultEntry where
  active : Bool
  firstRaised : Option Moment
  lastRaised : Option Moment
  count : Nat
  lastCleared : Option Moment
  deriving DecidableEq, Repr

/-- The fifteen fault entries of one machine (06 R109). -/
structure FaultEntries where
  paperOut : FaultEntry
  paperLow : FaultEntry
  ticketJam : FaultEntry
  coinJam : FaultEntry
  cardReader : FaultEntry
  doorOpen : FaultEntry
  batteryLow : FaultEntry
  boxOut : FaultEntry
  boxNearFull : FaultEntry
  boxFull : FaultEntry
  boxConflict : FaultEntry
  cashTamper : FaultEntry
  dropHeld : FaultEntry
  silent : FaultEntry
  tallyGap : FaultEntry
  deriving DecidableEq, Repr

/-- The service flags (06, section 6.6). -/
structure ServiceFlags where
  heldOut : Bool
  forceCardOnly : Bool
  noRound : Bool
  deriving DecidableEq, Repr

/-- The service states, in the order of 00, Classes and grades. -/
inductive ServiceState where
  | inService
  | cashOnly
  | cardOnly
  | outOfService
  deriving DecidableEq, Repr

/-- Where a machine's link stands while it holds a slot (07, section 7.3). -/
structure LinkFields where
  line : LineId
  slot : Nat
  silence : Nat
  deriving DecidableEq, Repr

/-- The link state (07 R134). -/
inductive Link where
  | absent
  | active (fields : LinkFields)
  | silent (fields : LinkFields)
  deriving DecidableEq, Repr

/-- All that the blocks hold for one registered machine. -/
structure MachineRecord where
  number : Nat
  reg : Registration
  tokens : Nat
  openQuote : Option OpenQuote
  commit : Option CommitInFlight
  tally : Tally
  cards : CardTotals
  accepted : Accepted
  box : BoxState
  recorded : RecordedBox
  removal : Removal
  reconcileDue : Bool
  heldDrop : Option Snapshot
  heldAsked : Option (Nat × Nat)
  faults : FaultEntries
  flags : ServiceFlags
  service : ServiceState
  link : Link
  request : Option Request
  deriving DecidableEq, Repr

/-! ## Rounds and drops (05) -/

/-- The states of a round entry (05, section 5.5), numbered from 1 (09, section 9.4). -/
inductive EntryState where
  | pending
  | boxOut
  | collected
  | skipped
  | unfinished
  deriving DecidableEq, Repr

/-- One entry of the round record (05, section 5.5). -/
structure RoundEntry where
  machine : Nat
  state : EntryState
  drop : Option Nat
  deriving DecidableEq, Repr

/-- The port that opened a round (05, section 5.5). -/
inductive OpenedBy where
  | cabinet
  | roundPort
  deriving DecidableEq, Repr

/-- The round record (05, section 5.5). -/
structure Round where
  number : Nat
  isOpen : Bool
  openedBy : OpenedBy
  openedAt : Option Moment
  cash : Nat
  entries : List RoundEntry
  deriving DecidableEq, Repr

/-- A drop record (05 R93). -/
structure DropRecord where
  number : Nat
  snapshot : Snapshot
  deriving DecidableEq, Repr

/-- A place of the drop ring that holds a record, unfetched or fetched (05 R94). -/
structure DropPlace where
  place : Nat
  record : DropRecord
  fetched : Bool
  deriving DecidableEq, Repr

/-! ## The store (08) -/

/-- Where an operation's completion is answered; `flush` marks the operations that a flush asked (08 R164), which are
answered nowhere. -/
inductive Requester where
  | nobody
  | flush
  | cabinet
  | roundPort
  deriving DecidableEq, Repr

/-- A permit lookup for a quote: all that its walk needs, and whether a hold was granted before it completed
(02 R25, 04 R66). -/
structure LookupWork where
  machine : Nat
  id : Nat
  permit : Nat
  rate : RateClass
  pay : PayKind
  amount : Nat
  zone : Nat
  date : Date
  start : Nat
  unverified : Bool
  deriving DecidableEq, Repr

/-- A balance decrement for a visitor sale (04, section 4.3). -/
structure DecrementWork where
  machine : Nat
  id : Nat
  permit : Nat
  minutes : Nat
  zone : Nat
  deriving DecidableEq, Repr

/-- The class-2 write of a box event (05 R87). -/
structure BoxWork where
  machine : Nat
  id : Nat
  drop : Option (Nat × DropRecord)
  snapshot : Bool
  heldMade : Option Snapshot
  round : Option Round
  recorded : RecordedBox
  removal : Removal
  answer : Option Answer
  deriving DecidableEq, Repr

/-- The write of a held drop to the ring (05 R96). -/
structure HeldWork where
  machine : Nat
  place : Nat
  record : DropRecord
  deriving DecidableEq, Repr

/-- A change of a permit record as it is stored, with its arguments in range (04 R72). -/
structure PermitPatch where
  number : Nat
  state : Option PermitState
  dates : Option (Date × Date)
  zones : Option (BitVec 16)
  balance : Option Nat
  deriving DecidableEq, Repr

/-- What a class-5 write of the configuration, tariff or pending-set regions records (08 R149). -/
inductive TableWrite where
  | specialDays (dates : List Date)
  | pendingSet (contents : Option PendingSet)
  | activation (tariffs : List (Nat × Tariff))
  | guardWord (word : GuardWord)
  | registration (machine : Nat) (reg : Registration) (isNew : Bool)
  | deregistration (machine : Nat)
  | flags (machine : Nat) (flags : ServiceFlags)
  | slotEnable (line : LineId) (enable : BitVec 32)
  | denominations (values : Octet Nat)
  | timers (values : TimerArgs)
  deriving DecidableEq, Repr

/-- The operations of the store (08 R151, R152). -/
inductive StoreWork where
  | lookup (work : LookupWork)
  | permitRead (number : Nat)
  | fetchRead (place : Nat)
  | decrement (work : DecrementWork)
  | giveBack (work : Return)
  | permitInsert (record : Permit)
  | permitUpdate (patch : PermitPatch)
  | permitDelete (number : Nat)
  | boxWrite (work : BoxWork)
  | heldWrite (work : HeldWork)
  | roundWrite (round : Option Round)
  | fetchMark (place : Nat)
  | table (write : TableWrite)
  | checkpoint (group : Nat)
  deriving DecidableEq, Repr

/-- An operation asked of the store, with its class and its requester (08 R152). -/
structure StoreOp where
  work : StoreWork
  cls : Nat
  requester : Requester
  deriving DecidableEq, Repr

/-- A machine's entry in a group's image (08 R159). -/
structure ImageEntry where
  machine : Nat
  position : Nat
  tally : Tally
  cards : CardTotals
  accepted : Accepted
  deriving DecidableEq, Repr

/-- What an operation took up at its grant: a decrement's decision (04 R68), a checkpoint's image (08 R158). -/
inductive GrantData where
  | nothing
  | decision (result : DecrementResult)
  | image (entries : List ImageEntry)
  deriving DecidableEq, Repr

/-- The operation holding the array (08 R153 to R155). -/
structure Holder where
  op : StoreOp
  suspensions : Nat
  suspendable : Bool
  data : GrantData
  deriving DecidableEq, Repr

/-- The Store Controller's working state (08); the queue is oldest first. -/
structure StoreControl where
  holder : Option Holder
  serving : Option StoreOp
  queue : List StoreOp
  freeing : Bool
  holdBack : Bool
  flush : Bool
  backlog : Nat
  urgent : Nat
  lastExpiry : Seconds
  dirty : Octet Bool
  pointer : Nat
  deriving DecidableEq, Repr

/-- A directory entry of the store, with its flags and stamps (08 R149, R159). -/
structure StoredEntry where
  machine : Nat
  reg : Registration
  flags : ServiceFlags
  stamp : Nat
  registered : Nat
  deriving DecidableEq, Repr

/-- A group's image with its order stamp (08 R159). -/
structure Image where
  stamp : Nat
  entries : List ImageEntry
  deriving DecidableEq, Repr

/-- The two images of a group: its checkpoint, and the image before it (08 R149, R150). -/
structure GroupImages where
  current : Option Image
  previous : Option Image
  deriving DecidableEq, Repr

/-- A machine's box record (08 R149): `snapshotStamp` is 0 until a write took a snapshot. -/
structure BoxRecord where
  machine : Nat
  recorded : RecordedBox
  removal : Removal
  held : Option Snapshot
  snapshotStamp : Nat
  stamp : Nat
  deriving DecidableEq, Repr

/-- The nonvolatile array by regions (08 R149). A region that was never written holds nothing. -/
structure NvArray where
  directory : List StoredEntry
  denominations : Option (Octet Nat)
  guardWord : Option GuardWord
  enableA : Option (BitVec 32)
  enableB : Option (BitVec 32)
  timers : TimerArgs
  tariffs : List (Nat × Tariff)
  specialDays : List Date
  pendingSet : Option PendingSet
  permits : List Permit
  images : Octet GroupImages
  places : List DropPlace
  nextPlace : Nat
  dropCounter : Nat
  boxes : List BoxRecord
  round : Option Round
  /-- The order stamp of the last write of any kind, from which every start goes on (08 R159; log entry 57). -/
  stamp : Nat
  deriving DecidableEq, Repr

/-! ## Ports -/

/-- The values SetTimers sets (10 R187). -/
structure Timers where
  lifetime : Nat
  holdLimit : Nat
  silence : Nat
  release : Nat
  period : Nat
  threshold : Nat
  timeout : Nat
  deriving DecidableEq, Repr

/-- What the uplink of the present window left for its downlink (07 R131, R139, R141). -/
inductive Heard where
  | nothing
  /-- the refusal note: the frame's kind code and BUSY or WAIT -/
  | note (slot : Nat) (kind : RequestKind) (code : Code)
  /-- a Leave was taken -/
  | left (slot machine : Nat)
  /-- a Join was granted a slot -/
  | joined (machine slot : Nat)
  /-- a Join was refused -/
  | joinRefused (machine : Nat) (code : Code)
  deriving DecidableEq, Repr

/-- The frames the PD64 sends on a line (12 R203). -/
inductive LineSent where
  | nothing
  | cycle (time : Option ClockTime) (number : Nat)
  | slot (service : ServiceState) (answer : Answer) (note : Option (RequestKind × Code))
  | call (machine slot : Nat) (code : Option Code)
  deriving DecidableEq, Repr

/-- One line controller (07); `phase` counts the phases of the cycle begun that have been run. -/
structure LineState where
  nextCycle : Nat
  cycleOpen : Bool
  phase : Nat
  enable : BitVec 32
  heard : Heard
  sent : LineSent
  deriving DecidableEq, Repr

/-- The command letters of the round port (09 R168). -/
inductive Letter where
  | t
  | f
  | n
  | o
  | s
  | c
  | a
  | p
  | u
  deriving DecidableEq, Repr

/-- The states of the round port with the accumulator of each (09, section 9.2); Awaiting keeps the line that is
withheld. -/
inductive PortState where
  | ready
  | entering (letter : Letter) (first second : Option Nat) (comma : Bool)
  | error
  | awaiting (line : List Nat)
  deriving DecidableEq, Repr

/-- A readout: its lines and the number of the next one to send, counted from 1 (09 R176). -/
structure Readout where
  lines : List (List Nat)
  cursor : Nat
  deriving DecidableEq, Repr

/-- What the round port sends (09): a line of decimal fields, the line K, a refusal line, the error character, a
line end, the prompt. -/
inductive PortSent where
  | line (fields : List Nat)
  | keyRefused
  | refusal (code : Code)
  | errorChar
  | lineEnd
  | prompt
  deriving DecidableEq, Repr

/-- The round port (09). -/
structure RoundPort where
  state : PortState
  readout : Option Readout
  sent : List PortSent
  deriving DecidableEq, Repr

/-- The result buffer (10 R185). -/
inductive ResultBuffer where
  | nothing
  | waiting
  | final (answer : Answer)
  deriving DecidableEq, Repr

/-- The cabinet port but for its notice area (10 R182, R184, R185). -/
structure CabinetPort where
  answer : Option Answer
  shifted : Option Answer
  outstanding : Bool
  result : ResultBuffer
  deriving DecidableEq, Repr

/-- An unread notice in the notice index (10, section 10.2). -/
structure NoticeRef where
  start : Nat
  span : Nat
  written : Seconds
  deriving DecidableEq, Repr

/-- The notice area (10, section 10.2); the ring is the memory of Machine/Memory.lean. -/
structure NoticeArea where
  ring : List Host.Cell
  writePos : Nat
  firstUnread : Nat
  unread : Nat
  index : List NoticeRef
  overflow : Bool
  output : Bool
  deriving DecidableEq, Repr

/-! ## The whole -/

/-- What began a start, in the order of 11 R200. -/
inductive StartCause where
  | powerOn
  | resetInput
  | orderlyRestart
  deriving DecidableEq, Repr

/-- The power states of 11 R195, with Off for no supply and ResetHeld for the reset input asserted. -/
inductive PowerState where
  | off
  | resetHeld
  | starting (cause : StartCause)
  | running
  | flushing
  | parked
  deriving DecidableEq, Repr

/-- The battery state (01 R4). -/
inductive Battery where
  | held
  | lost
  deriving DecidableEq, Repr

/-- The District Clock (01, section 1.2); no time stands for Unset. -/
structure Clock where
  time : Option ClockTime
  battery : Battery
  counter : Seconds
  overrideClass : Option DayClass
  minuteDue : Bool
  midnightDue : Bool
  deriving DecidableEq, Repr

/-- The Tariff Engine but for the open quotes, which stand with their machines (01). -/
structure TariffEngine where
  zones : List ZoneEntry
  specialDays : List Date
  pendingSet : Option PendingSet
  guardWord : GuardWord
  deriving DecidableEq, Repr

/-- The Permit Register (04, section 4.5). -/
structure PermitRegister where
  hold : HoldState
  holdStart : Option Seconds
  waitingReturns : List Return
  deriving DecidableEq, Repr

/-- The Cash Tally Unit but for what it holds for each machine (05). -/
structure CashUnit where
  denominations : Octet Nat
  nextPlace : Nat
  placesTaken : Nat
  dropCounter : Nat
  fetching : Option Nat
  round : Option Round
  deriving DecidableEq, Repr

/-- The district fault summary (06 R121); the machine numbers and the kind numbers ascend. -/
structure Summary where
  machines : List Nat
  kinds : List Nat
  highest : Option Severity
  deriving DecidableEq, Repr

/-- The state of the PD64. `pending`, `nextId` and `freeCount` are the model's own fields. -/
structure State where
  pending : List Instr
  nextId : Nat
  freeCount : Nat
  power : PowerState
  safe : Bool
  warning : Bool
  resetInput : Bool
  linesStopped : Bool
  restartAsked : Bool
  frozenLatch : Bool
  clock : Clock
  tariff : TariffEngine
  permits : PermitRegister
  cash : CashUnit
  machines : List MachineRecord
  summary : Summary
  lineA : LineState
  lineB : LineState
  timers : Timers
  store : StoreControl
  nv : NvArray
  roundPort : RoundPort
  cabinet : CabinetPort
  notices : NoticeArea
  deriving DecidableEq, Repr

/-- Why a step stops with a fault: no command of the PD64 does. -/
inductive Fault where
  /-- Raised by nothing: every offset is taken modulo 4096 before the notice area is read or written, and the manual
  gives every command an effect or an answer. Safe. -/
  | outsideNoticeArea (offset : Nat)
  deriving DecidableEq, Repr

/-- Why a step has no meaning. -/
inductive Refusal where
  /-- Raised by an arm of `exec` that has no meaning yet; no arm is one. Safe. -/
  | notModelled (mnemonic : String)
  deriving DecidableEq, Repr

/-! ## Reset -/

/-- The factory tariff (01 R3). -/
def factoryTariff : Tariff :=
  { params := ⟨0, 0, 0, 0, false⟩
    weekday := [⟨0, .free⟩]
    saturday := [⟨0, .free⟩]
    sunday := [⟨0, .free⟩]
    special := [⟨0, .free⟩] }

/-- The factory tariff guard (01 R19). -/
def factoryGuard : GuardWord := ⟨.low, 0, false, .opened⟩

/-- The timers in force when the store holds none (10 R187). -/
def defaultTimers : Timers :=
  { lifetime := Config.defaultQuoteLifetime
    holdLimit := Config.defaultHoldLimit
    silence := Config.defaultSilenceLimit
    release := Config.defaultReleaseLimit
    period := Config.defaultCheckpointPeriod
    threshold := Config.defaultNoticeThreshold
    timeout := Config.defaultNoticeTimeout }

/-- A line controller with no cycle run since the start (07 R126, R134, R144). -/
def freshLine : LineState := ⟨0, false, 0, BitVec.allOnes 32, .nothing, .nothing⟩

/-- A store that has never been written (08 R166). Its ring has 256 empty places (05 R94); that the next write takes place 0
is the model's choice (log entry 63). -/
def blankArray : NvArray :=
  { directory := []
    denominations := none
    guardWord := none
    enableA := none
    enableB := none
    timers := ⟨none, none, none, none, none, none, none⟩
    tariffs := []
    specialDays := []
    pendingSet := none
    permits := []
    images := Octet.const ⟨none, none⟩
    places := []
    nextPlace := 0
    dropCounter := 0
    boxes := []
    round := none
    stamp := 0 }

/-- The PD64 right after power-on with a store that was never written and no time kept: the beginning of the start
of 11 R199 (log entry 1). -/
def State.reset : State :=
  { pending := []
    nextId := 1
    freeCount := 0
    power := .starting .powerOn
    safe := false
    warning := false
    resetInput := false
    linesStopped := false
    restartAsked := false
    frozenLatch := false
    clock := ⟨none, .lost, 0, none, false, false⟩
    tariff := ⟨List.replicate 16 ⟨factoryTariff, 0⟩, [], none, factoryGuard⟩
    permits := ⟨.free, none, []⟩
    cash := ⟨Octet.const 0, 0, 0, 0, none, none⟩
    machines := []
    summary := ⟨[], [], none⟩
    lineA := freshLine
    lineB := freshLine
    timers := defaultTimers
    store :=
      { holder := none
        serving := none
        queue := []
        freeing := false
        holdBack := false
        flush := false
        backlog := 0
        urgent := 0
        lastExpiry := 0
        dirty := Octet.const false
        pointer := 0 }
    nv := blankArray
    roundPort := ⟨.ready, none, []⟩
    cabinet := ⟨none, none, false, .nothing⟩
    notices := ⟨[], 0, 0, 0, [], false, false⟩ }

end Sys2Proof.Machine
end

