-- ==== Sys2Proof/Machine/Operands.lean ====
section
/-! DEFINITION. Reading operands: the numbers that stand for states and classes on the ports (12 R202), and the
calendar (00, Conventions). -/

namespace Sys2Proof.Machine

/-! ## Numbers of codes -/

/-- The number of a result code (12 R204). -/
def Code.number (c : Code) : Nat := c.ctorIdx

/-- The byte of a result code. -/
def Code.byte (c : Code) : Byte := BitVec.ofNat 8 c.number

/-- The answer that carries a code alone. -/
def Code.plain (c : Code) : Answer := ⟨c.byte, []⟩

/-- Rate classes 0 Standard, 1 Resident, 2 Visitor (12 R203). -/
def RateClass.ofNumber : Nat → Option RateClass
  | 0 => some .standard
  | 1 => some .resident
  | 2 => some .visitor
  | _ => none

/-- Payment kinds 0 Cash, 1 Card, 2 None (12 R203). -/
def PayKind.ofNumber : Nat → Option PayKind
  | 0 => some .cash
  | 1 => some .card
  | 2 => some .unpaid
  | _ => none

/-- Day classes in the order Weekday, Saturday, Sunday, Special, which is that of 00, Classes and grades (12 R202; log
entry 17). -/
def DayClass.ofNumber : Nat → Option DayClass
  | 0 => some .weekday
  | 1 => some .saturday
  | 2 => some .sunday
  | 3 => some .special
  | _ => none

/-- A yes or no field: 1 is yes, 0 is no, as 09, section 9.4, has it at the round port; for the fields of cabinet commands
that is log entry 56. -/
def yesNo : Nat → Option Bool
  | 0 => some false
  | 1 => some true
  | _ => none

/-- Permit kinds in the order Resident, Visitor (12 R202). -/
def PermitKind.ofNumber : Nat → Option PermitKind
  | 0 => some .resident
  | 1 => some .visitor
  | _ => none

/-- Permit states in the order Active, Suspended, Revoked (12 R202). -/
def PermitState.ofNumber : Nat → Option PermitState
  | 0 => some .active
  | 1 => some .suspended
  | 2 => some .revoked
  | _ => none

/-- Permitted lines in the order A, B, Either of 07, section 7.6 (the model's reading: log entry 17). -/
def PermittedLine.ofNumber : Nat → Option PermittedLine
  | 0 => some .lineA
  | 1 => some .lineB
  | 2 => some .either
  | _ => none

/-- Fitted kinds in the order cash, card, both of 07, section 7.6 (the model's reading: log entry 17). -/
def Fitted.ofNumber : Nat → Option Fitted
  | 0 => some .cash
  | 1 => some .card
  | 2 => some .both
  | _ => none

/-- Guard sides in the order Low, High of 01, section 1.5 (the model's reading: log entry 17). -/
def GuardSide.ofNumber : Nat → Option GuardSide
  | 0 => some .low
  | 1 => some .high
  | _ => none

/-- Guard modes in the order Open, Keyed, Frozen of 01, section 1.5 (the model's reading: log entry 17). -/
def GuardMode.ofNumber : Nat → Option GuardMode
  | 0 => some .opened
  | 1 => some .keyed
  | 2 => some .frozen
  | _ => none

/-- The line of a line field. 12 R204 gives the field and no numbers, and 12 R202 numbers only class, kind, state and code
fields; that 0 is A and 1 is B is the model's reading (log entry 17). -/
def lineOfNumber : Nat → Option LineId
  | 0 => some .a
  | 1 => some .b
  | _ => none

/-- The number of a line in ReadMachine and MachineJoined, 0 for A and 1 for B: the model's reading (log entry 17). -/
def lineNumber : LineId → Nat
  | .a => 0
  | .b => 1

/-- The kind number of a fault kind, 1 to 15 (06, section 6.1). -/
def FaultKind.number (k : FaultKind) : Nat := k.ctorIdx + 1

/-- The fault kinds in kind-number order. -/
def FaultKind.all : List FaultKind :=
  [.paperOut, .paperLow, .ticketJam, .coinJam, .cardReader, .doorOpen, .batteryLow, .boxOut,
    .boxNearFull, .boxFull, .boxConflict, .cashTamper, .dropHeld, .silent, .tallyGap]

/-- The fault kind of a kind number (06, section 6.1). -/
def FaultKind.ofNumber (n : Nat) : Option FaultKind :=
  FaultKind.all.find? fun k => k.number == n

/-- The service flags by their numbers (06, section 6.6). -/
inductive FlagName where
  | heldOut
  | forceCardOnly
  | noRound
  deriving DecidableEq, Repr

/-- Flag numbers 1 to 3 (06, section 6.6). -/
def FlagName.ofNumber : Nat → Option FlagName
  | 1 => some .heldOut
  | 2 => some .forceCardOnly
  | 3 => some .noRound
  | _ => none

/-- A flag's value. -/
def ServiceFlags.get (f : ServiceFlags) : FlagName → Bool
  | .heldOut => f.heldOut
  | .forceCardOnly => f.forceCardOnly
  | .noRound => f.noRound

/-- A flag replaced. -/
def ServiceFlags.set (f : ServiceFlags) (n : FlagName) (v : Bool) : ServiceFlags :=
  match n with
  | .heldOut => { f with heldOut := v }
  | .forceCardOnly => { f with forceCardOnly := v }
  | .noRound => { f with noRound := v }

/-- The key switch as read: between two positions reads as Off (09 R167). -/
inductive KeyPosition where
  | off
  | collect
  | service
  deriving DecidableEq, Repr

/-- Read the key switch (09 R167). -/
def readKey : KeyInput → KeyPosition
  | .off => .off
  | .collect => .collect
  | .service => .service
  | .between => .off

/-! ## The calendar -/

/-- Leap years. -/
def isLeap (y : Nat) : Bool := (y % 4 == 0 && y % 100 != 0) || y % 400 == 0

/-- Days of a month. -/
def daysInMonth (y m : Nat) : Nat :=
  match m with
  | 2 => if isLeap y then 29 else 28
  | 4 => 30
  | 6 => 30
  | 9 => 30
  | 11 => 30
  | _ => 31

/-- A date in the range of 01 R4. -/
def Date.valid (d : Date) : Bool :=
  2000 ≤ d.year && d.year ≤ 2099 && 1 ≤ d.month && d.month ≤ 12 && 1 ≤ d.day &&
    d.day ≤ daysInMonth d.year d.month

/-- The date of a frame's date field, if it lies in the range of 01 R4. -/
def dateOfArg (a : DateArg) : Option Date :=
  let d : Date := ⟨2000 + a.yy, a.mm, a.dd⟩
  if d.valid then some d else none

/-- The eight-digit field of year, month and day (09, section 9.4); dates compare as these do. -/
def Date.key (d : Date) : Nat := d.year * 10000 + d.month * 100 + d.day

/-- The last date of the clock's range (01 R4). -/
def lastDate : Date := ⟨2099, 12, 31⟩

/-- The date one day on. -/
def Date.next (d : Date) : Date :=
  if d.day < daysInMonth d.year d.month then { d with day := d.day + 1 }
  else if d.month < 12 then ⟨d.year, d.month + 1, 1⟩
  else ⟨d.year + 1, 1, 1⟩

/-- Days in the months before month m. -/
def daysBefore (y : Nat) : Nat → Nat
  | 0 => 0
  | 1 => 0
  | m + 1 => daysBefore y m + daysInMonth y m

/-- The number of days since 1 January 2000. -/
def Date.dayNumber (d : Date) : Nat :=
  365 * (d.year - 2000) + (d.year - 2000 + 3) / 4 + daysBefore d.year d.month + (d.day - 1)

/-- The calendar class of a date but for the special-day list (01 R7): 1 January 2000 is a Saturday. -/
def Date.weekClass (d : Date) : DayClass :=
  match d.dayNumber % 7 with
  | 0 => .saturday
  | 1 => .sunday
  | _ => .weekday

/-- The first moment is at or before the second. -/
def Moment.atOrBefore (a b : Moment) : Bool :=
  a.date.key < b.date.key || (a.date.key == b.date.key && a.minute ≤ b.minute)

/-- Whole minutes since 1 January 2000 00:00, by which PendingSeal counts a distance (01 R14). -/
def Moment.minutes (m : Moment) : Nat := m.date.dayNumber * 1440 + m.minute

/-- The date and minute of a clock time. -/
def ClockTime.moment (t : ClockTime) : Moment := ⟨t.date, t.minute⟩

/-- The date and minute of the district clock, absent while it is Unset. -/
def State.now (s : State) : Option Moment := s.clock.time.map ClockTime.moment

/-- How far the monotonic seconds counter has advanced past a value (01 R5). -/
def State.elapsed (s : State) (since : Seconds) : Nat := (s.clock.counter - since).toNat

/-! ## Other operand forms -/

/-- The permit of PermitInsert's arguments, or its refusal by the form checks of 04 R62 and R71. A balance field beside
the presence byte of an absent balance is disregarded, whatever it holds (log entry 24). -/
def permitOfArgs (a : PermitArgs) : Except Code Permit :=
  match PermitKind.ofNumber a.kind, dateOfArg a.validFrom, dateOfArg a.validTo,
      PermitState.ofNumber a.state, yesNo a.balancePresence with
  | some kind, some vf, some vt, some st, some present =>
    if a.number == 0 || 99999999 < a.number || a.zones == 0 || 65535 < a.zones || vt.key < vf.key then
      .error .badRequest
    else
      match kind, present with
      | .visitor, false => .error .badRequest
      | .resident, true => .error .wrongKind
      | .visitor, true =>
        if Config.maxBalance < a.balance then .error .badRequest
        else .ok ⟨a.number, kind, BitVec.ofNat 16 a.zones, vf, vt, st, some a.balance⟩
      | .resident, false => .ok ⟨a.number, kind, BitVec.ofNat 16 a.zones, vf, vt, st, none⟩
  | _, _, _, _, _ => .error .badRequest

/-- The patch of PermitUpdate's arguments, none when the form checks of 04 R72 refuse it. -/
def patchOfChange (a : PermitChange) : Option PermitPatch :=
  if a.number == 0 || 99999999 < a.number then none
  else if a.state.isNone && a.dates.isNone && a.zones.isNone && a.balance.isNone then none
  else
    let state := a.state.map PermitState.ofNumber
    let dates := a.dates.map fun d =>
      match dateOfArg d.1, dateOfArg d.2 with
      | some vf, some vt => if vt.key < vf.key then none else some (vf, vt)
      | _, _ => none
    let zones := a.zones.map fun z => if z == 0 || 65535 < z then none else some (BitVec.ofNat 16 z)
    let balance := a.balance.map fun b => if 65535 < b then none else some b
    if state == some none || dates == some none || zones == some none || balance == some none then none
    else some ⟨a.number, state.join, dates.join, zones.join, balance.join⟩

/-- The registration of RegisterMachine's arguments at a register position, none when a value is out of range
(07 R146). -/
def registrationOfArgs (a : RegisterArgs) (position : Nat) : Option Registration :=
  match PermittedLine.ofNumber a.permitted, Fitted.ofNumber a.fitted with
  | some permitted, some fitted =>
    if a.machine == 0 || 999 < a.machine || 15 < a.zone || a.capacity < 100 || 4000 < a.capacity ||
        500 < a.margin then none
    else some ⟨position, a.zone, permitted, a.capacity, a.margin, fitted⟩
  | _, _ => none

/-- A machine number in the range 1 to 999 (00, Identities). -/
def machineNumber (n : Nat) : Bool := 1 ≤ n && n ≤ 999

/-- The last serial of a Join frame, none when it carries none (05 R104; log entry 22). -/
def JoinFrame.lastSerial (f : JoinFrame) : Option Nat :=
  if f.presence % 2 == 1 && 1 ≤ f.serial && f.serial ≤ Config.serials then some f.serial else none

/-- The box report of a Join frame, none when the machine holds no box (05 R104). -/
def JoinFrame.boxReport (f : JoinFrame) : Option Nat :=
  if f.presence / 2 % 2 == 1 then some f.box else none

/-- The span values of the tariff guard (01, section 1.5). -/
def validSpan (n : Nat) : Bool := n == 0 || n == 1 || n == 2 || n == 4 || n == 8 || n == 16

end Sys2Proof.Machine
end

