-- ==== Sys2Proof/Machine/Formats.lean ====
section
/-! DEFINITION. The layouts of notices, answers, drop records and line frames (12). -/

namespace Sys2Proof.Machine

/-! ## Fields (12 R202) -/

/-- A one-byte field. -/
def byte1 (n : Nat) : List Byte := [BitVec.ofNat 8 n]

/-- A two-byte field, most significant byte first. -/
def byte2 (n : Nat) : List Byte := [BitVec.ofNat 8 (n / 256), BitVec.ofNat 8 n]

/-- A three-byte field, most significant byte first. -/
def byte3 (n : Nat) : List Byte :=
  [BitVec.ofNat 8 (n / 65536), BitVec.ofNat 8 (n / 256), BitVec.ofNat 8 n]

/-- A four-byte field, most significant byte first. -/
def byte4 (n : Nat) : List Byte :=
  [BitVec.ofNat 8 (n / 16777216), BitVec.ofNat 8 (n / 65536), BitVec.ofNat 8 (n / 256), BitVec.ofNat 8 n]

/-- A yes or no field: 1 for yes, 0 for no (09, section 9.4; log entry 62 where 12 gives no value). -/
def flagByte (b : Bool) : List Byte := byte1 (if b then 1 else 0)

/-- A date field; absent is 255, 0, 0. -/
def dateBytes : Option Date → List Byte
  | some d => byte1 (d.year - 2000) ++ byte1 d.month ++ byte1 d.day
  | none => byte1 255 ++ byte1 0 ++ byte1 0

/-- A time field: date, then minute. -/
def momentBytes : Option Moment → List Byte
  | some m => dateBytes (some m.date) ++ byte2 m.minute
  | none => dateBytes none ++ byte2 0

/-- A serial field; absent is 0. -/
def serialBytes (n : Option Nat) : List Byte := byte3 (n.getD 0)

/-! ## Codes of states (09, section 9.4, and 12 R202) -/

/-- Box state codes. -/
def BoxState.number : BoxState → Nat
  | .unknown => 0
  | .installed _ => 1
  | .out => 2

/-- The id of an Installed box, 0 otherwise. -/
def BoxState.idField : BoxState → Nat
  | .installed id => id
  | _ => 0

/-- Last removal result codes (09, section 9.4). That ReadMachine carries the same numbers is the model's reading (log entry
65). -/
def Removal.number : Removal → Nat
  | .nothing => 0
  | .recorded _ => 1
  | .held => 2
  | .noDrop => 3

/-- The drop number of a removal result, 0 when it has none. -/
def Removal.dropField : Removal → Nat
  | .recorded n => n
  | _ => 0

/-- Service state codes. -/
def ServiceState.number (x : ServiceState) : Nat := x.ctorIdx

/-- Round entry state codes, from 1. -/
def EntryState.number (x : EntryState) : Nat := x.ctorIdx + 1

/-- Severity codes: those of ReadSummary (12 R204), taken for FaultRaised too (log entry 17). -/
def Severity.number (x : Severity) : Nat := x.ctorIdx

/-- Hold state codes. -/
def HoldState.number (x : HoldState) : Nat := x.ctorIdx

/-- Key switch codes in the order of 10 R186 (log entry 17). -/
def KeyPosition.number (x : KeyPosition) : Nat := x.ctorIdx

/-- Link state codes: Absent, Active, Silent. -/
def Link.number : Link → Nat
  | .absent => 0
  | .active _ => 1
  | .silent _ => 2

/-- The line and slot of a link, absent when Absent. -/
def Link.fields? : Link → Option LinkFields
  | .absent => none
  | .active f => some f
  | .silent f => some f

/-- Permitted line codes, as RegisterMachine carries them (log entry 17). -/
def PermittedLine.number (x : PermittedLine) : Nat := x.ctorIdx

/-- Fitted kinds codes, as RegisterMachine carries them (log entry 17). -/
def Fitted.number (x : Fitted) : Nat := x.ctorIdx

/-- The flags byte of ReadMachine: bit f − 1 set for flag f (12 R204). -/
def ServiceFlags.bits (f : ServiceFlags) : Nat :=
  (if f.heldOut then 1 else 0) + (if f.forceCardOnly then 2 else 0) + (if f.noRound then 4 else 0)

/-- The result code of a permit cause (04 R65), as PERMIT_REFUSED carries it (log entry 17). -/
def PermitCause.code : PermitCause → Code
  | .notFound => .notFound
  | .wrongKind => .wrongKind
  | .revoked => .revoked
  | .suspended => .suspended
  | .notCurrent => .notCurrent
  | .wrongZone => .wrongZone

/-- The kind code of a request's frame (12 R203). -/
def RequestKind.frameCode : RequestKind → Nat
  | .quoteRequest => 4
  | .saleCommit => 5
  | .boxRemoved => 6
  | .boxInserted => 7

/-! ## Notices (12 R205) -/

/-- A notice: its kind, its length, its contents. -/
def noticeBytes (kind : Nat) (contents : List Byte) : List Byte :=
  byte1 kind ++ byte1 (contents.length + 2) ++ contents

/-- FaultRaised (12 R205); the numbers of the severities are log entry 17. -/
def faultRaisedNotice (machine : Nat) (k : FaultKind) (sev : Severity) (isRepeat : Bool) (count : Nat)
    (time : Option Moment) : List Byte :=
  noticeBytes 0 (byte2 machine ++ byte1 k.number ++ byte1 sev.number ++ flagByte isRepeat ++ byte1 count ++
    momentBytes time)

/-- FaultCleared (12 R205); the cause is numbered in the order of 06 R112 (log entry 17). -/
def faultClearedNotice (machine : Nat) (k : FaultKind) (cause : ClearCause) (time : Option Moment) : List Byte :=
  noticeBytes 1 (byte2 machine ++ byte1 k.number ++ byte1 cause.ctorIdx ++ momentBytes time)

def dropRecordedNotice (r : DropRecord) : List Byte :=
  noticeBytes 2 (byte2 r.number ++ byte2 r.snapshot.machine ++ byte2 (r.snapshot.round.getD 0) ++
    byte4 r.snapshot.cash)

/-- How many entries of a round stand in a state. -/
def Round.count (r : Round) (st : EntryState) : Nat := (r.entries.filter fun e => e.state == st).length

def roundClosedNotice (r : Round) : List Byte :=
  noticeBytes 3 (byte2 r.number ++ byte1 (r.count .collected) ++ byte1 (r.count .skipped) ++
    byte1 (r.count .unfinished) ++ byte4 r.cash ++ byte1 r.openedBy.ctorIdx ++ momentBytes r.openedAt)

def tariffActivatedNotice (covered : List (Nat × Nat)) : List Byte :=
  noticeBytes 4 (byte1 covered.length ++ covered.flatMap fun zg => byte1 zg.1 ++ byte1 zg.2)

def pendingAbandonedNotice (p : PendingSet) : List Byte :=
  noticeBytes 5 (dateBytes (some p.activation.date) ++ byte2 p.activation.minute ++ byte1 p.zones.length ++
    p.zones.flatMap fun z => byte1 z.zone)

def holdGrantedNotice (resumed : Bool) : List Byte := noticeBytes 6 (flagByte resumed)

/-- HoldInterrupted is 3 bytes long and the manual gives its third byte no value: it is the free value of log
entry 8. -/
def holdInterruptedNotice (unstated : Byte) : List Byte := noticeBytes 7 [unstated]

def holdEndedNotice : List Byte := noticeBytes 8 (byte1 0)

/-- MachineJoined (12 R205): the number of the line is log entry 17; 1 if reconciled, and 0 otherwise (log entry 62). -/
def machineJoinedNotice (machine : Nat) (line : LineId) (slot : Nat) (reconciled : Bool) : List Byte :=
  noticeBytes 9 (byte2 machine ++ byte1 (lineNumber line) ++ byte1 slot ++ flagByte reconciled)

/-- RestartComplete (12 R205); the cause is numbered in the order of 11 R200 (log entry 17), and the frozen latch is 1 when
set and 0 when clear (log entry 62). -/
def restartCompleteNotice (cause : StartCause) (clockSet : Bool) (battery : Battery) (latch : Bool)
    (machines held unfetched : Nat) : List Byte :=
  noticeBytes 10 (byte1 cause.ctorIdx ++ byte1 (if clockSet then 0 else 1) ++ byte1 battery.ctorIdx ++
    flagByte latch ++ byte2 machines ++ byte2 held ++ byte2 unfetched)

/-! ## Records in results (12 R204, R205) -/

/-- The drop record as FetchDrop returns it, 45 bytes (12 R205). -/
def DropRecord.bytes (r : DropRecord) : List Byte :=
  byte2 r.number ++ byte2 r.snapshot.machine ++ byte2 (r.snapshot.round.getD 0) ++ byte2 r.snapshot.box ++
    momentBytes r.snapshot.time ++ r.snapshot.counts.toList.flatMap byte2 ++ byte4 r.snapshot.cash ++
    byte4 r.snapshot.unitemised ++ byte2 r.snapshot.sales ++ serialBytes r.snapshot.first ++
    serialBytes r.snapshot.last

/-- A permit record laid out as the arguments of PermitInsert (12 R204). -/
def Permit.bytes (p : Permit) : List Byte :=
  byte4 p.number ++ byte1 p.kind.ctorIdx ++ byte2 p.zones.toNat ++ dateBytes (some p.validFrom) ++
    dateBytes (some p.validTo) ++ byte1 p.state.ctorIdx ++ flagByte p.balance.isSome ++
    byte2 (p.balance.getD 0)

/-- A fault entry of ReadMachine (12 R204). -/
def FaultEntry.bytes (e : FaultEntry) (k : FaultKind) : List Byte :=
  byte1 k.number ++ flagByte e.active ++ byte1 e.count ++ momentBytes e.firstRaised ++
    momentBytes e.lastRaised ++ momentBytes e.lastCleared

/-! ## Answers on the lines (12 R203) -/

/-- The flags byte of a reply: 1 UNVERIFIED, 2 CLAMPED, 4 MIN_APPLIED. -/
def replyFlags (unverified clamped minApplied : Bool) : Nat :=
  (if unverified then 1 else 0) + (if clamped then 2 else 0) + (if minApplied then 4 else 0)

/-- A refusal of a quote, with the flags byte that follows once UNVERIFIED applied. -/
def quoteRefusal (c : Code) (data : List Byte) (unverified : Bool) : Answer :=
  ⟨c.byte, data ++ (if unverified then byte1 (replyFlags true false false) else [])⟩

/-- The FREE answer: valid-until and flags. -/
def freeAnswer (validUntil : Moment) (unverified : Bool) : Answer :=
  ⟨Code.free.byte, momentBytes (some validUntil) ++ byte1 (replyFlags unverified false false)⟩

/-- The money of a QUOTED answer: the useful amount, or the cost (02 R43). -/
def QuotePrice.shown : QuotePrice → Nat
  | .byMoney _ useful => useful
  | .byTime cost => cost

/-- The QUOTED answer. -/
def quotedAnswer (q : OpenQuote) (unverified clamped minApplied : Bool) (stop : StopReason) : Answer :=
  ⟨Code.quoted.byte, byte1 q.token ++ momentBytes (some q.expiry) ++ byte2 q.minutes ++ byte4 q.price.shown ++
    byte1 (replyFlags unverified clamped minApplied) ++ byte1 stop.ctorIdx⟩

/-- The ACCEPTED answer: token and serial. -/
def acceptedAnswer (token serial : Nat) : Answer := ⟨Code.accepted.byte, byte1 token ++ byte3 serial⟩

/-- The PERMIT_REFUSED answer: the lookup result. -/
def permitRefusedAnswer (c : PermitCause) : Answer := ⟨Code.permitRefused.byte, byte1 c.code.number⟩

/-- The code number of a removal part, 0 for none. -/
def Removal.codeNumber : Removal → Nat
  | .nothing => 0
  | .recorded _ => Code.recorded.number
  | .held => Code.held.number
  | .noDrop => Code.noDrop.number

/-- A box answer: removal part, drop number, insertion part (12 R203). The insertion part is none, or whether the
box conflicts. The first argument is the code of an answer with neither part, which the manual does not give
(log entry 8). -/
def boxAnswer (unstated : Byte) (removal : Removal) (insertion : Option Bool) : Answer :=
  let ins : Nat :=
    match insertion with
    | none => 0
    | some false => Code.installed.number
    | some true => Code.conflict.number
  let code : Byte :=
    if removal.codeNumber ≠ 0 then BitVec.ofNat 8 removal.codeNumber
    else if ins ≠ 0 then BitVec.ofNat 8 ins
    else unstated
  ⟨code, byte1 removal.codeNumber ++ byte2 removal.dropField ++ byte1 ins⟩

/-! ## Line frames as sent (12 R203) -/

/-- One bit of the CRC-16 with polynomial x^16 + x^12 + x^5 + 1. -/
def crcBit (crc : BitVec 16) (bit : Bool) : BitVec 16 :=
  if crc.msb != bit then (crc <<< 1) ^^^ 0x1021#16 else crc <<< 1

/-- One byte into the CRC, most significant bit first. -/
def crcByte (crc : BitVec 16) (b : Byte) : BitVec 16 :=
  [7, 6, 5, 4, 3, 2, 1, 0].foldl (fun c i => crcBit c (b.getLsbD i)) crc

/-- The CRC-16 of a list of bytes, started from 0xFFFF. -/
def crc16 (bytes : List Byte) : BitVec 16 := bytes.foldl crcByte 0xFFFF#16

/-- A line frame around its contents: sync, length, contents, CRC with its high byte first. -/
def lineFrame (contents : List Byte) : List Byte :=
  let body := byte1 contents.length ++ contents
  0xC3#8 :: body ++ byte2 (crc16 body).toNat

/-- The contents of a frame the PD64 sends (12 R203). With no refusal note both the note's kind, as the rule says, and its
code are 0 (log entry 61). -/
def LineSent.contents : LineSent → List Byte
  | .nothing => []
  | .cycle (some t) n =>
    byte1 16 ++ byte1 0 ++ dateBytes (some t.date) ++ byte2 t.minute ++ byte1 t.second ++ byte1 n
  | .cycle none n => byte1 16 ++ byte1 1 ++ dateBytes none ++ byte2 0 ++ byte1 0 ++ byte1 n
  | .slot service answer note =>
    byte1 17 ++ byte1 service.number ++ [answer.code] ++ answer.data ++
      (match note with
        | some (k, c) => byte1 k.frameCode ++ [c.byte]
        | none => byte1 0 ++ byte1 0)
  | .call n place code =>
    byte1 18 ++ byte2 n ++ byte1 place ++ byte1 ((code.map Code.number).getD 0)

/-- The bytes a line carries for a frame the PD64 sends; none when it sends nothing. -/
def LineSent.bytes (f : LineSent) : List Byte :=
  match f with
  | .nothing => []
  | f => lineFrame f.contents

/-! ## The cabinet port as shifted (10 R182, 12 R204) -/

/-- The bytes of the answer buffer: code, length, data; an empty buffer holds none. -/
def answerBytes : Option Answer → List Byte
  | none => []
  | some a => a.code :: byte2 a.data.length ++ a.data

/-- The n bytes shifted out in a transaction of n bytes: the answer, then fill bytes 0x00 (10 R182). -/
def shiftedBytes (n : Nat) (a : Option Answer) : List Byte :=
  let all := answerBytes a
  all.take n ++ List.replicate (n - all.length) 0#8

/-! ## The round port as sent (09, section 9.2) -/

/-- A decimal number as characters. -/
def decimal (n : Nat) : List Char := Nat.toDigits 10 n

/-- Fields joined by commas. -/
def joinFields : List Nat → List Char
  | [] => []
  | [n] => decimal n
  | n :: rest => decimal n ++ ',' :: joinFields rest

/-- The characters of one thing the round port sends; each reply line ends with a carriage return and a line
feed. -/
def PortSent.chars : PortSent → List Char
  | .line fields => joinFields fields ++ ['\r', '\n']
  | .keyRefused => ['K', '\r', '\n']
  | .refusal c => 'R' :: ',' :: decimal c.number ++ ['\r', '\n']
  | .errorChar => ['E']
  | .lineEnd => ['\r', '\n']
  | .prompt => ['>']

end Sys2Proof.Machine
end

