-- ==== Sys2Proof/Decode.lean ====
section
/-! DEFINITION. From bytes to commands: the receivers of the machine lines (07 R127, 12 R203) and of the cabinet port
(10 R183, 12 R204), total on any bytes; then the frames that carry each command, written from the same tables. -/

namespace Sys2Proof

open Machine

/-- The command that a word of the opcode table spells. The table gives no row any bits, so no word spells one
(log entry 16). -/
def decodeTableWord (_nbits _w : Nat) : Option Instr := none

/-! ## Fields -/

/-- Bytes read as one number, most significant byte first (12 R202). -/
def beNat (bytes : List Byte) : Nat := bytes.foldl (fun n b => n * 256 + b.toNat) 0

/-- A date field. -/
def dateArg (a b c : Byte) : DateArg := ⟨a.toNat, b.toNat, c.toNat⟩

/-- Pairs of an index and a count. -/
def coinPairs : List Byte → List CoinPair
  | i :: n :: rest => ⟨i.toNat, n.toNat⟩ :: coinPairs rest
  | _ => []

/-- Bands of start minute, kind and rate. -/
def bandArgs : List Byte → List BandArg
  | a :: b :: k :: c :: d :: rest => ⟨beNat [a, b], k.toNat, beNat [c, d]⟩ :: bandArgs rest
  | _ => []

/-- Two-byte numbers. -/
def words : List Byte → List Nat
  | a :: b :: rest => beNat [a, b] :: words rest
  | _ => []

/-! ## The receiver of a machine line (07 R127, 12 R203) -/

/-- The length of the contents is one that their kind allows, and the kind is one of the seven uplink kinds. -/
def lengthAllowed (contents : List Byte) : Bool :=
  match contents with
  | [] => false
  | kind :: rest =>
    match kind.toNat with
    | 1 => contents.length == 13
    | 2 => contents.length == 3
    | 3 =>
      match rest with
      | _ :: _ :: n :: _ => n.toNat ≤ 15 && contents.length == 4 + n.toNat
      | _ => false
    | 4 => contents.length == 11
    | 5 =>
      match rest.drop 13 with
      | n :: _ => n.toNat ≤ 15 && contents.length == 15 + 2 * n.toNat
      | _ => false
    | 6 => contents.length == 3
    | 7 => contents.length == 5
    | _ => false

/-- The CRC and the length of one frame: the length byte, the contents and the two CRC bytes. -/
def frameHeard (length : Byte) (contents : List Byte) (crcHigh crcLow : Byte) : Bool :=
  (crc16 (length :: contents)).toNat == beNat [crcHigh, crcLow] && lengthAllowed contents

/-- Take the first frame that is heard in the bytes of an uplink phase: bytes are disregarded until a sync byte; a
frame that is not heard is discarded and the receiver goes on after it (log entry 66). The first argument bounds the frames
tried. -/
def hearFrame : Nat → List Byte → Option (List Byte)
  | 0, _ => none
  | fuel + 1, bytes =>
    match bytes.dropWhile (· != 0xC3#8) with
    | _ :: length :: rest =>
      let contents := rest.take length.toNat
      match rest.drop length.toNat with
      | high :: low :: after =>
        if frameHeard length contents high low then some contents else hearFrame fuel after
      | _ => none
    | _ => none

/-- The contents of the frame heard in an uplink phase, none when none is heard. -/
def hear (bytes : List Byte) : Option (List Byte) := hearFrame (bytes.length + 1) bytes

/-- The command that heard contents make in a window (07 R128, R129): window 0 takes Join alone, a slot takes
every other kind. -/
def uplinkOfContents (line : LineId) (window : Nat) (contents : List Byte) : Instr :=
  match window, contents with
  | 0, [k, m1, m0, pr, s2, s1, s0, c3, c2, c1, c0, b1, b0] =>
    if k.toNat = 1 then
      .join line ⟨beNat [m1, m0], pr.toNat, beNat [s2, s1, s0], beNat [c3, c2, c1, c0], beNat [b1, b0]⟩
    else .nothingHeard line 0
  | 0, _ => .nothingHeard line 0
  | slot, k :: m1 :: m0 :: rest =>
    let machine := beNat [m1, m0]
    match k.toNat, rest with
    | 2, _ => .leave line slot machine
    | 3, _ :: kinds => .statusFrame line slot machine (kinds.map BitVec.toNat)
    | 4, [rc, pk, a1, a0, p3, p2, p1, p0] =>
      .quoteRequest line slot ⟨machine, rc.toNat, pk.toNat, beNat [a1, a0], beNat [p3, p2, p1, p0]⟩
    | 5, t :: s2 :: s1 :: s0 :: pk :: a1 :: a0 :: u3 :: u2 :: u1 :: u0 :: _ :: coins =>
      .saleCommit line slot ⟨machine, t.toNat, beNat [s2, s1, s0], pk.toNat, beNat [a1, a0],
        beNat [u3, u2, u1, u0], coinPairs coins⟩
    | 6, _ => .boxRemoved line slot machine
    | 7, [b1, b0] => .boxInserted line slot machine (beNat [b1, b0])
    | _, _ => .nothingHeard line slot
  | slot, _ => .nothingHeard line slot

/-- The command that the bytes of an uplink phase make: what was heard, or that nothing was. -/
def uplinkCommand (line : LineId) (window : Nat) (bytes : List Byte) : Instr :=
  match hear bytes with
  | some contents => uplinkOfContents line window contents
  | none => .nothingHeard line window

/-! ## The receiver of the cabinet port (10 R183, 12 R204) -/

/-- Take a field of n bytes from the front when its bit of the mask is set (12 R204); bit 0 marks the first value (log
entry 59). -/
def maskedField (mask : Byte) (bit n : Nat) (bytes : List Byte) : Option (List Byte) × List Byte :=
  if mask.getLsbD bit then (some (bytes.take n), bytes.drop n) else (none, bytes)

/-- The bytes that a mask selects, by the sizes of the fields it marks. -/
def maskedLength (mask : Byte) (sizes : List Nat) : Nat :=
  (sizes.zipIdx.map fun (n, i) => if mask.getLsbD i then n else 0).sum

/-- The two dates of a PermitUpdate. -/
def twoDates (bytes : List Byte) : Option (DateArg × DateArg) :=
  match bytes with
  | [a, b, c, d, e, f] => some (dateArg a b c, dateArg d e f)
  | _ => none

/-- The command a code and its argument bytes name, none when the code names no command or does not allow the
length. The key switch is read beside the frame by the commands that ask for it. The mask of a PermitUpdate stands behind
its number, as in the table of 12 R204 (log entry 60). -/
def cabinetOfArgs (key : KeyInput) (code : Nat) (args : List Byte) : Option Instr :=
  match code, args with
  | 1, [] => some (.status key)
  | 2, [] => some .result
  | 3, [] => some .readSummary
  | 4, [] => some .fetchDrop
  | 5, [] => some .holdRequest
  | 6, [] => some .holdRelease
  | 7, [] => some (.pendingSeal key)
  | 8, [] => some (.pendingCancel key)
  | 9, [] => some .orderlyRestart
  | 10, [a, b] => some (.readNotices (beNat [a, b]))
  | 11, [a, b] => some (.advanceNotices (beNat [a, b]))
  | 12, [a, b, c, d, e, f] => some (.setClock (dateArg a b c) (beNat [d, e]) f.toNat)
  | 13, [a] => some (.overrideToday a.toNat)
  | 14, [a, b, c] => some (.specialDayAdd (dateArg a b c))
  | 15, [a, b, c] => some (.specialDayRemove (dateArg a b c))
  | 16, [a, b, c, d, e] => some (.pendingBegin key (dateArg a b c) (beNat [d, e]))
  | 17, z :: a :: b :: c :: d :: e :: f :: g :: h :: i :: n :: bands =>
    if n.toNat ≤ 15 && bands.length == 5 * n.toNat then
      some (.pendingZone key ⟨z.toNat, beNat [a, b], beNat [c, d], e.toNat, beNat [f, g], h.toNat, i.toNat,
        bandArgs bands⟩)
    else none
  | 18, [a, b, c, d] => some (.setGuard key a.toNat b.toNat c.toNat d.toNat)
  | 19, [a, b, c, d, k, e, f, g, h, i, j, l, m, st, pr, n, o] =>
    some (.permitInsert ⟨beNat [a, b, c, d], k.toNat, beNat [e, f], dateArg g h i, dateArg j l m, st.toNat,
      pr.toNat, beNat [n, o]⟩)
  | 20, a :: b :: c :: d :: mask :: rest =>
    if rest.length == maskedLength mask [1, 6, 2, 2] then
      let (st, rest) := maskedField mask 0 1 rest
      let (dates, rest) := maskedField mask 1 6 rest
      let (zones, rest) := maskedField mask 2 2 rest
      let (balance, _) := maskedField mask 3 2 rest
      some (.permitUpdate ⟨beNat [a, b, c, d], st.map beNat, dates.bind twoDates, zones.map beNat,
        balance.map beNat⟩)
    else none
  | 21, [a, b, c, d] => some (.permitDelete (beNat [a, b, c, d]))
  | 22, [a, b, c, d] => some (.permitRead (beNat [a, b, c, d]))
  | 23, [a, b, z, l, c, d, e, f, k] =>
    some (.registerMachine ⟨beNat [a, b], z.toNat, l.toNat, beNat [c, d], beNat [e, f], k.toNat⟩)
  | 24, [a, b] => some (.deregisterMachine (beNat [a, b]))
  | 25, [a, b] => some (.readMachine (beNat [a, b]))
  | 26, [a, b] => some (.clearCardTotals (beNat [a, b]))
  | 27, [a, b] => some (.roundSkip (beNat [a, b]))
  | 28, [l, a, b, c, d] => some (.setSlotEnable l.toNat (beNat [a, b, c, d]))
  | 29, [a, b, c, d, e, f, g, h, i, j, k, l, m, n, o, p] =>
    some (.setDenominations ⟨beNat [a, b], beNat [c, d], beNat [e, f], beNat [g, h], beNat [i, j], beNat [k, l],
      beNat [m, n], beNat [o, p]⟩)
  | 30, mask :: rest =>
    if rest.length == maskedLength mask [2, 2, 2, 2, 2, 2, 2] then
      let (v0, rest) := maskedField mask 0 2 rest
      let (v1, rest) := maskedField mask 1 2 rest
      let (v2, rest) := maskedField mask 2 2 rest
      let (v3, rest) := maskedField mask 3 2 rest
      let (v4, rest) := maskedField mask 4 2 rest
      let (v5, rest) := maskedField mask 5 2 rest
      let (v6, _) := maskedField mask 6 2 rest
      some (.setTimers ⟨v0.map beNat, v1.map beNat, v2.map beNat, v3.map beNat, v4.map beNat, v5.map beNat,
        v6.map beNat⟩)
    else none
  | 31, [a, b, f] => some (.setFlag (beNat [a, b]) f.toNat)
  | 32, [a, b, f] => some (.clearFlag (beNat [a, b]) f.toNat)
  | 33, [a, b, k] => some (.ackFault (beNat [a, b]) k.toNat)
  | 34, n :: rest => if rest.length == 2 * n.toNat then some (.roundOpen (words rest)) else none
  | 35, [a] => if a.toNat = 1 then some .roundCloseForced else some (.roundClose a.toNat)
  | _, _ => none

/-- The command of a cabinet transaction of so many clock edges that shifted in these bytes, none when the frame
check of 10 R183 answers REJECTED. Bytes after the first 2 + L are disregarded. -/
def cabinetCommand (key : KeyInput) (edges : Nat) (bytes : List Byte) : Option Instr :=
  if edges % 8 != 0 then none
  else
    match bytes with
    | code :: length :: rest =>
      if rest.length < length.toNat then none else cabinetOfArgs key code.toNat (rest.take length.toNat)
    | _ => none

/-! ## The frames that carry the commands (12 R203, R204) -/

/-- The contents of the uplink frame that carries a command; commands that no uplink carries have none. -/
def uplinkContents : Instr → List Byte
  | .join _ f =>
    byte1 1 ++ byte2 f.machine ++ byte1 f.presence ++ byte3 f.serial ++ byte4 f.cash ++ byte2 f.box
  | .leave _ _ m => byte1 2 ++ byte2 m
  | .statusFrame _ _ m kinds => byte1 3 ++ byte2 m ++ byte1 kinds.length ++ kinds.flatMap byte1
  | .quoteRequest _ _ f =>
    byte1 4 ++ byte2 f.machine ++ byte1 f.rateClass ++ byte1 f.payKind ++ byte2 f.amount ++ byte4 f.permit
  | .saleCommit _ _ f =>
    byte1 5 ++ byte2 f.machine ++ byte1 f.token ++ byte3 f.serial ++ byte1 f.payKind ++ byte2 f.tendered ++
      byte4 f.authorisation ++ byte1 f.coins.length ++ f.coins.flatMap fun c => byte1 c.index ++ byte1 c.count
  | .boxRemoved _ _ m => byte1 6 ++ byte2 m
  | .boxInserted _ _ m b => byte1 7 ++ byte2 m ++ byte2 b
  | _ => []

/-- The three bytes of a date field. -/
def dateArgBytes (d : DateArg) : List Byte := byte1 d.yy ++ byte1 d.mm ++ byte1 d.dd

/-- A mask of the values present, bit 0 first. -/
def maskOf (present : List Bool) : Nat := present.foldr (fun b n => (if b then 1 else 0) + 2 * n) 0

/-- The code and the argument bytes of the cabinet frame that carries a command, none for other commands. -/
def cabinetArgs : Instr → Option (Nat × List Byte)
  | .status _ => some (1, [])
  | .result => some (2, [])
  | .readSummary => some (3, [])
  | .fetchDrop => some (4, [])
  | .holdRequest => some (5, [])
  | .holdRelease => some (6, [])
  | .pendingSeal _ => some (7, [])
  | .pendingCancel _ => some (8, [])
  | .orderlyRestart => some (9, [])
  | .readNotices n => some (10, byte2 n)
  | .advanceNotices n => some (11, byte2 n)
  | .setClock d m sec => some (12, dateArgBytes d ++ byte2 m ++ byte1 sec)
  | .overrideToday c => some (13, byte1 c)
  | .specialDayAdd d => some (14, dateArgBytes d)
  | .specialDayRemove d => some (15, dateArgBytes d)
  | .pendingBegin _ d m => some (16, dateArgBytes d ++ byte2 m)
  | .pendingZone _ a =>
    some (17, byte1 a.zone ++ byte2 a.minimum ++ byte2 a.maxStay ++ byte1 a.discount ++ byte2 a.visitorRate ++
      byte1 a.carryOver ++ byte1 a.dayClass ++ byte1 a.bands.length ++
      a.bands.flatMap fun b => byte2 b.start ++ byte1 b.kind ++ byte2 b.rate)
  | .setGuard _ a b c d => some (18, byte1 a ++ byte1 b ++ byte1 c ++ byte1 d)
  | .permitInsert a =>
    some (19, byte4 a.number ++ byte1 a.kind ++ byte2 a.zones ++ dateArgBytes a.validFrom ++
      dateArgBytes a.validTo ++ byte1 a.state ++ byte1 a.balancePresence ++ byte2 a.balance)
  | .permitUpdate a =>
    some (20, byte4 a.number ++
      byte1 (maskOf [a.state.isSome, a.dates.isSome, a.zones.isSome, a.balance.isSome]) ++
      (a.state.elim [] byte1) ++ (a.dates.elim [] fun d => dateArgBytes d.1 ++ dateArgBytes d.2) ++
      (a.zones.elim [] byte2) ++ (a.balance.elim [] byte2))
  | .permitDelete n => some (21, byte4 n)
  | .permitRead n => some (22, byte4 n)
  | .registerMachine a =>
    some (23, byte2 a.machine ++ byte1 a.zone ++ byte1 a.permitted ++ byte2 a.capacity ++ byte2 a.margin ++
      byte1 a.fitted)
  | .deregisterMachine n => some (24, byte2 n)
  | .readMachine n => some (25, byte2 n)
  | .clearCardTotals n => some (26, byte2 n)
  | .roundSkip n => some (27, byte2 n)
  | .setSlotEnable l e => some (28, byte1 l ++ byte4 e)
  | .setDenominations v => some (29, v.toList.flatMap byte2)
  | .setTimers a =>
    let vs := [a.lifetime, a.holdLimit, a.silence, a.release, a.period, a.threshold, a.timeout]
    some (30, byte1 (maskOf (vs.map Option.isSome)) ++ vs.flatMap fun v => v.elim [] byte2)
  | .setFlag n f => some (31, byte2 n ++ byte1 f)
  | .clearFlag n f => some (32, byte2 n ++ byte1 f)
  | .ackFault n k => some (33, byte2 n ++ byte1 k)
  | .roundOpen ms => some (34, byte1 ms.length ++ ms.flatMap byte2)
  | .roundClose a => some (35, byte1 a)
  | .roundCloseForced => some (35, byte1 1)
  | _ => none

/-- The cabinet frame that carries a command: code, length, arguments. -/
def cabinetFrame (i : Instr) : Option (List Byte) :=
  (cabinetArgs i).map fun (code, args) => byte1 code ++ byte1 args.length ++ args

/-- A cabinet command as it is decoded with the key switch at a position: the switch is read beside the frame
(log entry 2). -/
def Instr.atKey (key : KeyInput) : Instr → Instr
  | .status _ => .status key
  | .pendingSeal _ => .pendingSeal key
  | .pendingCancel _ => .pendingCancel key
  | .pendingBegin _ d m => .pendingBegin key d m
  | .pendingZone _ a => .pendingZone key a
  | .setGuard _ a b c d => .setGuard key a b c d
  | i => i

/-- The line and the window of a command that an uplink frame carries, none for other commands (07 R128, R129). -/
def Instr.uplinkAt : Instr → Option (LineId × Nat)
  | .join line _ => some (line, 0)
  | .leave line slot _ => some (line, slot)
  | .statusFrame line slot _ _ => some (line, slot)
  | .quoteRequest line slot _ => some (line, slot)
  | .saleCommit line slot _ => some (line, slot)
  | .boxRemoved line slot _ => some (line, slot)
  | .boxInserted line slot _ _ => some (line, slot)
  | _ => none

end Sys2Proof
end

