-- ==== Sys2Proof/Machine/Flags.lean ====
section
/-! DEFINITION. The levels and states that are computed from others: fault severities and blocks, the service state,
the notice output, the guard's writability, the conditions of the power states. -/

namespace Sys2Proof.Machine

/-! ## Faults (06) -/

/-- The severity of a fault kind (06, section 6.1). -/
def FaultKind.severity : FaultKind → Severity
  | .paperOut => .fault
  | .paperLow => .warning
  | .ticketJam => .fault
  | .coinJam => .fault
  | .cardReader => .fault
  | .doorOpen => .alarm
  | .batteryLow => .warning
  | .boxOut => .fault
  | .boxNearFull => .warning
  | .boxFull => .fault
  | .boxConflict => .fault
  | .cashTamper => .alarm
  | .dropHeld => .fault
  | .silent => .fault
  | .tallyGap => .warning

/-- The kinds that block cash and card both (06, section 6.1, "all"). -/
def FaultKind.blocksAll : FaultKind → Bool
  | .paperOut => true
  | .ticketJam => true
  | .doorOpen => true
  | .silent => true
  | _ => false

/-- The kinds that block cash alone. -/
def FaultKind.blocksCash : FaultKind → Bool
  | .coinJam => true
  | .boxOut => true
  | .boxFull => true
  | .boxConflict => true
  | .dropHeld => true
  | _ => false

/-- The kinds that block card alone. -/
def FaultKind.blocksCard : FaultKind → Bool
  | .cardReader => true
  | _ => false

/-- The kinds whose source is the machine: kind numbers 1 to 7. -/
def FaultKind.fromMachine (k : FaultKind) : Bool := k.number ≤ 7

/-- The kinds that are acknowledged (06 R116). -/
def FaultKind.acknowledgeable : FaultKind → Bool
  | .boxConflict => true
  | .cashTamper => true
  | .tallyGap => true
  | _ => false

/-- An entry never raised (06 R109). -/
def freshEntry : FaultEntry := ⟨false, none, none, 0, none⟩

/-- Fifteen fresh entries (06 R109). -/
def freshEntries : FaultEntries :=
  ⟨freshEntry, freshEntry, freshEntry, freshEntry, freshEntry, freshEntry, freshEntry, freshEntry, freshEntry,
    freshEntry, freshEntry, freshEntry, freshEntry, freshEntry, freshEntry⟩

/-- The entry of a kind. -/
def FaultEntries.get (f : FaultEntries) : FaultKind → FaultEntry
  | .paperOut => f.paperOut
  | .paperLow => f.paperLow
  | .ticketJam => f.ticketJam
  | .coinJam => f.coinJam
  | .cardReader => f.cardReader
  | .doorOpen => f.doorOpen
  | .batteryLow => f.batteryLow
  | .boxOut => f.boxOut
  | .boxNearFull => f.boxNearFull
  | .boxFull => f.boxFull
  | .boxConflict => f.boxConflict
  | .cashTamper => f.cashTamper
  | .dropHeld => f.dropHeld
  | .silent => f.silent
  | .tallyGap => f.tallyGap

/-- The entry of a kind replaced. -/
def FaultEntries.set (f : FaultEntries) (k : FaultKind) (e : FaultEntry) : FaultEntries :=
  match k with
  | .paperOut => { f with paperOut := e }
  | .paperLow => { f with paperLow := e }
  | .ticketJam => { f with ticketJam := e }
  | .coinJam => { f with coinJam := e }
  | .cardReader => { f with cardReader := e }
  | .doorOpen => { f with doorOpen := e }
  | .batteryLow => { f with batteryLow := e }
  | .boxOut => { f with boxOut := e }
  | .boxNearFull => { f with boxNearFull := e }
  | .boxFull => { f with boxFull := e }
  | .boxConflict => { f with boxConflict := e }
  | .cashTamper => { f with cashTamper := e }
  | .dropHeld => { f with dropHeld := e }
  | .silent => { f with silent := e }
  | .tallyGap => { f with tallyGap := e }

/-- A kind is active. -/
def FaultEntries.active (f : FaultEntries) (k : FaultKind) : Bool := (f.get k).active

/-- Some active kind has a property. -/
def FaultEntries.anyActive (f : FaultEntries) (p : FaultKind → Bool) : Bool :=
  FaultKind.all.any fun k => f.active k && p k

/-- Cash is fitted. -/
def Fitted.hasCash : Fitted → Bool
  | .card => false
  | _ => true

/-- Card is fitted. -/
def Fitted.hasCard : Fitted → Bool
  | .cash => false
  | _ => true

/-- Cash is unavailable (06 R119). -/
def cashUnavailable (fitted : Fitted) (faults : FaultEntries) (flags : ServiceFlags) : Bool :=
  !fitted.hasCash || faults.anyActive (fun k => k.blocksCash || k.blocksAll) || flags.forceCardOnly

/-- Card is unavailable (06 R119). -/
def cardUnavailable (fitted : Fitted) (faults : FaultEntries) : Bool :=
  !fitted.hasCard || faults.anyActive fun k => k.blocksCard || k.blocksAll

/-- The service state derived from fitted kinds, active faults and flags (06 R119). -/
def deriveService (fitted : Fitted) (faults : FaultEntries) (flags : ServiceFlags) : ServiceState :=
  if flags.heldOut || faults.anyActive FaultKind.blocksAll ||
      (cashUnavailable fitted faults flags && cardUnavailable fitted faults) then .outOfService
  else if cashUnavailable fitted faults flags then .cardOnly
  else if cardUnavailable fitted faults then .cashOnly
  else .inService

/-- The machine with its service state derived afresh (06 R120). -/
def MachineRecord.derived (m : MachineRecord) : MachineRecord :=
  { m with service := deriveService m.reg.fitted m.faults m.flags }

/-- The service state allows a payment kind, None counting as Card (02 R26). -/
def ServiceState.allows : ServiceState → PayKind → Bool
  | .inService, _ => true
  | .cashOnly, .cash => true
  | .cashOnly, _ => false
  | .cardOnly, .cash => false
  | .cardOnly, _ => true
  | .outOfService, _ => false

/-- The payment kind is fitted, None counting as Card (02 R26). -/
def Fitted.allows (f : Fitted) : PayKind → Bool
  | .cash => f.hasCash
  | _ => f.hasCard

/-! ## The notice output (10 R194) -/

/-- The level of the notice output: threshold reached, oldest notice timed out, or overflow. -/
def noticeLevel (a : NoticeArea) (t : Timers) (counter : Seconds) : Bool :=
  decide (t.threshold ≤ a.unread) ||
    (decide (0 < a.unread) &&
      match a.index with
      | [] => false
      | n :: _ => decide (t.timeout ≤ (counter - n.written).toNat)) ||
    a.overflow

/-! ## The tariff guard (01 R19, R20) -/

/-- The effective mode of the guard (01 R19). -/
def State.guardMode (s : State) : GuardMode :=
  if s.frozenLatch then .frozen else s.tariff.guardWord.mode

/-- The zone is marked by side and span (01 R19). -/
def GuardWord.marks (g : GuardWord) (zone : Nat) : Bool :=
  match g.side with
  | .low => decide (zone < g.span)
  | .high => decide (16 ≤ zone + g.span)

/-- The zone is guarded (01 R19). -/
def GuardWord.guards (g : GuardWord) (zone : Nat) : Bool := g.marks zone != g.complement

/-- The zone is writable at a key position (01 R20). -/
def State.writable (s : State) (key : KeyPosition) (zone : Nat) : Bool :=
  if s.tariff.guardWord.guards zone then
    match s.guardMode with
    | .opened => true
    | .keyed => key == .service
    | .frozen => false
  else true

/-! ## Conditions on the store (08) -/

/-- Some group is dirty. -/
def StoreControl.anyDirty (c : StoreControl) : Bool := c.dirty.toList.any id

/-- The operation reads. -/
def StoreWork.isRead : StoreWork → Bool
  | .lookup _ => true
  | .permitRead _ => true
  | .fetchRead _ => true
  | _ => false

/-- The operation is a checkpoint. -/
def StoreWork.isCheckpoint : StoreWork → Bool
  | .checkpoint _ => true
  | _ => false

/-- The operation programs the permit table (04 R76). -/
def StoreWork.isPermitProgram : StoreWork → Bool
  | .decrement _ => true
  | .giveBack _ => true
  | .permitInsert _ => true
  | .permitUpdate _ => true
  | .permitDelete _ => true
  | _ => false

/-- A permit-table program is in progress or suspended (04 R76). -/
def StoreControl.permitProgram (c : StoreControl) : Bool :=
  match c.holder with
  | some h => h.op.work.isPermitProgram
  | none => false

/-- A checkpoint is in progress. -/
def StoreControl.checkpointHeld (c : StoreControl) : Bool :=
  match c.holder with
  | some h => h.op.work.isCheckpoint
  | none => false

/-- A checkpoint is waiting. -/
def StoreControl.checkpointWaits (c : StoreControl) : Bool := c.queue.any fun o => o.work.isCheckpoint

/-- A checkpoint of a group is waiting. -/
def StoreControl.groupWaits (c : StoreControl) (g : Nat) : Bool := c.queue.any fun o => o.work == .checkpoint g

/-- The next dirty group at or after the round-robin pointer, in cyclic order (08 R161). -/
def StoreControl.nextDirty (c : StoreControl) : Option Nat :=
  ([0, 1, 2, 3, 4, 5, 6, 7].map fun i => (c.pointer + i) % 8).find? fun g => c.dirty.get g

/-- A write holds the array, granted or suspended (11 R197). -/
def StoreControl.writeHeld (c : StoreControl) : Bool :=
  match c.holder with
  | some h => !h.op.work.isRead
  | none => false

/-- Every operation that is waiting, in progress or being served. -/
def StoreControl.asked (c : StoreControl) : List StoreOp :=
  (c.holder.map Holder.op).toList ++ c.serving.toList ++ c.queue

/-- The place that an operation writes a drop record to. -/
def StoreWork.dropPlace? : StoreWork → Option Nat
  | .boxWrite w => w.drop.map Prod.fst
  | .heldWrite w => some w.place
  | _ => none

/-- The operation was asked by a flush, a checkpoint or a held drop write (08 R164). -/
def StoreOp.ofFlush (o : StoreOp) : Bool := o.requester == .flush

/-- The flush is complete (08 R164). -/
def StoreControl.flushDrained (c : StoreControl) : Bool :=
  !c.anyDirty && !c.queue.any StoreOp.ofFlush &&
    match c.holder with
    | some h => !h.op.ofFlush
    | none => true

/-- The conditions of 11 R197 hold. -/
def StoreControl.drained (c : StoreControl) : Bool :=
  c.flushDrained && !c.queue.any (fun o => o.cls ≤ 2) && !c.writeHeld

/-- The condition of 08 R161 for asking a trickle checkpoint. -/
def StoreControl.trickleDue (c : StoreControl) : Bool :=
  decide (0 < c.backlog) && c.anyDirty && !c.checkpointWaits && !c.checkpointHeld &&
    !c.queue.any fun o => o.cls ≤ 5

/-- The PD64 takes commands at its cabinet and round ports (11 R195). -/
def PowerState.listens : PowerState → Bool
  | .running => true
  | .flushing => true
  | .parked => true
  | _ => false

/-- Lookups are UNVERIFIED, decrements held and returns kept waiting (04, section 4.5). -/
def HoldState.closed : HoldState → Bool
  | .granted => true
  | .interrupted => true
  | _ => false

end Sys2Proof.Machine
end

