-- ==== Sys2Proof/Machine/Memory.lean ====
section
/-! DEFINITION. The addressed memory of the block: the ring of the notice area, 4096 bytes at offsets 0 to 4095
(10, section 10.2), as cells in one canonical form. An unlisted offset reads as 0 (log entry 6). -/

namespace Sys2Proof.Machine

/-- What an offset that is not listed reads as (log entry 6). -/
def unlistedByte : Byte := 0

/-- The canonical form from an offset on: offsets rise strictly, none is listed with what an unlisted offset reads
as, and all lie inside the notice area. -/
def cellsFrom : Nat → List Host.Cell → Bool
  | _, [] => true
  | low, (a, b) :: rest => low ≤ a && a < Config.noticeAreaBytes && b != unlistedByte && cellsFrom (a + 1) rest

/-- The canonical form holds. -/
def cellsWf (cells : List Host.Cell) : Bool := cellsFrom 0 cells

/-- The byte at an offset. -/
def readCell : List Host.Cell → Nat → Byte
  | [], _ => unlistedByte
  | (a, b) :: rest, x => if a = x then b else readCell rest x

/-- Put a byte at an offset, keeping the canonical form. -/
def writeCell : List Host.Cell → Nat → Byte → List Host.Cell
  | [], x, v => if v = unlistedByte then [] else [(x, v)]
  | (a, b) :: rest, x, v =>
    if x < a then (if v = unlistedByte then (a, b) :: rest else (x, v) :: (a, b) :: rest)
    else if x = a then (if v = unlistedByte then rest else (a, v) :: rest)
    else (a, b) :: writeCell rest x v

/-- The offset that follows, offset 0 following offset 4095 (10, section 10.2). -/
def ringOffset (x : Nat) : Nat := x % Config.noticeAreaBytes

/-- Lay bytes from an offset onward, across the end of the ring (10 R189). -/
def writeRing (cells : List Host.Cell) (start : Nat) : List Byte → List Host.Cell
  | [] => cells
  | v :: rest => writeRing (writeCell cells (ringOffset start) v) (start + 1) rest

/-- Take n bytes from an offset onward, across the end of the ring (10 R191). -/
def readRing (cells : List Host.Cell) (start : Nat) : Nat → List Byte
  | 0 => []
  | n + 1 => readCell cells (ringOffset start) :: readRing cells (start + 1) n

end Sys2Proof.Machine
end

