-- ==== Sys2Proof/Machine/Ops.lean ====
section
/-! DEFINITION. The named operations that the meanings share: machines, notices, faults, replies, the store's arbiter,
the bulk-load hold, the backlog, starts and parking, and the two ports' answers. -/

namespace Sys2Proof.Machine

/-! ## Machines -/

/-- The registered machine with a number (07 R145). -/
def State.machine? (s : State) (n : Nat) : Option MachineRecord := s.machines.find? fun m => m.number == n

/-- Change the machine with a number, if it is registered. -/
def State.onMachine (s : State) (n : Nat) (f : MachineRecord → MachineRecord) : State :=
  { s with machines := s.machines.map fun m => if m.number = n then f m else m }

/-- A machine's group: its register position divided by 8 (07, section 7.6). -/
def MachineRecord.group (m : MachineRecord) : Nat := m.reg.position / 8

/-- A zone of the working table. -/
def State.zone (s : State) (z : Nat) : ZoneEntry := s.tariff.zones.getD z ⟨factoryTariff, 0⟩

/-- Put a number into an ascending list, once. -/
def insertNumber (n : Nat) : List Nat → List Nat
  | [] => [n]
  | x :: rest => if n < x then n :: x :: rest else if n = x then x :: rest else x :: insertNumber n rest

/-! ## Notices (10) -/

/-- Bytes of a notice with its fill byte, so that the next starts at an even offset (10 R189). -/
def noticeSpan (bytes : List Byte) : List Byte := if bytes.length % 2 = 0 then bytes else bytes ++ [0#8]

/-- Write a notice into the area, or set the overflow flag when its span exceeds the free space (10 R189, R193). -/
def NoticeArea.write (a : NoticeArea) (bytes : List Byte) (counter : Seconds) : NoticeArea :=
  let laid := noticeSpan bytes
  if laid.length + a.unread ≤ Config.noticeAreaBytes then
    { a with
      ring := writeRing a.ring a.writePos laid
      writePos := ringOffset (a.writePos + laid.length)
      unread := a.unread + laid.length
      index := a.index ++ [⟨a.writePos, laid.length, counter⟩] }
  else { a with overflow := true }

/-- Decide the notice output afresh (10 R194). -/
def decideOutput (s : State) : State :=
  { s with notices := { s.notices with output := noticeLevel s.notices s.timers s.clock.counter } }

/-- Hand a notice to the Cabinet Port (10 R189). -/
def notify (bytes : List Byte) (s : State) : State :=
  decideOutput { s with notices := s.notices.write bytes s.clock.counter }

/-! ## Faults (06) -/

/-- An entry after a raise (06 R110, R111). -/
def FaultEntry.raised (e : FaultEntry) (t : Option Moment) : FaultEntry :=
  { e with
    active := true
    firstRaised := if e.count = 0 then t else e.firstRaised
    lastRaised := t
    count := min (e.count + 1) 255 }

/-- An entry after a clear (06 R112). -/
def FaultEntry.cleared (e : FaultEntry) (t : Option Moment) : FaultEntry :=
  { e with active := false, lastCleared := t }

/-- The higher of two severities, none being lowest (06 R121). -/
def Severity.join (a : Option Severity) (b : Severity) : Option Severity :=
  match a with
  | none => some b
  | some x => if x.number < b.number then some b else some x

/-- The summary with a raise added (06 R121). -/
def Summary.add (x : Summary) (machine : Nat) (k : FaultKind) : Summary :=
  ⟨insertNumber machine x.machines, insertNumber k.number x.kinds, Severity.join x.highest k.severity⟩

/-- A machine after a change of one fault entry, its service state derived (06 R120). -/
def MachineRecord.withEntry (m : MachineRecord) (k : FaultKind) (e : FaultEntry) : MachineRecord :=
  { m with faults := m.faults.set k e }.derived

/-- Raise a fault kind of a machine: first raise or repeat raise (06 R110, R111). A machine that is not registered
has no entries (R113). -/
def raiseFault (n : Nat) (k : FaultKind) (s : State) : State :=
  match s.machine? n with
  | none => s
  | some m =>
    let old := m.faults.get k
    let new := old.raised s.now
    let s := s.onMachine n fun m => m.withEntry k new
    let s := { s with summary := s.summary.add n k }
    notify (faultRaisedNotice n k k.severity old.active new.count s.now) s

/-- Raise a kind only where it is not active (03 R59, 05 R107). -/
def raiseInactive (n : Nat) (k : FaultKind) (s : State) : State :=
  match s.machine? n with
  | none => s
  | some m => if m.faults.active k then s else raiseFault n k s

/-- Clear a fault kind of a machine; a kind that is not active is left as it is (06 R112). -/
def clearFault (n : Nat) (k : FaultKind) (cause : ClearCause) (s : State) : State :=
  match s.machine? n with
  | none => s
  | some m =>
    let old := m.faults.get k
    if old.active then
      let s := s.onMachine n fun m => m.withEntry k (old.cleared s.now)
      notify (faultClearedNotice n k cause s.now) s
    else s

/-! ## Replies and requests (07) -/

/-- Make a reply ready for the request that a piece of work answers; a request discarded meanwhile gets none
(07 R130, R133). -/
def giveReply (n id : Nat) (a : Answer) (s : State) : State :=
  s.onMachine n fun m =>
    match m.request with
    | some r => if r.id = id then { m with request := some { r with reply := some a } } else m
    | none => m

/-- A machine whose pending request and open quote are discarded (07 R133, 03 R58). -/
def MachineRecord.discarded (m : MachineRecord) : MachineRecord := { m with request := none, openQuote := none }

/-- Release a machine's slot (07 R136). -/
def releaseSlot (n : Nat) (s : State) : State :=
  s.onMachine n fun m => { m.discarded with link := .absent }

/-- The machine that the slot map holds in a slot (07 R134). -/
def State.holder? (s : State) (line : LineId) (slot : Nat) : Option MachineRecord :=
  s.machines.find? fun m =>
    match m.link.fields? with
    | some f => f.line == line && f.slot == slot
    | none => false

/-- A line's controller. -/
def State.line (s : State) : LineId → LineState
  | .a => s.lineA
  | .b => s.lineB

/-- Change a line's controller. -/
def State.onLine (s : State) (line : LineId) (f : LineState → LineState) : State :=
  match line with
  | .a => { s with lineA := f s.lineA }
  | .b => { s with lineB := f s.lineB }

/-- Record what an uplink leaves for the downlink of its window. -/
def setHeard (line : LineId) (h : Heard) (s : State) : State := s.onLine line fun l => { l with heard := h }

/-- Put a frame on a line. -/
def sendLine (line : LineId) (f : LineSent) (s : State) : State := s.onLine line fun l => { l with sent := f }

/-! ## Open quotes (03) -/

/-- A quote's lifetime has run out (03 R56). -/
def State.quoteExpired (s : State) (q : OpenQuote) : Bool := decide (s.timers.lifetime ≤ s.elapsed q.issued)

/-- Return a claimed quote to open: it is discarded instead when its lifetime has run out (03 R49, R56). -/
def reopenQuote (n : Nat) (q : OpenQuote) (s : State) : State :=
  if s.quoteExpired q then s else s.onMachine n fun m => { m with openQuote := some q }

/-! ## Permit table (04) -/

/-- The record of a permit number (04 R63). -/
def findPermit (table : List Permit) (n : Nat) : Option Permit := table.find? fun p => p.number == n

/-- A record of the rate class's kind (04 R65). -/
def PermitKind.serves : PermitKind → RateClass → Bool
  | .resident, .resident => true
  | .visitor, .visitor => true
  | _, _ => false

/-- The first cause of 04 R65 that refuses a permit, none when it is VALID; an absent date gives NOT_CURRENT
(R68). -/
def permitCause (found : Option Permit) (rate : RateClass) (date : Option Date) (zone : Nat) :
    Option PermitCause :=
  match found with
  | none => some .notFound
  | some p =>
    if !p.kind.serves rate then some .wrongKind
    else if p.state = .revoked then some .revoked
    else if p.state = .suspended then some .suspended
    else
      match date with
      | none => some .notCurrent
      | some d =>
        if d.key < p.validFrom.key || p.validTo.key < d.key then some .notCurrent
        else if !p.zones.getLsbD zone then some .wrongZone
        else none

/-- What a decrement decides when it is performed (04 R68). -/
def decideDecrement (w : DecrementWork) (s : State) : DecrementResult :=
  let found := findPermit s.nv.permits w.permit
  match permitCause found .visitor (s.clock.time.map ClockTime.date) w.zone with
  | some c => .refused c
  | none => if ((found.bind Permit.balance).getD 0) < w.minutes then .short else .taken

/-! ## The arbiter (08) -/

/-- Change the Store Controller's state. -/
def State.onStore (s : State) (f : StoreControl → StoreControl) : State := { s with store := f s.store }

/-- An operation joins the queue of its class (08 R153). -/
def enqueue (op : StoreOp) (s : State) : State := s.onStore fun c => { c with queue := c.queue ++ [op] }

/-- An operation takes the array; classes 4 to 6 that program it are suspendable (08 R152, R153). -/
def takeArray (op : StoreOp) (data : GrantData) (s : State) : State :=
  s.onStore fun c =>
    { c with holder := some ⟨op, 0, !op.work.isRead && decide (4 ≤ op.cls), data⟩ }

/-- The image of a group: the checkpointed fields of its machines (08 R158, R159). -/
def imageOf (g : Nat) (s : State) : List ImageEntry :=
  (s.machines.filter fun m => m.group == g).map fun m =>
    ⟨m.number, m.reg.position, m.tally, m.cards, m.accepted⟩

/-- End a decrement that is granted while the hold is Granted or Interrupted: its commit is answered
PERMIT_UNAVAILABLE and its quote returned to open (03 R53, 04 R68), or discarded where the machine has opened another
meanwhile, be it open still or not (03 R60). -/
def endHeldDecrement (w : DecrementWork) (s : State) : State :=
  match s.machine? w.machine with
  | none => s
  | some m =>
    match m.commit with
    | none => s
    | some c =>
      if c.id = w.id then
        let s := s.onMachine w.machine fun m => { m with commit := none }
        let s := if c.superseded then s else reopenQuote w.machine c.quote s
        giveReply w.machine w.id Code.permitUnavailable.plain s
      else s

/-- Put a return on the list of waiting returns (04 R69). -/
def keepReturn (r : Return) (s : State) : State :=
  { s with permits := { s.permits with waitingReturns := s.permits.waitingReturns ++ [r] } }

/-- Grant the array to an operation (08 R153), with what it takes up at its grant: a decrement decides (04 R68), a
checkpoint takes its image, clears its mark and moves the pointer (08 R158, R161). A decrement or a return granted
while the hold is closed ends at that moment without the array (04 R68, R69). -/
def grantOp (op : StoreOp) (s : State) : State :=
  match op.work with
  | .decrement w =>
    if s.permits.hold.closed then endHeldDecrement w s else takeArray op (.decision (decideDecrement w s)) s
  | .giveBack r => if s.permits.hold.closed then keepReturn r s else takeArray op .nothing s
  | .checkpoint g =>
    let image := imageOf g s
    takeArray op (.image image)
      (s.onStore fun c => { c with dirty := c.dirty.set g false, pointer := (g + 1) % 8 })
  | _ => takeArray op .nothing s

/-- Take the oldest operation with a property out of a queue. -/
def takeFirst (p : StoreOp → Bool) : List StoreOp → Option (StoreOp × List StoreOp)
  | [] => none
  | o :: rest =>
    if p o then some (o, rest)
    else
      match takeFirst p rest with
      | some (x, r) => some (x, o :: r)
      | none => none

/-- The oldest operation of the lowest-numbered class that has one waiting; classes 4 to 6 are not granted while
held back (08 R153, R165). -/
def pickOp (c : StoreControl) : Option (StoreOp × List StoreOp) :=
  [1, 2, 3, 4, 5, 6].findSome? fun k =>
    takeFirst (fun o => o.cls == k && (decide (k ≤ 3) || !c.holdBack)) c.queue

/-- Grant waiting operations until one holds the array or none may be granted. The first argument bounds the
operations tried. -/
def grantNext : Nat → State → State
  | 0, s => s
  | fuel + 1, s =>
    match s.store.holder with
    | some _ => s
    | none =>
      match pickOp s.store with
      | none => s
      | some (op, rest) => grantNext fuel (grantOp op (s.onStore fun c => { c with queue := rest }))

/-- The array frees: the arbiter grants from the operations waiting (08 R153). -/
def freeArray (s : State) : State :=
  let s := s.onStore fun c => { c with freeing := false }
  grantNext (s.store.queue.length + 1) s

/-- An operation of class 1 or 2 asked in Parked withdraws the safe output and returns the PD64 to Flushing
(11 R197). -/
def leaveParked (op : StoreOp) (s : State) : State :=
  if s.power = .parked ∧ op.cls ≤ 2 then { s with power := .flushing, safe := false } else s

/-- Ask the Store Controller for an operation (08 R153 to R155): granted at once while the array is Free, a read
suspends a suspendable holder, and otherwise it waits. -/
def ask (op : StoreOp) (s : State) : State :=
  let s := leaveParked op s
  if s.store.freeing then enqueue op s
  else
    match s.store.holder with
    | none => if op.cls ≤ 3 ∨ s.store.holdBack = false then grantOp op s else enqueue op s
    | some h =>
      if op.work.isRead && h.suspendable && s.store.serving.isNone &&
          decide (h.suspensions < Config.maxSuspensions) then
        s.onStore fun c =>
          { c with serving := some op, holder := some { h with suspensions := h.suspensions + 1 } }
      else enqueue op s

/-- Ask a trickle or an urgent checkpoint of a group (08 R161, R162). -/
def askCheckpoint (g cls : Nat) (s : State) : State := ask ⟨.checkpoint g, cls, .nobody⟩ s

/-- Ask a flush's checkpoint of a group (08 R164). -/
def askFlushCheckpoint (g : Nat) (s : State) : State := ask ⟨.checkpoint g, 1, .flush⟩ s

/-- Mark a group dirty (08 R158); while a flush is in progress, or the PD64 is Flushing or Parked, it is given its
class-1 checkpoint at that event (08 R164, 11 R197). -/
def markDirty (g : Nat) (s : State) : State :=
  let s := s.onStore fun c => { c with dirty := c.dirty.set g true }
  if (s.store.flush || s.power == .flushing || s.power == .parked) && !s.store.groupWaits g then
    askFlushCheckpoint g s
  else s

/-- Mark a machine's group dirty. -/
def markMachineDirty (n : Nat) (s : State) : State :=
  match s.machine? n with
  | some m => markDirty m.group s
  | none => s

/-! ## The bulk-load hold (04, section 4.5) -/

/-- A lookup in flight at a grant of the hold is answered UNVERIFIED (04 R66). -/
def StoreOp.unverify (o : StoreOp) : StoreOp :=
  match o.work with
  | .lookup w => { o with work := .lookup { w with unverified := true } }
  | _ => o

/-- Mark every lookup in flight. -/
def unverifyLookups (c : StoreControl) : StoreControl :=
  { c with
    holder := c.holder.map fun h => { h with op := h.op.unverify }
    serving := c.serving.map StoreOp.unverify
    queue := c.queue.map StoreOp.unverify }

/-- The grant condition of 04 R76. -/
def State.holdReady (s : State) : Bool :=
  s.permits.hold == .requested && !s.store.permitProgram && decide (s.store.backlog < Config.maxBacklog)

/-- Grant a Requested hold when its condition holds (04 R76). -/
def tryGrantHold (s : State) : State :=
  if s.holdReady then
    let s := { s with permits := { s.permits with hold := .granted, holdStart := some s.clock.counter } }
    notify (holdGrantedNotice false) (s.onStore unverifyLookups)
  else s

/-- Pass waiting returns to the store in list order (04 R69). -/
def askReturns : List Return → State → State
  | [], s => s
  | r :: rest, s => askReturns rest (ask ⟨.giveBack r, 4, .nobody⟩ s)

/-- End the hold, or cancel its request: Free, no hold start, waiting returns passed to the store (04 R79, R80). -/
def endHold (s : State) : State :=
  let waiting := s.permits.waitingReturns
  askReturns waiting { s with permits := ⟨.free, none, []⟩ }

/-- The next free value for a notice byte the manual leaves open (log entry 8). -/
def takeFreeByte (s : State) : Byte × State :=
  (Config.freeNoticeByte s.freeCount, { s with freeCount := s.freeCount + 1 })

/-- The backlog reaching 3 interrupts a Granted hold (04 R78). -/
def interruptHold (s : State) : State :=
  if s.permits.hold = .granted then
    let (b, s) := takeFreeByte s
    notify (holdInterruptedNotice b) { s with permits := { s.permits with hold := .interrupted } }
  else s

/-- A fall of the backlog below 3 resumes an Interrupted hold, and lets a Requested one be granted (04 R76, R78). -/
def resumeHold (s : State) : State :=
  if s.permits.hold = .interrupted then
    notify (holdGrantedNotice true) { s with permits := { s.permits with hold := .granted } }
  else tryGrantHold s

/-- Set the backlog and hand its movement to the Permit Register (08 R163). -/
def setBacklog (v : Nat) (s : State) : State :=
  let old := s.store.backlog
  let s := s.onStore fun c => { c with backlog := v }
  if v = Config.maxBacklog ∧ old < Config.maxBacklog then interruptHold s
  else if v < Config.maxBacklog ∧ old = Config.maxBacklog then resumeHold s
  else s

/-! ## Starts, parking, and what settles after an event (08, 11) -/

/-- The beginning of a start: volatile state at its start values; the store, the district clock, the battery state,
the frozen latch and the inputs stay (11 R199, 08 R166), and so does what each port last sent (log entry 48). -/
def beginStart (cause : StartCause) (s : State) : State :=
  { State.reset with
    pending := s.pending
    nextId := s.nextId
    freeCount := s.freeCount
    power := .starting cause
    warning := s.warning
    resetInput := s.resetInput
    frozenLatch := s.frozenLatch
    clock := { State.reset.clock with time := s.clock.time, battery := s.clock.battery }
    lineA := { freshLine with sent := s.lineA.sent }
    lineB := { freshLine with sent := s.lineB.sent }
    nv := s.nv
    roundPort := { State.reset.roundPort with sent := s.roundPort.sent }
    cabinet := { State.reset.cabinet with shifted := s.cabinet.shifted } }

/-- Enter Parked: the safe output is asserted and a cycle begun is broken off (11 R197). -/
def enterParkedNow (s : State) : State :=
  { s with
    power := .parked
    safe := true
    linesStopped := true
    lineA := { s.lineA with cycleOpen := false }
    lineB := { s.lineB with cycleOpen := false } }

/-- The PD64 may pass to Parked (11 R197, R201). -/
def State.parkReady (s : State) : Bool :=
  s.power == .flushing && s.store.drained && (!s.restartAsked || s.warning)

/-- The flush of an OrderlyRestart has drained and no warning is asserted (11 R201). -/
def State.restartReady (s : State) : Bool :=
  s.power == .flushing && s.store.drained && s.restartAsked && !s.warning

/-- Ask a trickle checkpoint when its condition holds (08 R161); what an event asks before it is log entry 68. -/
def askTrickle (s : State) : State :=
  if s.power.listens && s.store.trickleDue then
    match s.store.nextDirty with
    | some g => askCheckpoint g 6 s
    | none => s
  else s

/-- A flush that is complete ends (08 R164). -/
def endFlush (s : State) : State :=
  if s.store.flush && s.store.flushDrained then s.onStore fun c => { c with flush := false } else s

/-- Pass from Flushing to Parked, or begin the start of an OrderlyRestart, at the first event at which the conditions
hold (11 R197, R201). -/
def parkOrRestart (s : State) : State :=
  if s.restartReady then beginStart .orderlyRestart s
  else if s.parkReady then enterParkedNow s
  else s

/-- What follows at the same event once an event's own work is done. A trickle checkpoint is thus asked after all else that
the event asks (log entry 68). -/
def settle (s : State) : State := parkOrRestart (endFlush (askTrickle s))

/-! ## Completions of store operations (08 R153 to R156) -/

/-- A read served during a suspension completes: the next waiting read is served, or the suspended operation resumes;
one that is no longer suspendable resumes whatever reads wait (08 R154, R162, R165). -/
def endServing (s : State) : State :=
  let next :=
    match s.store.holder with
    | some h => if h.suspendable then takeFirst (fun o => o.work.isRead) s.store.queue else none
    | none => none
  match next with
  | some (r, rest) => s.onStore fun c => { c with serving := some r, queue := rest }
  | none => s.onStore fun c => { c with serving := none }

/-- The completion of the operation being performed, if it is of the kind awaited; otherwise no such completion
occurs and nothing changes (log entry 10). Work that the completion asks for is asked before the array is granted
again (log entry 9). -/
def onCompletion (awaited : StoreWork → Bool) (effect : Holder → State → State) (s : State) : State :=
  match s.store.serving with
  | some r => if awaited r.work then settle (effect ⟨r, 0, false, .nothing⟩ (endServing s)) else s
  | none =>
    match s.store.holder with
    | some h =>
      if awaited h.op.work then
        let s := s.onStore fun c => { c with holder := none, freeing := true }
        settle (freeArray (tryGrantHold (effect h s)))
      else s
    | none => s

/-- A write that completes takes the next order stamp (08 R159). -/
def stampWrite (s : State) : State := { s with nv := { s.nv with stamp := s.nv.stamp + 1 } }

/-- Change the nonvolatile array. -/
def State.onArray (s : State) (f : NvArray → NvArray) : State := { s with nv := f s.nv }

/-! ## The cabinet port (10) -/

/-- The answer DONE with data. -/
def doneWith (data : List Byte) : Answer := ⟨Code.done.byte, data⟩

/-- Put an answer into the answer buffer (10 R182). -/
def answer (a : Answer) (s : State) : State := { s with cabinet := { s.cabinet with answer := some a } }

/-- Answer DONE with no data. -/
def answerDone (s : State) : State := answer Code.done.plain s

/-- Answer with a refusal code. -/
def refuse (c : Code) (s : State) : State := answer c.plain s

/-- Answer PENDING: the command becomes outstanding and its result is awaited (10 R184, R185). -/
def answerPending (s : State) : State :=
  { s with cabinet := { s.cabinet with answer := some Code.pending.plain, outstanding := true, result := .waiting } }

/-- A cabinet transaction: the answer buffer is shifted out, and the frame is taken; during Starting it is disregarded
and fill bytes are shifted out (10 R182, 11 R195). -/
def transaction (body : State → State) (s : State) : State :=
  if s.power.listens then body { s with cabinet := { s.cabinet with shifted := s.cabinet.answer } }
  else { s with cabinet := { s.cabinet with shifted := none } }

/-- A command other than the four that are always served: BUSY while another is outstanding; otherwise the result
buffer becomes None and the block that owns the command takes it (10 R184, R185). That holds of a command which its
block then refuses, an OrderlyRestart answered BUSY in Flushing or Parked among them (log entry 49). -/
def command (body : State → State) (s : State) : State :=
  transaction
    (fun s =>
      if s.cabinet.outstanding then refuse .busy s
      else body { s with cabinet := { s.cabinet with result := .nothing } })
    s

/-! ## The round port (09) -/

/-- The port sends something and is Ready. -/
def portReply (out : List PortSent) (s : State) : State :=
  { s with roundPort := { s.roundPort with state := .ready, sent := out ++ [.prompt] } }

/-- The port withholds a reply line until a write completes (09 R172). -/
def portAwait (line : List Nat) (s : State) : State :=
  { s with roundPort := { s.roundPort with state := .awaiting line } }

/-- A withheld reply is sent (09 R172). -/
def releaseReply (s : State) : State :=
  match s.roundPort.state with
  | .awaiting line => portReply [.line line] s
  | _ => s

/-- Hand the completion of a write to whoever asked for it (10 R185, 09 R172). -/
def finish (r : Requester) (a : Answer) (s : State) : State :=
  match r with
  | .nobody => s
  | .flush => s
  | .cabinet => { s with cabinet := { s.cabinet with result := .final a } }
  | .roundPort => releaseReply s

/-- Where a command came from: the cabinet port or the round port. -/
inductive FromPort where
  | cabinet
  | roundPort
  deriving DecidableEq, Repr

/-- The requester of a port's operation. -/
def FromPort.requester : FromPort → Requester
  | .cabinet => .cabinet
  | .roundPort => .roundPort

/-- A port's answer to a command that waits for a write: PENDING, or the reply withheld. -/
def FromPort.await (p : FromPort) (line : List Nat) (s : State) : State :=
  match p with
  | .cabinet => answerPending s
  | .roundPort => portAwait line s

/-- A port's answer to a command decided at once. -/
def FromPort.reply (p : FromPort) (line : List Nat) (s : State) : State :=
  match p with
  | .cabinet => answerDone s
  | .roundPort => portReply [.line line] s

/-- A port's refusal (09 R171, 10 R184). -/
def FromPort.refuse (p : FromPort) (c : Code) (s : State) : State :=
  match p with
  | .cabinet => Machine.refuse c s
  | .roundPort => portReply [.refusal c] s

/-- Ask a class-5 write of a table (08 R152). -/
def askTable (w : TableWrite) (r : Requester) (s : State) : State := ask ⟨.table w, 5, r⟩ s

/-- A fresh name for a piece of work (log entry 7). -/
def takeId (s : State) : Nat × State := (s.nextId, { s with nextId := s.nextId + 1 })

end Sys2Proof.Machine
end

