-- ==== Sys2Proof/Machine/Tariffs.lean ====
section
/-! DEFINITION. The pending set, its activation and abandonment, the special-day list and the tariff guard (01,
sections 1.3 to 1.5). -/

namespace Sys2Proof.Machine

/-! ## Day classes (01 R7) -/

/-- The calendar class of a date (01 R7). -/
def State.calendarClass (s : State) (d : Date) : DayClass :=
  if s.tariff.specialDays.contains d then .special else d.weekClass

/-- The day class of a date: the override's on the current date, else the calendar class (01 R7). -/
def State.dayClass (s : State) (d : Date) : DayClass :=
  match s.clock.time, s.clock.overrideClass with
  | some t, some c => if t.date = d then c else s.calendarClass d
  | _, _ => s.calendarClass d

/-- The schedule of a day class (01, section 1.1). -/
def Tariff.schedule (t : Tariff) : DayClass → List Band
  | .weekday => t.weekday
  | .saturday => t.saturday
  | .sunday => t.sunday
  | .special => t.special

/-! ## Validity of a tariff (01 R2) -/

/-- The band of an argument, none when its kind or its rate breaks 01 R2; a rate sent with Free or NoParking is
disregarded. -/
def bandOfArg (b : BandArg) : Option Band :=
  match b.kind with
  | 0 => if b.rate ≤ 9999 then some ⟨b.start, .charged b.rate⟩ else none
  | 1 => some ⟨b.start, .free⟩
  | 2 => some ⟨b.start, .noParking⟩
  | _ => none

/-- Start minutes strictly increase from a minute on and none exceeds 1439 (01 R2). -/
def startsIncrease : Nat → List Band → Bool
  | _, [] => true
  | low, b :: rest => low ≤ b.start && b.start ≤ 1439 && startsIncrease (b.start + 1) rest

/-- A day schedule that keeps 01 R1 and R2. -/
def scheduleValid (bands : List Band) : Bool :=
  match bands with
  | [] => false
  | b :: rest => b.start == 0 && (bands.length ≤ 8) && startsIncrease 1 rest

/-- The schedule of a band list, none when it breaks 01 R2. -/
def scheduleOfArgs (bands : List BandArg) : Option (List Band) :=
  match bands.mapM bandOfArg with
  | some bs => if scheduleValid bs then some bs else none
  | none => none

/-- The parameters of PendingZone, none when one is out of its range (01 R2). -/
def paramsOfArgs (a : ZoneArgs) : Option ZoneParams :=
  match yesNo a.carryOver with
  | none => none
  | some carry =>
    if a.minimum ≤ 5000 && a.maxStay ≤ 1440 && a.discount ≤ 100 && a.visitorRate ≤ 9999 then
      some ⟨a.minimum, a.maxStay, a.discount, a.visitorRate, carry⟩
    else none

/-! ## Activation and abandonment (01 R16, R17) -/

/-- A zone's tariff after an activation: the pending parameters, and each schedule loaded (01 R16). -/
def PendingZone.applyTo (z : PendingZone) (t : Tariff) : Tariff :=
  { params := z.params
    weekday := z.weekday.getD t.weekday
    saturday := z.saturday.getD t.saturday
    sunday := z.sunday.getD t.sunday
    special := z.special.getD t.special }

/-- A zone of the working table after an activation that covers it: its generation rises by one, wrapping from 255
to 0 (01 R3, R16). -/
def PendingZone.activated (z : PendingZone) (e : ZoneEntry) : ZoneEntry :=
  ⟨z.applyTo e.tariff, (e.generation + 1) % 256⟩

/-- The working table with one zone activated. -/
def activateZone (zones : List ZoneEntry) (z : PendingZone) : List ZoneEntry :=
  zones.set z.zone (z.activated (zones.getD z.zone ⟨factoryTariff, 0⟩))

/-- Activate a Sealed set: the working table changes whole, TariffActivated is written, the status becomes None, and
one class-5 write is asked (01 R16). -/
def activate (p : PendingSet) (s : State) : State :=
  let zones := p.zones.foldl activateZone s.tariff.zones
  let s := { s with tariff := { s.tariff with zones := zones, pendingSet := none } }
  let s := notify (tariffActivatedNotice (p.zones.map fun z => (z.zone, (s.zone z.zone).generation))) s
  askTable (.activation (p.zones.map fun z => (z.zone, (s.zone z.zone).tariff))) .nobody s

/-- Abandon a Loading set: it is discarded, PendingAbandoned is written, and a class-5 write empties the region
(01 R17). -/
def abandon (p : PendingSet) (s : State) : State :=
  let s := { s with tariff := { s.tariff with pendingSet := none } }
  askTable (.pendingSet none) .nobody (notify (pendingAbandonedNotice p) s)

/-- The activation check at the clock's date and minute (01 R16 to R18). -/
def activationCheck (s : State) : State :=
  match s.tariff.pendingSet, s.now with
  | some p, some t =>
    if p.activation.atOrBefore t then (if p.isSealed then activate p s else abandon p s) else s
  | _, _ => s

/-- Remove from the special-day list every date earlier than the current date, and record the list if one was
removed (01 R9). -/
def pruneDays (s : State) : State :=
  match s.clock.time with
  | none => s
  | some t =>
    let kept := s.tariff.specialDays.filter fun d => decide (t.date.key ≤ d.key)
    if kept.length = s.tariff.specialDays.length then s
    else
      askTable (.specialDays kept) .nobody { s with tariff := { s.tariff with specialDays := kept } }

/-- The minute event, taken by the Tariff Engine (01 R4, R16, R17). -/
def takeMinuteEvent (s : State) : State :=
  activationCheck { s with clock := { s.clock with minuteDue := false } }

/-- The midnight event: today's override is cleared and the special-day list is pruned (01 R4, R9, R10). -/
def takeMidnightEvent (s : State) : State :=
  pruneDays { s with clock := { s.clock with midnightDue := false, overrideClass := none } }

/-! ## Commands -/

/-- Some zone of a set is guarded and not writable (01 R20). -/
def State.setGuarded (s : State) (key : KeyPosition) (p : PendingSet) : Bool :=
  p.zones.any fun z => !s.writable key z.zone

/-- A taken tariff command: its class-5 write is asked and it answers PENDING (01 R11). -/
def takenTable (w : TableWrite) (s : State) : State := settle (answerPending (askTable w .cabinet s))

/-- Change the pending set and record it (01 R11). -/
def putPendingSet (p : Option PendingSet) (s : State) : State :=
  takenTable (.pendingSet p) { s with tariff := { s.tariff with pendingSet := p } }

/-- PendingBegin (01 R12). -/
def pendingBegin (key : KeyPosition) (date : DateArg) (minute : Nat) (s : State) : State :=
  match dateOfArg date with
  | none => refuse .badRequest s
  | some d =>
    if 1439 < minute then refuse .badRequest s
    else if (s.tariff.pendingSet.any (s.setGuarded key)) then refuse .guarded s
    else putPendingSet (some ⟨⟨d, minute⟩, false, []⟩) s

/-- A zone's contents with one schedule replaced (01 R13). -/
def PendingZone.load (z : PendingZone) (c : DayClass) (bands : List Band) : PendingZone :=
  match c with
  | .weekday => { z with weekday := some bands }
  | .saturday => { z with saturday := some bands }
  | .sunday => { z with sunday := some bands }
  | .special => { z with special := some bands }

/-- Include a zone in ascending order, which is thus the order of the zones in TariffActivated and PendingAbandoned (log
entry 55), or change its contents: the parameters become those carried, and a schedule carried replaces the one loaded
for its class (01 R13). -/
def includeZone (zone : Nat) (params : ZoneParams) (load : Option (DayClass × List Band)) :
    List PendingZone → List PendingZone :=
  let fill := fun (z : PendingZone) =>
    let z := { z with params := params }
    match load with
    | some (c, bands) => z.load c bands
    | none => z
  let fresh := fill ⟨zone, params, none, none, none, none⟩
  let rec go : List PendingZone → List PendingZone
    | [] => [fresh]
    | z :: rest =>
      if zone < z.zone then fresh :: z :: rest
      else if zone = z.zone then fill z :: rest
      else z :: go rest
  go

/-- The schedule part of PendingZone: none carried, or a day class with its bands; refused BAD_REQUEST or BAD_TARIFF
(01 R13, checks 2 and 3). -/
def loadOfArgs (a : ZoneArgs) : Except Code (Option (DayClass × List Band)) :=
  if 15 < a.zone then .error .badRequest
  else if a.dayClass = 255 then
    if a.bands.isEmpty then .ok none else .error .badRequest
  else
    match DayClass.ofNumber a.dayClass with
    | none => .error .badRequest
    | some c =>
      match scheduleOfArgs a.bands with
      | some bs => .ok (some (c, bs))
      | none => .error .badTariff

/-- PendingZone (01 R13). -/
def pendingZone (key : KeyPosition) (a : ZoneArgs) (s : State) : State :=
  match s.tariff.pendingSet with
  | none => refuse .notLoading s
  | some p =>
    if p.isSealed then refuse .notLoading s
    else
      match loadOfArgs a, paramsOfArgs a with
      | .error .badRequest, _ => refuse .badRequest s
      | .error c, _ => refuse c s
      | .ok _, none => refuse .badTariff s
      | .ok load, some params =>
        if !s.writable key a.zone then refuse .guarded s
        else putPendingSet (some { p with zones := includeZone a.zone params load p.zones }) s

/-- PendingSeal (01 R14). -/
def pendingSeal (key : KeyPosition) (s : State) : State :=
  match s.tariff.pendingSet with
  | none => refuse .notLoading s
  | some p =>
    if p.isSealed then refuse .notLoading s
    else if p.zones.isEmpty then refuse .empty s
    else
      match s.now with
      | none => refuse .clockUnset s
      | some t =>
        if p.activation.minutes < t.minutes + 2 then refuse .tooLate s
        else if s.setGuarded key p then refuse .guarded s
        else putPendingSet (some { p with isSealed := true }) s

/-- PendingCancel (01 R15). -/
def pendingCancel (key : KeyPosition) (s : State) : State :=
  match s.tariff.pendingSet with
  | none => answerDone s
  | some p => if s.setGuarded key p then refuse .guarded s else putPendingSet none s

/-- SetGuard (01 R21, R22). -/
def setGuard (key : KeyPosition) (side span complement mode : Nat) (s : State) : State :=
  match GuardSide.ofNumber side, yesNo complement, GuardMode.ofNumber mode with
  | some sd, some comp, some md =>
    if !validSpan span then refuse .badRequest s
    else if s.guardMode = .frozen then refuse .guardFrozen s
    else if s.guardMode = .keyed ∧ key ≠ .service then refuse .keyRequired s
    else
      let frozen := md == .frozen
      let word : GuardWord := ⟨sd, span, comp, if frozen then .keyed else md⟩
      takenTable (.guardWord word)
        { s with tariff := { s.tariff with guardWord := word }, frozenLatch := s.frozenLatch || frozen }
  | _, _, _ => refuse .badRequest s

/-- Insert a date into an ascending list. -/
def insertDate (d : Date) : List Date → List Date
  | [] => [d]
  | x :: rest => if d.key < x.key then d :: x :: rest else x :: insertDate d rest

/-- Change the special-day list and record it (01 R8). -/
def putDays (days : List Date) (s : State) : State :=
  takenTable (.specialDays days) { s with tariff := { s.tariff with specialDays := days } }

/-- SpecialDayAdd (01 R8). -/
def specialDayAdd (date : DateArg) (s : State) : State :=
  match dateOfArg date with
  | none => refuse .badRequest s
  | some d =>
    if s.tariff.specialDays.contains d then answerDone s
    else if Config.specialDayDates ≤ s.tariff.specialDays.length then refuse .listFull s
    else putDays (insertDate d s.tariff.specialDays) s

/-- SpecialDayRemove (01 R8). -/
def specialDayRemove (date : DateArg) (s : State) : State :=
  match dateOfArg date with
  | none => refuse .notFound s
  | some d =>
    if s.tariff.specialDays.contains d then putDays (s.tariff.specialDays.filter fun x => x != d) s
    else refuse .notFound s

/-! ## Meanings -/

/-- PENDING_BEGIN (01 R12). -/
def execPendingBegin (key : KeyInput) (date : DateArg) (minute : Nat) (s : State) :
    Host.Outcome State Fault Refusal := .next (command (pendingBegin (readKey key) date minute) s)

/-- PENDING_ZONE (01 R13). -/
def execPendingZone (key : KeyInput) (args : ZoneArgs) (s : State) : Host.Outcome State Fault Refusal :=
  .next (command (pendingZone (readKey key) args) s)

/-- PENDING_SEAL (01 R14). -/
def execPendingSeal (key : KeyInput) (s : State) : Host.Outcome State Fault Refusal :=
  .next (command (pendingSeal (readKey key)) s)

/-- PENDING_CANCEL (01 R15). -/
def execPendingCancel (key : KeyInput) (s : State) : Host.Outcome State Fault Refusal :=
  .next (command (pendingCancel (readKey key)) s)

/-- SET_GUARD (01 R21). -/
def execSetGuard (key : KeyInput) (side span complement mode : Nat) (s : State) :
    Host.Outcome State Fault Refusal := .next (command (setGuard (readKey key) side span complement mode) s)

/-- SPECIAL_DAY_ADD (01 R8). -/
def execSpecialDayAdd (date : DateArg) (s : State) : Host.Outcome State Fault Refusal :=
  .next (command (specialDayAdd date) s)

/-- SPECIAL_DAY_REMOVE (01 R8). -/
def execSpecialDayRemove (date : DateArg) (s : State) : Host.Outcome State Fault Refusal :=
  .next (command (specialDayRemove date) s)

end Sys2Proof.Machine
end

