-- ==== Sys2Proof/Machine/Quotes.lean ====
section
/-! DEFINITION. The quote computation (02): form, admission, permit check, walk, outcome, and the open quote record. -/

namespace Sys2Proof.Machine

/-! ## Effective rates and the schedules walked (02, sections 2.3 and 2.4) -/

/-- The effective rate of a Charged band of base rate r (02 R30). -/
def effectiveRate (p : ZoneParams) (rate : RateClass) (r : Nat) : Nat :=
  match rate with
  | .standard => r
  | .resident => (r * (100 - p.discount) + 99) / 100
  | .visitor => if 0 < r then p.visitorRate else 0

/-- What a minute of a band costs by the hour: 0 for a Free or zero-priced band, none for NoParking (02 R30). -/
def BandKind.price (p : ZoneParams) (rate : RateClass) : BandKind → Option Nat
  | .charged r => some (effectiveRate p rate r)
  | .free => some 0
  | .noParking => none

/-- A band laid out on the walk's positions, with its price (02 R31). -/
structure Segment where
  first : Nat
  last : Nat
  price : Option Nat
  deriving DecidableEq, Repr

/-- The bands of one day's schedule from a position on: each ends where the next starts, the last after 1440
minutes (01 R1, 02 R31). -/
def daySegments (offset : Nat) (price : BandKind → Option Nat) : List Band → List Segment
  | [] => []
  | [b] => [⟨offset + b.start, offset + 1440, price b.kind⟩]
  | b :: c :: rest => ⟨offset + b.start, offset + c.start, price b.kind⟩ :: daySegments offset price (c :: rest)

/-- The horizon of a walk (02 R31). -/
def walkHorizon (carryOver : Bool) (date : Date) : Nat :=
  if carryOver && date != lastDate then 2880 else 1440

/-- The bands that a walk of a zone passes through, from 00:00 of the arrival date to the horizon (02 R31, R32). -/
def State.walkSegments (s : State) (zone : Nat) (rate : RateClass) (date : Date) : List Segment :=
  let t := (s.zone zone).tariff
  let price := BandKind.price t.params rate
  let today := daySegments 0 price (t.schedule (s.dayClass date))
  if walkHorizon t.params.carryOver date = 2880 then
    today ++ daySegments 1440 price (t.schedule (s.calendarClass date.next))
  else today

/-- The bands from a position on: the first is the band at that position. -/
def segmentsFrom (start : Nat) (segs : List Segment) : List Segment :=
  segs.dropWhile fun g => decide (g.last ≤ start)

/-! ## The walk (02, section 2.6) -/

/-- What bounds a walk: the amount's credit or the duration, the maximum stay (0 for none), the balance read. -/
structure WalkBounds where
  byMoney : Bool
  duration : Nat
  maxStay : Nat
  balance : Option Nat
  deriving DecidableEq, Repr

/-- The four values the walk holds (02, section 2.6). -/
structure Walk where
  pos : Nat
  credit : Nat
  minutes : Nat
  cost : Nat
  deriving DecidableEq, Repr

/-- The allowance of a step (02 R36). -/
def WalkBounds.allowance (b : WalkBounds) (w : Walk) (rate : Nat) : Nat :=
  if b.byMoney then w.credit / rate else b.duration - w.minutes

/-- The maximum-stay cap of a step (02 R36). -/
def WalkBounds.stayCap (b : WalkBounds) (w : Walk) : Option Nat :=
  if b.maxStay = 0 then none else some (b.maxStay - w.minutes)

/-- The balance cap of a step (02 R36). -/
def WalkBounds.balanceCap (b : WalkBounds) (w : Walk) : Option Nat := b.balance.map fun x => x - w.minutes

/-- The smaller of a number and a cap that applies. -/
def capped (cap : Option Nat) (n : Nat) : Nat :=
  match cap with
  | none => n
  | some c => min c n

/-- The minutes a step uses (02 R36). -/
def WalkBounds.use (b : WalkBounds) (w : Walk) (rate span : Nat) : Nat :=
  capped (b.stayCap w) (capped (b.balanceCap w) (min (b.allowance w rate) span))

/-- The reason of a walk that stops in a charged band (02 R37). -/
def WalkBounds.reason (b : WalkBounds) (w : Walk) (use : Nat) : StopReason :=
  if b.stayCap w = some use then .maxStay
  else if b.balanceCap w = some use then .balance
  else if b.byMoney then .credit
  else .timeReached

/-- A step of so many charged minutes (02 R36). -/
def Walk.spend (w : Walk) (b : WalkBounds) (rate use : Nat) : Walk :=
  { pos := w.pos + use
    credit := if b.byMoney then w.credit - use * rate else w.credit
    minutes := w.minutes + use
    cost := if b.byMoney then w.cost else w.cost + use * rate }

/-- The walk through the bands that lie ahead (02 R35 to R37). -/
def walk (b : WalkBounds) : List Segment → Walk → Walk × StopReason
  | [], w => (w, .horizon)
  | g :: rest, w =>
    match g.price with
    | none => (w, .ban)
    | some 0 => walk b rest { w with pos := g.last }
    | some rate =>
      let span := g.last - w.pos
      let use := b.use w rate span
      if use = span then walk b rest (w.spend b rate use) else (w.spend b rate use, b.reason w use)

/-- The valid-until of a FREE reply: the start of the first band that is neither Free nor zero-priced, or the horizon
(02 R34). -/
def validUntil (horizon : Nat) : List Segment → Nat
  | [] => horizon
  | g :: rest => if g.price = some 0 then validUntil horizon rest else g.first

/-- A position as a date and a minute (02 R41). -/
def positionMoment (date : Date) (p : Nat) : Moment :=
  if p ≤ 1440 then ⟨date, p⟩ else ⟨date.next, p - 1440⟩

/-! ## The outcome (02, sections 2.5 and 2.7) -/

/-- A quote ready to be walked: the values fixed at arrival (02 R25) and what the permit check made of it (02 R27,
R28). -/
structure QuoteWork where
  zone : Nat
  date : Date
  start : Nat
  rate : RateClass
  pay : PayKind
  amount : Nat
  permit : Option Nat
  balance : Option Nat
  unverified : Bool
  deriving DecidableEq, Repr

/-- What a walked quote comes to: a reply that opens nothing, or the figures of a QUOTED reply. -/
inductive QuoteOutcome where
  | reply (a : Answer)
  | quoted (minutes : Nat) (price : QuotePrice) (expiry : Moment) (clamped minApplied : Bool) (stop : StopReason)
  deriving DecidableEq, Repr

/-- The outcome of a ByMoney walk (02 R38). -/
def moneyOutcome (q : QuoteWork) (minimum : Nat) (w : Walk) (stop : StopReason) : QuoteOutcome :=
  if w.minutes = 0 ∨ q.amount < minimum then .reply (quoteRefusal .belowMinimum (byte2 minimum) q.unverified)
  else
    .quoted w.minutes (.byMoney q.amount (q.amount - w.credit / 60)) (positionMoment q.date w.pos) false false stop

/-- The outcome of a ByTime walk (02 R39, R40). -/
def timeOutcome (q : QuoteWork) (minimum : Nat) (w : Walk) (stop : StopReason) : QuoteOutcome :=
  if w.minutes = 0 then
    if q.rate = .visitor then .reply (quoteRefusal .balanceExhausted [] q.unverified)
    else .reply (quoteRefusal .belowMinimum (byte2 minimum) q.unverified)
  else
    let cost := (w.cost + 59) / 60
    let raised : Bool := decide (0 < cost) && decide (cost < minimum)
    .quoted w.minutes (.byTime (if raised then minimum else cost)) (positionMoment q.date w.pos)
      (decide (w.minutes < q.amount)) raised stop

/-- The bounds of a quote's walk (02 R23, R36). -/
def QuoteWork.bounds (q : QuoteWork) (p : ZoneParams) : WalkBounds :=
  ⟨q.pay == .cash, q.amount, p.maxStay, q.balance⟩

/-- The walk of a quote: from t0 with 60 × A credit units (02, section 2.6). -/
def QuoteWork.walked (q : QuoteWork) (p : ZoneParams) (ahead : List Segment) : Walk × StopReason :=
  walk (q.bounds p) ahead ⟨q.start, if q.pay = .cash then 60 * q.amount else 0, 0, 0⟩

/-- The start of the walk, the walk and its outcome, on the working table and the classification as they stand (02
R32 to R39). -/
def computeQuote (q : QuoteWork) (s : State) : QuoteOutcome :=
  let p := (s.zone q.zone).tariff.params
  let ahead := segmentsFrom q.start (s.walkSegments q.zone q.rate q.date)
  match ahead.head?.map Segment.price with
  | some none => .reply (quoteRefusal .noParking [] q.unverified)
  | some (some (_ + 1)) =>
    if q.pay = .unpaid then .reply (quoteRefusal .kindNotAllowed [] q.unverified)
    else
      let (w, stop) := q.walked p ahead
      if q.pay = .cash then moneyOutcome q p.minimum w stop else timeOutcome q p.minimum w stop
  | _ =>
    .reply (freeAnswer (positionMoment q.date (validUntil (walkHorizon p.carryOver q.date) ahead)) q.unverified)

/-- The token after a machine's last (02 R42). -/
def nextToken (last : Nat) : Nat := if 255 ≤ last then 1 else last + 1

/-- A machine that opens a quote in place of any other (02 R42, R43): the quote that a visitor sale in flight has claimed
is not returned to open any more (03 R60). -/
def MachineRecord.quoted (m : MachineRecord) (q : OpenQuote) : MachineRecord :=
  { m with
    tokens := q.token
    openQuote := some q
    commit := m.commit.map fun c => { c with superseded := true } }

/-- Open a quote record and make the QUOTED reply ready (02 R43). -/
def openQuote (n id : Nat) (q : QuoteWork) (minutes : Nat) (price : QuotePrice) (expiry : Moment)
    (clamped minApplied : Bool) (stop : StopReason) (s : State) : State :=
  match s.machine? n with
  | none => s
  | some m =>
    let token := nextToken m.tokens
    let record : OpenQuote :=
      ⟨token, q.zone, (s.zone q.zone).generation, q.rate, q.pay, minutes, price, expiry, q.permit, s.clock.counter⟩
    giveReply n id (quotedAnswer record q.unverified clamped minApplied stop)
      (s.onMachine n fun m => m.quoted record)

/-- Walk a quote and answer it (02 R32 to R43). -/
def finishQuote (n id : Nat) (q : QuoteWork) (s : State) : State :=
  match computeQuote q s with
  | .reply a => giveReply n id a s
  | .quoted minutes price expiry clamped minApplied stop =>
    openQuote n id q minutes price expiry clamped minApplied stop s

/-! ## Form, admission, permit check (02, sections 2.1 and 2.2) -/

/-- A permit number in range (00, Identities). -/
def permitNumber (n : Nat) : Bool := 1 ≤ n && n ≤ 99999999

/-- The form check of a quote request (02 R24): its rate class and payment kind, or its refusal. -/
def quoteForm (f : QuoteFrame) : Except Code (RateClass × PayKind) :=
  match RateClass.ofNumber f.rateClass, PayKind.ofNumber f.payKind with
  | some rate, some pay =>
    if pay = .cash ∧ f.amount = 0 then .error .badRequest
    else if pay ≠ .cash ∧ (f.amount = 0 ∨ 1440 < f.amount) then .error .badRequest
    else if rate ≠ .standard ∧ permitNumber f.permit = false then .error .badRequest
    else if rate = .visitor ∧ pay = .cash then .error .kindNotAllowed
    else .ok (rate, pay)
  | _, _ => .error .badRequest

/-- The payment kind is fitted to a machine and its service state allows it (02 R26). -/
def MachineRecord.allows (m : MachineRecord) (pay : PayKind) : Bool :=
  m.reg.fitted.allows pay && m.service.allows pay

/-- A quote that its lookup left UNVERIFIED, as the Standard quote it becomes (02 R28). -/
def LookupWork.unverifiedQuote (w : LookupWork) : QuoteWork :=
  ⟨w.zone, w.date, w.start, .standard, w.pay, w.amount, none, none, true⟩

/-- A quote whose lookup found a VALID permit (02 R27). -/
def LookupWork.verifiedQuote (w : LookupWork) (balance : Option Nat) : QuoteWork :=
  ⟨w.zone, w.date, w.start, w.rate, w.pay, w.amount, some w.permit, if w.rate = .visitor then balance else none,
    false⟩

/-- Continue a quote after its permit check: refused ZONE_CHANGED where the machine's zone changed in flight (02 R29),
walked otherwise. -/
def walkUnlessMoved (n id : Nat) (q : QuoteWork) (moved : Bool) (s : State) : State :=
  if moved then giveReply n id (quoteRefusal .zoneChanged [] q.unverified) s else finishQuote n id q s

/-- Take the result UNVERIFIED (02 R28). -/
def takeUnverified (w : LookupWork) (moved : Bool) (s : State) : State :=
  if w.rate = .visitor ∧ w.pay = .unpaid then giveReply w.machine w.id Code.kindNotAllowed.plain s
  else walkUnlessMoved w.machine w.id w.unverifiedQuote moved s

/-- Take the result read from the table (02 R27, 04 R65). -/
def takeLookup (w : LookupWork) (moved : Bool) (s : State) : State :=
  let found := findPermit s.nv.permits w.permit
  match permitCause found w.rate (some w.date) w.zone with
  | some c => giveReply w.machine w.id (permitRefusedAnswer c) s
  | none =>
    let balance := found.bind Permit.balance
    if w.rate = .visitor ∧ balance = some 0 then giveReply w.machine w.id Code.balanceExhausted.plain s
    else walkUnlessMoved w.machine w.id (w.verifiedQuote balance) moved s

/-- Pass a lookup to the Permit Register (04 R64). -/
def askLookup (w : LookupWork) (s : State) : State :=
  if s.permits.hold.closed then takeUnverified w false s else ask ⟨.lookup w, 3, .nobody⟩ s

/-- A QuoteRequest passed to the Tariff Engine (02 R24 to R27). -/
def quoteArrival (f : QuoteFrame) (m : MachineRecord) (id : Nat) (s : State) : State :=
  match quoteForm f with
  | .error c => giveReply m.number id c.plain s
  | .ok (rate, pay) =>
    match s.clock.time with
    | none => giveReply m.number id Code.clockUnset.plain s
    | some t =>
      if m.allows pay = false then giveReply m.number id Code.paymentBlocked.plain s
      else if rate = .standard then
        finishQuote m.number id ⟨m.reg.zone, t.date, t.minute, rate, pay, f.amount, none, none, false⟩ s
      else askLookup ⟨m.number, id, f.permit, rate, pay, f.amount, m.reg.zone, t.date, t.minute, false⟩ s

/-- A lookup's completion: a quote discarded meanwhile is disregarded (02 R27, R29; 04 R65, R66). -/
def lookupDone (w : LookupWork) (s : State) : State :=
  match (s.machine? w.machine).bind MachineRecord.request with
  | none => s
  | some r =>
    if r.id = w.id then
      if w.unverified then takeUnverified w r.zoneChanged s else takeLookup w r.zoneChanged s
    else s

/-! ## Meanings -/

/-- The operation is a lookup. -/
def StoreWork.isLookup : StoreWork → Bool
  | .lookup _ => true
  | _ => false

/-- What a completed operation does when it is a lookup. -/
def lookupEffect (h : Holder) (s : State) : State :=
  match h.op.work with
  | .lookup w => lookupDone w s
  | _ => s

/-- LOOKUP_COMPLETION (04 R65, R66; 02 R27). -/
def execLookupCompletion (s : State) : Host.Outcome State Fault Refusal :=
  .next (onCompletion StoreWork.isLookup lookupEffect s)

/-- Discard a machine's open quote when its lifetime has run out (03 R56). -/
def expireQuote (n : Nat) (s : State) : State :=
  s.onMachine n fun m =>
    match m.openQuote with
    | some q => if s.quoteExpired q then { m with openQuote := none } else m
    | none => m

/-- QUOTE_EXPIRY (03 R56). -/
def execQuoteExpiry (machine : Nat) (s : State) : Host.Outcome State Fault Refusal := .next (expireQuote machine s)

end Sys2Proof.Machine
end

