-- ==== Sys2Proof/Machine/Permits.lean ====
section
/-! DEFINITION. The cabinet's permit commands, the completions of their operations and of balance returns, and the
commands of the bulk-load hold (04). -/

namespace Sys2Proof.Machine

/-! ## Commands (04, section 4.4) -/

/-- A command that is taken: its operation is asked of the store and it answers PENDING (10 R184). -/
def askForCabinet (work : StoreWork) (cls : Nat) (s : State) : State :=
  settle (answerPending (ask ⟨work, cls, .cabinet⟩ s))

/-- A permit write that has passed its form checks meets the hold check (04 R70). -/
def takePermitWrite (work : StoreWork) (s : State) : State :=
  if s.permits.hold = .interrupted then refuse .holdInterrupted s else askForCabinet work 5 s

/-- PermitInsert (04 R71). -/
def permitInsert (a : PermitArgs) (s : State) : State :=
  match permitOfArgs a with
  | .error c => refuse c s
  | .ok p => takePermitWrite (.permitInsert p) s

/-- PermitUpdate (04 R72). -/
def permitUpdate (a : PermitChange) (s : State) : State :=
  match patchOfChange a with
  | none => refuse .badRequest s
  | some p => takePermitWrite (.permitUpdate p) s

/-- PermitDelete (04 R73). -/
def permitDelete (n : Nat) (s : State) : State :=
  if permitNumber n then takePermitWrite (.permitDelete n) s else refuse .badRequest s

/-- PermitRead (04 R74). -/
def permitRead (n : Nat) (s : State) : State :=
  if permitNumber n then askForCabinet (.permitRead n) 3 s else refuse .badRequest s

/-! ## The table (04 R63) -/

/-- A record placed in ascending order of permit number. -/
def insertPermit (p : Permit) : List Permit → List Permit
  | [] => [p]
  | x :: rest => if p.number < x.number then p :: x :: rest else x :: insertPermit p rest

/-- A record changed where it stands. -/
def replacePermit (p : Permit) (table : List Permit) : List Permit :=
  table.map fun x => if x.number = p.number then p else x

/-- A record with the fields a PermitUpdate carries replaced (04 R72). -/
def PermitPatch.applyTo (u : PermitPatch) (p : Permit) : Permit :=
  { p with
    state := u.state.getD p.state
    validFrom := (u.dates.map Prod.fst).getD p.validFrom
    validTo := (u.dates.map Prod.snd).getD p.validTo
    zones := u.zones.getD p.zones
    balance := if u.balance.isSome then u.balance else p.balance }

/-- The table after a PermitInsert, or the refusal of its table checks (04 R71). -/
def insertChecked (p : Permit) (table : List Permit) : Except Code (List Permit) :=
  if (findPermit table p.number).isSome then .error .duplicate
  else if Config.permitRecords ≤ table.length then .error .tableFull
  else .ok (insertPermit p table)

/-- The table after a PermitUpdate, or the refusal of its table checks (04 R72). -/
def updateChecked (u : PermitPatch) (table : List Permit) : Except Code (List Permit) :=
  match findPermit table u.number with
  | none => .error .notFound
  | some p =>
    if u.balance.isSome ∧ p.kind = .resident then .error .wrongKind
    else if u.state.isSome ∧ p.state = .revoked ∧ u.state ≠ some .revoked then .error .revoked
    else .ok (replacePermit (u.applyTo p) table)

/-- The table after a PermitDelete, or the refusal of its table check (04 R73). -/
def deleteChecked (n : Nat) (table : List Permit) : Except Code (List Permit) :=
  match findPermit table n with
  | none => .error .notFound
  | some _ => .ok (table.filter fun p => p.number != n)

/-- A table after a decrement of a Visitor record by minutes it holds (04 R68). -/
def lowerBalance (n minutes : Nat) (table : List Permit) : List Permit :=
  table.map fun p => if p.number = n then { p with balance := p.balance.map fun b => b - minutes } else p

/-- A table after a return to a Visitor record, saturating (04 R69). -/
def raiseBalance (n minutes : Nat) (table : List Permit) : List Permit :=
  table.map fun p =>
    if p.number = n ∧ p.kind = .visitor then
      { p with balance := p.balance.map fun b => min (b + minutes) Config.maxBalance }
    else p

/-- Put a table in the store: the change of an operation that completes (04 R63, 08 R159). -/
def storePermits (table : List Permit) (s : State) : State :=
  stampWrite (s.onArray fun v => { v with permits := table })

/-! ## Completions -/

/-- The operation writes the table for the cabinet (04 R70). -/
def StoreWork.isPermitWrite : StoreWork → Bool
  | .permitInsert _ => true
  | .permitUpdate _ => true
  | .permitDelete _ => true
  | _ => false

/-- A cabinet write completes: its change, and its Result (04 R70). -/
def permitWritten (r : Requester) (checked : Except Code (List Permit)) (s : State) : State :=
  match checked with
  | .error c => finish r c.plain s
  | .ok table => finish r Code.done.plain (storePermits table s)

/-- What a completed operation does when it is a cabinet write of the permit table. -/
def permitWriteEffect (h : Holder) (s : State) : State :=
  match h.op.work with
  | .permitInsert p => permitWritten h.op.requester (insertChecked p s.nv.permits) s
  | .permitUpdate u => permitWritten h.op.requester (updateChecked u s.nv.permits) s
  | .permitDelete n => permitWritten h.op.requester (deleteChecked n s.nv.permits) s
  | _ => s

/-- The operation is a PermitRead. -/
def StoreWork.isPermitRead : StoreWork → Bool
  | .permitRead _ => true
  | _ => false

/-- The Result of a PermitRead (04 R74). -/
def permitReadResult (n : Nat) (table : List Permit) : Answer :=
  match findPermit table n with
  | none => Code.notFound.plain
  | some p => doneWith p.bytes

/-- What a completed operation does when it is a PermitRead. -/
def permitReadEffect (h : Holder) (s : State) : State :=
  match h.op.work with
  | .permitRead n => finish h.op.requester (permitReadResult n s.nv.permits) s
  | _ => s

/-- The operation is a balance return. -/
def StoreWork.isReturn : StoreWork → Bool
  | .giveBack _ => true
  | _ => false

/-- A return finds a Visitor record to add to (04 R69). -/
def findsVisitor (r : Return) (table : List Permit) : Bool :=
  match findPermit table r.permit with
  | some p => p.kind == .visitor
  | none => false

/-- What a completed operation does when it is a balance return (04 R69). -/
def returnEffect (h : Holder) (s : State) : State :=
  match h.op.work with
  | .giveBack r =>
    if findsVisitor r s.nv.permits then storePermits (raiseBalance r.permit r.minutes s.nv.permits) s else s
  | _ => s

/-! ## The hold (04, section 4.5) -/

/-- HoldRequest (04 R75). -/
def holdRequest (s : State) : State :=
  if s.permits.hold = .free then
    settle (tryGrantHold (answerDone { s with permits := { s.permits with hold := .requested } }))
  else refuse .holdActive s

/-- HoldRelease (04 R79). -/
def holdRelease (s : State) : State :=
  if s.permits.hold = .free then refuse .notHeld s else settle (endHold (answerDone s))

/-- The hold has run for its limit (04 R80). -/
def State.holdOverdue (s : State) : Bool :=
  s.permits.hold.closed &&
    match s.permits.holdStart with
    | some start => decide (s.timers.holdLimit * 60 ≤ s.elapsed start)
    | none => false

/-- The hold times out when its limit has run (04 R80). -/
def timeOutHold (s : State) : State := if s.holdOverdue then notify holdEndedNotice (endHold s) else s

/-! ## Meanings -/

/-- PERMIT_INSERT (04 R71). -/
def execPermitInsert (args : PermitArgs) (s : State) : Host.Outcome State Fault Refusal :=
  .next (command (permitInsert args) s)

/-- PERMIT_UPDATE (04 R72). -/
def execPermitUpdate (args : PermitChange) (s : State) : Host.Outcome State Fault Refusal :=
  .next (command (permitUpdate args) s)

/-- PERMIT_DELETE (04 R73). -/
def execPermitDelete (number : Nat) (s : State) : Host.Outcome State Fault Refusal :=
  .next (command (permitDelete number) s)

/-- PERMIT_READ (04 R74). -/
def execPermitRead (number : Nat) (s : State) : Host.Outcome State Fault Refusal :=
  .next (command (permitRead number) s)

/-- PERMIT_WRITE_COMPLETION (04 R70 to R73). -/
def execPermitWriteCompletion (s : State) : Host.Outcome State Fault Refusal :=
  .next (onCompletion StoreWork.isPermitWrite permitWriteEffect s)

/-- PERMIT_READ_COMPLETION (04 R74). -/
def execPermitReadCompletion (s : State) : Host.Outcome State Fault Refusal :=
  .next (onCompletion StoreWork.isPermitRead permitReadEffect s)

/-- RETURN_COMPLETION (04 R69). -/
def execReturnCompletion (s : State) : Host.Outcome State Fault Refusal :=
  .next (onCompletion StoreWork.isReturn returnEffect s)

/-- HOLD_REQUEST (04 R75). -/
def execHoldRequest (s : State) : Host.Outcome State Fault Refusal := .next (command holdRequest s)

/-- HOLD_RELEASE (04 R79). -/
def execHoldRelease (s : State) : Host.Outcome State Fault Refusal := .next (command holdRelease s)

/-- HOLD_GRANT (04 R76): nothing happens while the grant condition does not hold (log entry 10). -/
def execHoldGrant (s : State) : Host.Outcome State Fault Refusal := .next (tryGrantHold s)

/-- HOLD_TIMEOUT (04 R80): nothing happens while the limit has not run (log entry 14). -/
def execHoldTimeout (s : State) : Host.Outcome State Fault Refusal :=
  .next (if s.holdOverdue then settle (timeOutHold s) else s)

end Sys2Proof.Machine
end

