-- ==== Sys2Proof/Machine/Cash.lean ====
section
/-! DEFINITION. The Cash Tally Unit but for sales and round commands (05): denominations, box events, drops and the drop
ring, recovery reconciliation, and the reading of a machine. -/

namespace Sys2Proof.Machine

/-! ## Tallies (05, section 5.2) -/

/-- A live tally with nothing in it (05 R83). -/
def emptyTally : Tally := ⟨Octet.const 0, 0, 0, 0, 0, none, none⟩

/-- The card totals with nothing in them (05 R84). -/
def emptyCards : CardTotals := ⟨0, 0⟩

/-- The coins of a tally by value (05 R83). -/
def coinValue (counts values : Octet Nat) : Nat := (Octet.zipWith (· * ·) counts values).sum

/-! ## The round record (05, section 5.5) -/

/-- A machine's entry in a round. -/
def Round.entry? (r : Round) (n : Nat) : Option RoundEntry := r.entries.find? fun e => e.machine == n

/-- A round with a machine's entry changed. -/
def Round.onEntry (r : Round) (n : Nat) (f : RoundEntry → RoundEntry) : Round :=
  { r with entries := r.entries.map fun e => if e.machine = n then f e else e }

/-- Put a round in the working copy. -/
def putRound (r : Round) (s : State) : State := { s with cash := { s.cash with round := some r } }

/-- The open round, none while no round is Open. -/
def State.openRound? (s : State) : Option Round :=
  match s.cash.round with
  | some r => if r.isOpen then some r else none
  | none => none

/-- The state of a machine's entry in the open round. -/
def State.openEntry? (s : State) (n : Nat) : Option EntryState :=
  (s.openRound?.bind fun r => r.entry? n).map RoundEntry.state

/-- Every entry of a round has ended (05 R101). -/
def Round.ended (r : Round) : Bool := r.entries.all fun e => e.state != .pending && e.state != .boxOut

/-- Close the round held, with its RoundClosed notice (05 R101, R103). -/
def closeRound (r : Round) (s : State) : State :=
  notify (roundClosedNotice r) (putRound { r with isOpen := false } s)

/-- Put a changed round, which closes at that event when every entry has ended (05 R101). -/
def putChangedRound (r : Round) (s : State) : State := if r.ended then closeRound r s else putRound r s

/-! ## The drop ring (05, section 5.4) -/

/-- The ring has a free place (05 R94). -/
def CashUnit.freePlace (c : CashUnit) : Bool := decide (c.placesTaken < Config.dropPlaces)

/-- The number after a drop or round number, 1 after the last (05 R93, R98). -/
def nextNumber (n : Nat) : Nat := if Config.maxNumber ≤ n then 1 else n + 1

/-- A place is taken: its record is unfetched, or the write of a drop to it has been asked and has not completed
(05 R94). -/
def State.placeTaken (s : State) (place : Nat) : Bool :=
  s.nv.places.any (fun p => p.place == place && !p.fetched) ||
    s.store.asked.any fun o => o.work.dropPlace? == some place

/-- The place that the next drop takes: the first free one in circular order from the place of the next write on
(05 R94; log entry 28). -/
def State.dropPlace (s : State) : Nat :=
  (((List.range Config.dropPlaces).map fun i => (s.cash.nextPlace + i) % Config.dropPlaces).find? fun p =>
      !s.placeTaken p).getD s.cash.nextPlace

/-- Take the next drop number and the next place for a snapshot (05 R93, R94). -/
def takePlace (snap : Snapshot) (s : State) : (Nat × DropRecord) × State :=
  let number := nextNumber s.cash.dropCounter
  let place := s.dropPlace
  ((place, ⟨number, snap⟩),
    { s with
      cash :=
        { s.cash with
          nextPlace := (place + 1) % Config.dropPlaces
          placesTaken := s.cash.placesTaken + 1
          dropCounter := number } })

/-- How far a drop number lies ahead of another, as numbers are given (05 R93). -/
def numbersAhead (number before : Nat) : Nat := (number + Config.maxNumber - before) % Config.maxNumber

/-- The oldest unfetched record whose write has completed: the one whose number was given the longest time ago
(05 R94; log entry 12). -/
def State.oldestDrop? (s : State) : Option DropPlace :=
  let age := fun (p : DropPlace) => numbersAhead s.cash.dropCounter p.record.number
  (s.nv.places.filter fun p => !p.fetched).foldl
    (fun best p =>
      match best with
      | none => some p
      | some b => if age b < age p then some p else some b)
    none

/-! ## Removal and insertion (05, section 5.3) -/

/-- The snapshot of a tally at a removal (05 R89, R93). -/
def Tally.snapshot (t : Tally) (machine box : Nat) (round : Option Nat) (time : Option Moment) : Snapshot :=
  ⟨machine, round, box, time, t.counts, t.cash, t.unitemised, t.sales, t.first, t.last⟩

/-- What a removal or insertion leaves for the write of 05 R87. -/
structure BoxEffect where
  drop : Option (Nat × DropRecord)
  snapshot : Bool
  deriving DecidableEq, Repr

/-- The round step of a removal: a Pending entry becomes BoxOut and the snapshot's cash joins the round cash total;
otherwise CASH_TAMPER is raised (05 R89, step 2, and R99). -/
def removalRound (n cash : Nat) (s : State) : State :=
  match s.openRound? with
  | some r =>
    if s.openEntry? n = some .pending then
      putRound { r.onEntry n (fun e => { e with state := .boxOut }) with cash := r.cash + cash } s
    else raiseFault n .cashTamper s
  | none => raiseFault n .cashTamper s

/-- The box step of a removal (05 R89, step 3). -/
def removalBox (n : Nat) (s : State) : State :=
  let s := raiseFault n .boxOut (s.onMachine n fun m => { m with box := .out })
  clearFault n .boxFull .removed (clearFault n .boxNearFull .removed s)

/-- A snapshot becomes a drop record, or the machine's held drop while the ring has no free place (05 R89, step 4, and
R90). A drop of a scheduled removal puts its number in the entry (R99). -/
def dropOrHold (n : Nat) (snap : Snapshot) (s : State) : BoxEffect × State :=
  if s.cash.freePlace then
    let (drop, s) := takePlace snap s
    let s := s.onMachine n fun m => { m with removal := .recorded drop.2.number }
    let s :=
      match s.openRound? with
      | some r =>
        if snap.round.isSome then putRound (r.onEntry n fun e => { e with drop := some drop.2.number }) s else s
      | none => s
    (⟨some drop, true⟩, s)
  else
    (⟨none, true⟩,
      raiseFault n .dropHeld (s.onMachine n fun m => { m with heldDrop := some snap, removal := .held }))

/-- The removal of a machine's box (05 R89, R90): snapshot, round, box, drop. -/
def removeBox (n box : Nat) (s : State) : BoxEffect × State :=
  match s.machine? n with
  | none => (⟨none, false⟩, s)
  | some m =>
    let takes := decide (0 < m.tally.cash) && m.heldDrop.isNone
    let round := if s.openEntry? n = some .pending then s.openRound?.map Round.number else none
    let snap := m.tally.snapshot n box round s.now
    let s := if takes then s.onMachine n (fun m => { m with tally := emptyTally }) else s
    let s := removalRound n (if takes then snap.cash else 0) s
    let s := removalBox n s
    if takes then dropOrHold n snap s
    else
      let result : Removal := if 0 < m.tally.cash then .held else .noDrop
      (⟨none, false⟩, s.onMachine n fun m => { m with removal := result })

/-- A box id cannot be told apart: it is 0, or Installed in another machine (05 R91). -/
def State.conflicts (s : State) (n box : Nat) : Bool :=
  box == 0 || s.machines.any fun m => m.number != n && m.box == .installed box

/-- Install a box and test it for conflict (05 R91). -/
def installBox (n box : Nat) (s : State) : State :=
  let conflict := s.conflicts n box
  let s := clearFault n .boxOut .inserted (s.onMachine n fun m => { m with box := .installed box })
  if conflict then raiseFault n .boxConflict s else s

/-- A BoxOut entry of the open round becomes Collected (05 R91, R99). -/
def insertionRound (n : Nat) (s : State) : State :=
  match s.openRound? with
  | some r =>
    if s.openEntry? n = some .boxOut then
      putChangedRound (r.onEntry n fun e => { e with state := .collected }) s
    else s
  | none => s

/-- The insertion of a box from Out (05 R91). -/
def insertBox (n box : Nat) (s : State) : State := insertionRound n (installBox n box s)

/-! ## The write of a box event (05 R87) -/

/-- The recorded form of a box state (05 R86). -/
def BoxState.recordedForm : BoxState → RecordedBox
  | .unknown => .nothing
  | .installed id => .installed id
  | .out => .out

/-- Ask the class-2 write of a box event that led from one state to another (05 R87). -/
def askBoxWrite (n id : Nat) (e : BoxEffect) (answer : Option Answer) (before : State) (s : State) : State :=
  match s.machine? n with
  | none => s
  | some m =>
    let held := (before.machine? n).bind MachineRecord.heldDrop
    ask
      ⟨.boxWrite
          { machine := n
            id := id
            drop := e.drop
            snapshot := e.snapshot
            heldMade := if held = m.heldDrop then none else m.heldDrop
            round := if before.cash.round = s.cash.round then none else s.cash.round
            recorded := m.box.recordedForm
            removal := m.removal
            answer := answer },
        2, .nobody⟩
      s

/-- End a box event: its write is asked, and a snapshot marks the machine's group dirty (05 R83, R87). -/
def endBoxEvent (n id : Nat) (e : BoxEffect) (answer : Option Answer) (before s : State) : State :=
  let s := askBoxWrite n id e answer before s
  if e.snapshot then markMachineDirty n s else s

/-- A machine's last removal result. -/
def State.removalOf (s : State) (n : Nat) : Removal := ((s.machine? n).map MachineRecord.removal).getD .nothing

/-- A repeated BoxRemoved is answered with the last removal result (05 R88). -/
def repeatRemoval (m : MachineRecord) (id : Nat) (s : State) : State :=
  let a := boxAnswer (Config.freeAnswerCode s.freeCount) m.removal none
  let s := if m.removal = .nothing then { s with freeCount := s.freeCount + 1 } else s
  giveReply m.number id a s

/-- A BoxRemoved passed to the Cash Tally Unit (05 R88, R89). -/
def boxRemovedArrival (m : MachineRecord) (id : Nat) (s : State) : State :=
  match m.box with
  | .installed box =>
    let (e, t) := removeBox m.number box s
    endBoxEvent m.number id e (some (boxAnswer 0 (t.removalOf m.number) none)) s t
  | _ => repeatRemoval m id s

/-- The insertion part of an answer: whether the box conflicts (05 R91). -/
def insertionPart (n box : Nat) (s : State) : Option Bool := some (s.conflicts n box)

/-- A BoxInserted passed to the Cash Tally Unit (05 R91, R92). -/
def boxInsertedArrival (box : Nat) (m : MachineRecord) (id : Nat) (s : State) : State :=
  match m.box with
  | .installed old =>
    if old = box then
      giveReply m.number id (boxAnswer 0 .nothing (some (m.faults.active .boxConflict))) s
    else
      let (e, t) := removeBox m.number old s
      let answer := boxAnswer 0 (t.removalOf m.number) (insertionPart m.number box s)
      endBoxEvent m.number id e (some answer) s (insertBox m.number box t)
  | _ =>
    let answer := boxAnswer 0 .nothing (insertionPart m.number box s)
    endBoxEvent m.number id ⟨none, false⟩ (some answer) s (insertBox m.number box s)

/-! ## Recovery reconciliation (05, section 5.6) -/

/-- The box part of a reconciliation (05 R105). -/
def reconcileBox (n : Nat) (recorded : RecordedBox) (report : Option Nat) (s : State) : BoxEffect × State :=
  match recorded, report with
  | .installed old, some box =>
    if old = box then (⟨none, false⟩, installBox n box s)
    else
      let (e, s) := removeBox n old s
      (e, insertBox n box s)
  | .installed old, none => removeBox n old s
  | .out, some box => (⟨none, false⟩, insertBox n box s)
  | .out, none => (⟨none, false⟩, raiseFault n .boxOut s)
  | .nothing, some box => (⟨none, false⟩, installBox n box s)
  | .nothing, none => (⟨none, false⟩, raiseFault n .boxOut (s.onMachine n fun m => { m with box := .out }))

/-- The distance ahead of a serial (03 R49). -/
def serialDistance (last serial : Nat) : Nat := (serial + Config.serials - last) % Config.serials

/-- A tally raised to a machine's own cash figure, as unitemised cash (05 R106). -/
def Tally.raisedTo (t : Tally) (cash : Nat) : Tally :=
  if t.cash < cash then { t with unitemised := t.unitemised + (cash - t.cash), cash := cash } else t

/-- The serial and cash part of a reconciliation: the tally, the last accepted serial and token, and whether TALLY_GAP
is raised (05 R106). -/
def reconcileSerial (a : Accepted) (t : Tally) (serial : Option Nat) (cash : Nat) : Accepted × Tally × Bool :=
  match a.serial, serial with
  | some last, some own =>
    let d := serialDistance last own
    if d = 0 then (a, t, decide (t.cash ≠ cash))
    else if d ≤ Config.serialWindow then (⟨some own, none⟩, t.raisedTo cash, true)
    else (⟨some own, none⟩, t, true)
  | some _, none => (⟨none, none⟩, t, true)
  | none, some own => (⟨some own, a.token⟩, t.raisedTo cash, false)
  | none, none => (a, t, false)

/-- The box kinds that a restored state calls for, raised in the order of the list of 05 R107; that they are asked in this
order is log entry 67. -/
def raiseRestored (n : Nat) (s : State) : State :=
  match s.machine? n with
  | none => s
  | some m =>
    let s := if m.box = .out then raiseInactive n .boxOut s else s
    let s := if m.heldDrop.isSome then raiseInactive n .dropHeld s else s
    let s := if m.reg.capacity ≤ m.tally.coins + m.reg.margin then raiseInactive n .boxNearFull s else s
    if m.reg.capacity ≤ m.tally.coins then raiseInactive n .boxFull s else s

/-- Reconcile a machine marked reconcile due with the figures of its Join frame (05 R104 to R107). The spec does not say
whether the kinds of 05 R107 are asked before or after the TALLY_GAP of R106, and 06 R113 writes the notices in the order
asked; that TALLY_GAP comes first is the model's choice (log entry 67). -/
def reconcile (m : MachineRecord) (f : JoinFrame) (s : State) : State :=
  let n := m.number
  let (e, t) := reconcileBox n m.recorded (JoinFrame.boxReport f) s
  match t.machine? n with
  | none => t
  | some b =>
    let (accepted, tally, gap) := reconcileSerial b.accepted b.tally (JoinFrame.lastSerial f) f.cash
    let u := t.onMachine n fun m => { m with accepted := accepted, tally := tally, reconcileDue := false }
    let u := raiseRestored n (if gap then raiseFault n .tallyGap u else u)
    let boxChanged := b.box != m.box || b.tally != m.tally || t.cash.round != s.cash.round
    let u := if boxChanged then askBoxWrite n 0 e none s u else u
    if e.snapshot || accepted != b.accepted || tally != b.tally then markMachineDirty n u else u

/-! ## Held drops (05 R96) -/

/-- The lowest-numbered machine with a held drop whose write has not been asked. -/
def State.nextHeld? (s : State) : Option (MachineRecord × Snapshot) :=
  s.machines.findSome? fun m =>
    match m.heldDrop, m.heldAsked with
    | some snap, none => some (m, snap)
    | _, _ => none

/-- The class of a held drop write: 1 at a flush and while the warning is asserted, 2 otherwise (08 R152, 11 R197). -/
def State.heldClass (s : State) : Nat := if s.warning || s.restartAsked then 1 else 2

/-- The entry of a held drop's own round takes its number while that round is held, and a class-2 write of the round
record is asked (05 R96, R97; log entry 50). -/
def numberEntry (n : Nat) (d : DropRecord) (s : State) : State :=
  match s.cash.round with
  | none => s
  | some r =>
    if d.snapshot.round = some r.number then
      let r := r.onEntry n fun e => { e with drop := some d.number }
      ask ⟨.roundWrite (some r), 2, .nobody⟩ (putRound r s)
    else s

/-- Write one held drop, if there is one and the ring has a free place: it takes the next number and place, its write
is asked, and then the entry of its own round takes the number (05 R96). -/
def askHeldDrop (r : Requester) (s : State) : State :=
  match s.nextHeld? with
  | none => s
  | some (m, snap) =>
    if s.cash.freePlace then
      let (drop, s) := takePlace snap s
      let s := s.onMachine m.number fun m => { m with heldAsked := some (drop.1, drop.2.number) }
      numberEntry m.number drop.2 (ask ⟨.heldWrite ⟨m.number, drop.1, drop.2⟩, s.heldClass, r⟩ s)
    else s

/-- Write held drops as far as free places allow (05 R96). The first argument bounds the machines tried. -/
def askHeldDrops (r : Requester) : Nat → State → State
  | 0, s => s
  | fuel + 1, s => askHeldDrops r fuel (askHeldDrop r s)

/-! ## Completions -/

/-- Put a record in its place of the store's ring, unfetched. -/
def putPlace (p : DropPlace) (places : List DropPlace) : List DropPlace :=
  p :: places.filter fun x => x.place != p.place

/-- The store's ring after a drop's write: the record, and the place of the next write and the drop counter, which
never go back where the write of a drop numbered later has completed first (05 R93, R94; log entry 28). -/
def NvArray.withDrop (v : NvArray) (drop : Nat × DropRecord) : NvArray :=
  let v := { v with places := putPlace ⟨drop.1, drop.2, false⟩ v.places }
  if numbersAhead drop.2.number v.dropCounter < 32768 then
    { v with nextPlace := (drop.1 + 1) % Config.dropPlaces, dropCounter := drop.2.number }
  else v

/-- A machine's box record in the store, an empty one where none has been written. -/
def NvArray.boxRecord (v : NvArray) (n : Nat) : BoxRecord :=
  (v.boxes.find? fun b => b.machine == n).getD ⟨n, .nothing, .nothing, none, 0, 0⟩

/-- Put a machine's box record. -/
def NvArray.withBox (v : NvArray) (b : BoxRecord) : NvArray :=
  { v with boxes := b :: v.boxes.filter fun x => x.machine != b.machine }

/-- A drop's write has completed: its record is unfetched in its place, and DropRecorded is written (05 R94). -/
def recordDrop (drop : Option (Nat × DropRecord)) (s : State) : State :=
  match drop with
  | none => s
  | some d => notify (dropRecordedNotice d.2) (s.onArray fun v => v.withDrop d)

/-- A box event's write completes: the store holds what it records, DropRecorded is written and the answer is ready
(05 R87, R94). The held drop is recorded unless it has been written to the ring meanwhile (log entry 28). -/
def boxWritten (w : BoxWork) (s : State) : State :=
  let s := stampWrite s
  let stillHeld := ((s.machine? w.machine).bind MachineRecord.heldDrop) == w.heldMade
  let old := s.nv.boxRecord w.machine
  let record : BoxRecord :=
    { machine := w.machine
      recorded := w.recorded
      removal := w.removal
      held := if w.heldMade.isSome && stillHeld then w.heldMade else old.held
      snapshotStamp := if w.snapshot then s.nv.stamp else old.snapshotStamp
      stamp := s.nv.stamp }
  let s := s.onArray fun v => { v.withBox record with round := if w.round.isSome then w.round else v.round }
  let s := s.onMachine w.machine fun m => { m with recorded := w.recorded }
  let s := recordDrop w.drop s
  match w.answer with
  | some a => giveReply w.machine w.id a s
  | none => s

/-- A held drop's write completes: the held drop is gone, DropRecorded is written and DROP_HELD is cleared (05 R94,
R96). -/
def heldWritten (w : HeldWork) (s : State) : State :=
  let s := stampWrite s
  let s := s.onArray fun v => v.withBox { v.boxRecord w.machine with held := none, stamp := v.stamp }
  let s := s.onMachine w.machine fun m => { m with heldDrop := none, heldAsked := none }
  clearFault w.machine .dropHeld .dropWritten (recordDrop (some (w.place, w.record)) s)

/-- The record of the store in a place. -/
def NvArray.placeAt? (v : NvArray) (place : Nat) : Option DropPlace := v.places.find? fun p => p.place == place

/-- The marking of a FetchDrop completes: the place is free, the Result is the record, and a held drop is written in
the place freed (05 R95, R96). -/
def dropFetched (place : Nat) (r : Requester) (s : State) : State :=
  match s.nv.placeAt? place with
  | none => s
  | some p =>
    let s := stampWrite s
    let s := s.onArray fun v =>
      { v with places := v.places.map fun x => if x.place = place then { x with fetched := true } else x }
    let s := { s with cash := { s.cash with fetching := none, placesTaken := s.cash.placesTaken - 1 } }
    askHeldDrop .nobody (finish r (doneWith p.record.bytes) s)

/-- The operation writes a box event. -/
def StoreWork.isBoxWrite : StoreWork → Bool
  | .boxWrite _ => true
  | _ => false

/-- The operation writes a held drop. -/
def StoreWork.isHeldWrite : StoreWork → Bool
  | .heldWrite _ => true
  | _ => false

/-- The operation reads a drop record. -/
def StoreWork.isFetchRead : StoreWork → Bool
  | .fetchRead _ => true
  | _ => false

/-- The operation marks a drop record fetched. -/
def StoreWork.isFetchMark : StoreWork → Bool
  | .fetchMark _ => true
  | _ => false

/-- What a completed operation does when it is a box write. -/
def boxWriteEffect (h : Holder) (s : State) : State :=
  match h.op.work with
  | .boxWrite w => boxWritten w s
  | _ => s

/-- What a completed operation does when it is a held drop write. -/
def heldWriteEffect (h : Holder) (s : State) : State :=
  match h.op.work with
  | .heldWrite w => heldWritten w s
  | _ => s

/-- What a completed operation does when it is the read of a FetchDrop: its marking is asked (05 R95). -/
def fetchReadEffect (h : Holder) (s : State) : State :=
  match h.op.work with
  | .fetchRead place => ask ⟨.fetchMark place, 2, h.op.requester⟩ s
  | _ => s

/-- What a completed operation does when it is the marking of a FetchDrop. -/
def fetchMarkEffect (h : Holder) (s : State) : State :=
  match h.op.work with
  | .fetchMark place => dropFetched place h.op.requester s
  | _ => s

/-! ## Commands -/

/-- FetchDrop (05 R95). -/
def fetchDrop (s : State) : State :=
  match s.oldestDrop? with
  | none => refuse .empty s
  | some p => askForCabinet (.fetchRead p.place) 3 { s with cash := { s.cash with fetching := some p.place } }

/-- Coins of an index are held on account (05 R82). -/
def State.indexInUse (s : State) (i : Nat) : Bool :=
  s.machines.any fun m =>
    decide (0 < m.tally.counts.get i) || (m.heldDrop.any fun d => decide (0 < d.counts.get i))

/-- SetDenominations (05 R82). -/
def setDenominations (values : Octet Nat) (s : State) : State :=
  if values.toList.any fun v => decide (50000 < v) then refuse .badRequest s
  else if [0, 1, 2, 3, 4, 5, 6, 7].any fun i =>
      s.indexInUse i && values.get i != s.cash.denominations.get i then refuse .inUse s
  else takenTable (.denominations values) { s with cash := { s.cash with denominations := values } }

/-- ClearCardTotals (05 R84). -/
def clearCardTotals (n : Nat) (s : State) : State :=
  if machineNumber n = false then refuse .badRequest s
  else
    match s.machine? n with
    | none => refuse .notFound s
    | some m =>
      let s := answer (doneWith (byte4 m.cards.amount ++ byte4 m.cards.sales)) s
      settle (markDirty m.group (s.onMachine n fun m => { m with cards := emptyCards }))

/-- The entry state of a machine in the round held, 0 for no entry (09, section 9.4). -/
def State.entryNumber (s : State) (n : Nat) : Nat :=
  match s.cash.round.bind fun r => r.entry? n with
  | some e => e.state.number
  | none => 0

/-- The kinds whose entries are not fresh (06 R124). -/
def FaultEntries.raisedKinds (f : FaultEntries) : List FaultKind := FaultKind.all.filter fun k => f.get k != freshEntry

/-- The data of a ReadMachine (05 R85, 06 R124, 12 R204; the numbers of the permitted line, the fitted
kinds, the link state and the line are log entry 17, those of the last removal result log entry 65). -/
def machineBytes (m : MachineRecord) (s : State) : List Byte :=
  let link := m.link.fields?
  byte2 m.number ++ byte1 m.reg.zone ++ byte1 m.reg.permitted.number ++ byte2 m.reg.capacity ++
    byte2 m.reg.margin ++ byte1 m.reg.fitted.number ++ byte1 m.group ++ byte1 m.link.number ++
    byte1 ((link.map fun f => lineNumber f.line).getD 255) ++ byte1 ((link.map LinkFields.slot).getD 0) ++
    m.tally.counts.toList.flatMap byte2 ++ byte4 m.tally.cash ++ byte4 m.tally.unitemised ++
    byte2 m.tally.sales ++ byte2 m.tally.coins ++ serialBytes m.tally.first ++ serialBytes m.tally.last ++
    byte4 m.cards.amount ++ byte4 m.cards.sales ++ byte1 m.box.number ++ byte2 m.box.idField ++
    byte1 m.removal.number ++ byte2 m.removal.dropField ++ flagByte m.heldDrop.isSome ++
    byte4 ((m.heldDrop.map Snapshot.cash).getD 0) ++ serialBytes m.accepted.serial ++
    byte1 (m.accepted.token.getD 0) ++ byte1 (s.entryNumber m.number) ++ byte1 m.service.number ++
    byte1 m.flags.bits ++ byte1 m.faults.raisedKinds.length ++
    m.faults.raisedKinds.flatMap fun k => (m.faults.get k).bytes k

/-- ReadMachine (05 R85). -/
def readMachine (n : Nat) (s : State) : State :=
  if machineNumber n = false then refuse .badRequest s
  else
    match s.machine? n with
    | none => refuse .notFound s
    | some m => answer (doneWith (machineBytes m s)) s

/-! ## Meanings -/

/-- BOX_WRITE_COMPLETION (05 R87). -/
def execBoxWriteCompletion (s : State) : Host.Outcome State Fault Refusal :=
  .next (onCompletion StoreWork.isBoxWrite boxWriteEffect s)

/-- HELD_DROP_WRITE_COMPLETION (05 R96). -/
def execHeldDropWriteCompletion (s : State) : Host.Outcome State Fault Refusal :=
  .next (onCompletion StoreWork.isHeldWrite heldWriteEffect s)

/-- FETCH_DROP_READ_COMPLETION (05 R95). -/
def execFetchDropReadCompletion (s : State) : Host.Outcome State Fault Refusal :=
  .next (onCompletion StoreWork.isFetchRead fetchReadEffect s)

/-- FETCH_DROP_MARKING_COMPLETION (05 R95, R96). -/
def execFetchDropMarkingCompletion (s : State) : Host.Outcome State Fault Refusal :=
  .next (onCompletion StoreWork.isFetchMark fetchMarkEffect s)

/-- FETCH_DROP (05 R95). -/
def execFetchDrop (s : State) : Host.Outcome State Fault Refusal := .next (command fetchDrop s)

/-- SET_DENOMINATIONS (05 R82). -/
def execSetDenominations (values : Octet Nat) (s : State) : Host.Outcome State Fault Refusal :=
  .next (command (setDenominations values) s)

/-- CLEAR_CARD_TOTALS (05 R84). -/
def execClearCardTotals (machine : Nat) (s : State) : Host.Outcome State Fault Refusal :=
  .next (command (clearCardTotals machine) s)

/-- READ_MACHINE (05 R85). -/
def execReadMachine (machine : Nat) (s : State) : Host.Outcome State Fault Refusal :=
  .next (command (readMachine machine) s)

end Sys2Proof.Machine
end

