-- ==== Sys2Proof/Machine/Rounds.lean ====
section
/-! DEFINITION. Opening, skipping and closing a collection round, from the cabinet port and from the round port (05,
section 5.5), and the completion of round writes. -/

namespace Sys2Proof.Machine

/-- Record the round record by a class-2 write; the port is answered at its completion (05 R97). -/
def recordRound (p : FromPort) (line : List Nat) (s : State) : State :=
  settle (p.await line (ask ⟨.roundWrite s.cash.round, 2, p.requester⟩ s))

/-- Open a round with these machines, in the order given (05 R98). -/
def openRound (p : FromPort) (by_ : OpenedBy) (machines : List Nat) (s : State) : State :=
  let number := nextNumber ((s.cash.round.map Round.number).getD 0)
  let r : Round :=
    { number := number
      isOpen := true
      openedBy := by_
      openedAt := s.now
      cash := 0
      entries := machines.map fun n => ⟨n, .pending, none⟩ }
  recordRound p [number, machines.length] (putRound r s)

/-- A list that RoundOpen refuses BAD_LIST (05 R98). -/
def State.badList (s : State) (machines : List Nat) : Bool :=
  machines.isEmpty || decide (64 < machines.length) || machines.any (fun n => (s.machine? n).isNone) ||
    !decide machines.Nodup

/-- RoundOpen from the cabinet port (05 R98). -/
def roundOpenCabinet (machines : List Nat) (s : State) : State :=
  if s.openRound?.isSome then refuse .roundOpen s
  else if s.badList machines then refuse .badList s
  else openRound .cabinet .cabinet machines s

/-- The machines without NO_ROUND, in ascending order (05 R98). -/
def State.roundMachines (s : State) : List Nat :=
  (s.machines.filter fun m => !m.flags.noRound).map MachineRecord.number

/-- RoundOpen from the round port (05 R98, 09 R177). -/
def roundOpenPort (s : State) : State :=
  if s.openRound?.isSome then FromPort.roundPort.refuse .roundOpen s
  else if s.roundMachines.isEmpty then FromPort.roundPort.refuse .empty s
  else openRound .roundPort .roundPort s.roundMachines s

/-- RoundSkip (05 R100). -/
def roundSkip (p : FromPort) (n : Nat) (s : State) : State :=
  match s.openRound? with
  | none => p.refuse .roundClosed s
  | some r =>
    match r.entry? n with
    | none => p.refuse .notFound s
    | some e =>
      if e.state = .pending then
        recordRound p [n, EntryState.skipped.number]
          (putChangedRound (r.onEntry n fun e => { e with state := .skipped }) s)
      else p.refuse .entryState s

/-- An entry at a close: Pending becomes Skipped, BoxOut becomes Unfinished (05 R102, R103). -/
def RoundEntry.atClose (e : RoundEntry) : RoundEntry :=
  match e.state with
  | .pending => { e with state := .skipped }
  | .boxOut => { e with state := .unfinished }
  | _ => e

/-- A round with every entry ended by a close. -/
def Round.atClose (r : Round) : Round := { r with entries := r.entries.map RoundEntry.atClose }

/-- The reply line of a close (09 R179). -/
def Round.summaryLine (r : Round) : List Nat :=
  [r.number, r.count .collected, r.count .skipped, r.count .unfinished, r.cash]

/-- Close the open round and record it (05 R102, R103). -/
def endRound (p : FromPort) (r : Round) (s : State) : State :=
  recordRound p r.atClose.summaryLine (closeRound r.atClose s)

/-- RoundClose (05 R102). -/
def roundClose (p : FromPort) (s : State) : State :=
  match s.openRound? with
  | none => p.refuse .roundClosed s
  | some r => if r.entries.any (fun e => e.state == .boxOut) then p.refuse .roundBusy s else endRound p r s

/-- The forced close (05 R103). -/
def roundCloseForced (p : FromPort) (s : State) : State :=
  match s.openRound? with
  | none => p.refuse .roundClosed s
  | some r => endRound p r s

/-- The operation writes the round record alone. -/
def StoreWork.isRoundWrite : StoreWork → Bool
  | .roundWrite _ => true
  | _ => false

/-- What a completed operation does when it is a round write (05 R97). -/
def roundWriteEffect (h : Holder) (s : State) : State :=
  match h.op.work with
  | .roundWrite r => finish h.op.requester Code.done.plain (stampWrite (s.onArray fun v => { v with round := r }))
  | _ => s

/-! ## Meanings -/

/-- ROUND_OPEN (05 R98). -/
def execRoundOpen (machines : List Nat) (s : State) : Host.Outcome State Fault Refusal :=
  .next (command (roundOpenCabinet machines) s)

/-- ROUND_SKIP (05 R100). -/
def execRoundSkip (machine : Nat) (s : State) : Host.Outcome State Fault Refusal :=
  .next (command (roundSkip .cabinet machine) s)

/-- ROUND_CLOSE (05 R102); an argument other than 0 and 1 is outside its range (log entry 23). -/
def execRoundClose (argument : Nat) (s : State) : Host.Outcome State Fault Refusal :=
  .next (command (if argument = 0 then roundClose .cabinet else refuse .badRequest) s)

/-- ROUND_CLOSE_FORCED (05 R103). -/
def execRoundCloseForced (s : State) : Host.Outcome State Fault Refusal :=
  .next (command (roundCloseForced .cabinet) s)

/-- ROUND_WRITE_COMPLETION (05 R97). -/
def execRoundWriteCompletion (s : State) : Host.Outcome State Fault Refusal :=
  .next (onCompletion StoreWork.isRoundWrite roundWriteEffect s)

end Sys2Proof.Machine
end

