-- ==== Sys2Proof/Machine/Sales.lean ====
section
/-! DEFINITION. Sale commits, their checks and acceptance, and the completion of a visitor's balance decrement (03). -/

namespace Sys2Proof.Machine

/-! ## The checks (03, section 3.2) -/

/-- The form check of a commit (03 R45): its payment kind, none when it is refused BAD_REQUEST. -/
def saleForm (f : SaleFrame) : Option PayKind :=
  if f.token = 0 ∨ 255 < f.token ∨ f.serial = 0 ∨ Config.serials < f.serial then none
  else
    match PayKind.ofNumber f.payKind with
    | some .cash => if f.tendered = 0 then none else some .cash
    | some .card => some .card
    | _ => none

/-- The repeat check (03 R46). -/
def Accepted.repeats (a : Accepted) (f : SaleFrame) : Bool := a.serial == some f.serial && a.token == some f.token

/-- The serial window check: none refuses SERIAL_OLD, otherwise whether a gap is recorded (03 R49). -/
def serialWindow (last : Option Nat) (serial : Nat) : Option Bool :=
  match last with
  | none => some false
  | some n =>
    let d := serialDistance n serial
    if d = 1 then some false
    else if 2 ≤ d ∧ d ≤ Config.serialWindow then some true
    else none

/-- The payment kind check (03 R50). -/
def MachineRecord.takesPayment (m : MachineRecord) (q : OpenQuote) (pay : PayKind) : Bool :=
  pay == q.pay && m.allows pay &&
    (pay != .cash ||
      match m.box with
      | .installed _ => true
      | _ => false)

/-- The coin sum of a list (03 R52). -/
def coinSum (values : Octet Nat) (coins : List CoinPair) : Nat :=
  (coins.map fun c => c.count * values.get c.index).sum

/-- A coin list whose entries are in range, distinct, and of denominations in use (03 R52). -/
def coinListSound (values : Octet Nat) (coins : List CoinPair) : Bool :=
  !coins.isEmpty && decide (coins.length ≤ 8) &&
    coins.all (fun c => decide (c.index ≤ 7) && decide (0 < c.count) && decide (0 < values.get c.index)) &&
    decide (coins.map CoinPair.index).Nodup

/-- The amount A recorded in a quote, 0 for a quote by time (02 R43). -/
def QuotePrice.amount : QuotePrice → Nat
  | .byMoney tendered _ => tendered
  | .byTime _ => 0

/-- The cash amount check (03 R52). -/
def amountMatches (values : Octet Nat) (q : OpenQuote) (f : SaleFrame) : Bool :=
  coinListSound values f.coins && coinSum values f.coins == f.tendered && f.tendered == q.price.amount

/-! ## Acceptance (03, section 3.3) -/

/-- Counts with the coins of a list added (03 R57). -/
def addCoins (counts : Octet Nat) (coins : List CoinPair) : Octet Nat :=
  coins.foldl (fun c p => c.set p.index (c.get p.index + p.count)) counts

/-- The tally after an accepted cash sale (03 R57). -/
def Tally.sold (t : Tally) (values : Octet Nat) (serial : Nat) (coins : List CoinPair) : Tally :=
  { t with
    counts := addCoins t.counts coins
    coins := t.coins + (coins.map CoinPair.count).sum
    cash := t.cash + coinSum values coins
    sales := t.sales + 1
    first := some (t.first.getD serial)
    last := some serial }

/-- The cost of a card sale (02 R43). -/
def QuotePrice.cost : QuotePrice → Nat
  | .byTime cost => cost
  | .byMoney _ _ => 0

/-- The box-fill checks after an accepted cash sale (03 R59). -/
def checkBoxFill (n : Nat) (s : State) : State :=
  match s.machine? n with
  | none => s
  | some m =>
    let s := if m.reg.capacity ≤ m.tally.coins + m.reg.margin then raiseInactive n .boxNearFull s else s
    if m.reg.capacity ≤ m.tally.coins then raiseInactive n .boxFull s else s

/-- What acceptance does whatever the payment kind: the answer, the last accepted serial and token, and TALLY_GAP
(03 R55). -/
def acceptSale (n id token serial : Nat) (gap : Bool) (s : State) : State :=
  let s := giveReply n id (acceptedAnswer token serial) s
  let s := s.onMachine n fun m => { m with accepted := ⟨some serial, some token⟩ }
  if gap then raiseFault n .tallyGap s else s

/-- Accept a cash sale (03 R55, R57, R59). -/
def acceptCash (n id : Nat) (gap : Bool) (f : SaleFrame) (s : State) : State :=
  let s := s.onMachine n fun m => { m with tally := m.tally.sold s.cash.denominations f.serial f.coins }
  markMachineDirty n (checkBoxFill n (acceptSale n id f.token f.serial gap s))

/-- Accept a card sale (03 R55, R57). -/
def acceptCard (n id token serial : Nat) (gap : Bool) (q : OpenQuote) (s : State) : State :=
  let s := s.onMachine n fun m => { m with cards := ⟨m.cards.amount + q.price.cost, m.cards.sales + 1⟩ }
  markMachineDirty n (acceptSale n id token serial gap s)

/-! ## The commit -/

/-- Refuse a commit and return its claimed quote to open (03 R49, R50, R52, R53). -/
def refuseReopened (n id : Nat) (q : OpenQuote) (c : Code) (s : State) : State :=
  giveReply n id c.plain (reopenQuote n q s)

/-- Pass a visitor sale's decrement to the Permit Register (03 R53, 04 R67). -/
def askDecrement (n id : Nat) (f : SaleFrame) (gap : Bool) (q : OpenQuote) (s : State) : State :=
  if s.permits.hold.closed then refuseReopened n id q .permitUnavailable s
  else
    let s := s.onMachine n fun m => { m with commit := some ⟨id, f.token, f.serial, gap, q, false⟩ }
    ask ⟨.decrement ⟨n, id, q.permit.getD 0, q.minutes, q.zone⟩, 4, .nobody⟩ s

/-- Checks 3 to 7 of a commit that has claimed a quote (03 R48 to R53). -/
def checkClaimed (m : MachineRecord) (id : Nat) (f : SaleFrame) (pay : PayKind) (q : OpenQuote) (s : State) : State :=
  let n := m.number
  if q.generation ≠ (s.zone q.zone).generation then giveReply n id Code.quoteStale.plain s
  else
    match serialWindow m.accepted.serial f.serial with
    | none => refuseReopened n id q .serialOld s
    | some gap =>
      if m.takesPayment q pay = false then refuseReopened n id q .paymentBlocked s
      else if pay = .cash then
        if amountMatches s.cash.denominations q f then acceptCash n id gap f s
        else refuseReopened n id q .saleMismatch s
      else if q.rate = .visitor then askDecrement n id f gap q s
      else acceptCard n id f.token f.serial gap q s

/-- A SaleCommit passed to the Cash Tally Unit (03 R45 to R53, R60). -/
def saleArrival (f : SaleFrame) (m : MachineRecord) (id : Nat) (s : State) : State :=
  let n := m.number
  match saleForm f with
  | none => giveReply n id Code.badRequest.plain s
  | some pay =>
    if m.commit.isSome then giveReply n id Code.busy.plain s
    else if m.accepted.repeats f then giveReply n id (acceptedAnswer f.token f.serial) s
    else
      match m.openQuote with
      | none => giveReply n id Code.noQuote.plain s
      | some q =>
        if q.token = f.token then
          checkClaimed m id f pay q (s.onMachine n fun m => { m with openQuote := none })
        else giveReply n id Code.noQuote.plain s

/-! ## The decrement's completion -/

/-- Ask a balance return, or keep it waiting while the hold is closed (03 R54, 04 R69). -/
def askReturn (r : Return) (s : State) : State :=
  if s.permits.hold.closed then keepReturn r s else ask ⟨.giveBack r, 4, .nobody⟩ s

/-- The Cash Tally Unit takes a decrement's result for its commit (03 R53, R54). -/
def takeDecrement (w : DecrementWork) (c : CommitInFlight) (r : DecrementResult) (s : State) : State :=
  let s := s.onMachine w.machine fun m => { m with commit := none }
  match r with
  | .taken =>
    if c.quote.generation = (s.zone c.quote.zone).generation then
      acceptCard w.machine c.id c.token c.serial c.gap c.quote s
    else askReturn ⟨w.permit, w.minutes⟩ (giveReply w.machine c.id Code.quoteStale.plain s)
  | .refused cause => giveReply w.machine c.id (permitRefusedAnswer cause) s
  | .short => giveReply w.machine c.id Code.balanceChanged.plain s

/-- The commit in flight that a decrement serves. -/
def State.commitOf? (s : State) (w : DecrementWork) : Option CommitInFlight :=
  match (s.machine? w.machine).bind MachineRecord.commit with
  | some c => if c.id = w.id then some c else none
  | none => none

/-- A decrement completes: a done one has taken its minutes, and its commit, if it is still in flight, is decided
(03 R53, R54, R60; 04 R68). -/
def decrementDone (w : DecrementWork) (r : DecrementResult) (s : State) : State :=
  let s := if r = .taken then storePermits (lowerBalance w.permit w.minutes s.nv.permits) s else s
  match s.commitOf? w with
  | some c => takeDecrement w c r s
  | none => s

/-- The operation is a balance decrement. -/
def StoreWork.isDecrement : StoreWork → Bool
  | .decrement _ => true
  | _ => false

/-- What a completed operation does when it is a balance decrement; its result was decided at its grant (04 R68). -/
def decrementEffect (h : Holder) (s : State) : State :=
  match h.op.work, h.data with
  | .decrement w, .decision r => decrementDone w r s
  | _, _ => s

/-- DECREMENT_COMPLETION (04 R68; 03 R53, R54). -/
def execDecrementCompletion (s : State) : Host.Outcome State Fault Refusal :=
  .next (onCompletion StoreWork.isDecrement decrementEffect s)

end Sys2Proof.Machine
end

