-- ==== Sys2Proof/Machine/Faults.lean ====
section
/-! DEFINITION. Status reports, acknowledgements, service flags and the district fault summary (06). -/

namespace Sys2Proof.Machine

/-- The kinds whose source is the machine, in kind-number order (06, section 6.1). -/
def machineKinds : List FaultKind := FaultKind.all.filter FaultKind.fromMachine

/-- One kind of a Status frame: raised when newly listed, cleared when no longer listed (06 R114). -/
def reportKind (n : Nat) (listed : List Nat) (k : FaultKind) (s : State) : State :=
  if listed.contains k.number then raiseInactive n k s else clearFault n k .report s

/-- A Status frame's list, taken as a set over the seven machine-sourced kinds in kind-number order (06 R114). -/
def statusReport (n : Nat) (listed : List Nat) (s : State) : State :=
  machineKinds.foldl (fun s k => reportKind n listed k s) s

/-- The cause of a clear by acknowledgement at a port (06 R112, R116). -/
def FromPort.ackCause : FromPort → ClearCause
  | .cabinet => .ackCabinet
  | .roundPort => .ackRound

/-- An acknowledgement (06 R116). -/
def ackFault (p : FromPort) (n kind : Nat) (s : State) : State :=
  match machineNumber n, FaultKind.ofNumber kind with
  | true, some k =>
    match s.machine? n with
    | none => p.refuse .notFound s
    | some m =>
      if k.acknowledgeable = false then p.refuse .notAcknowledgeable s
      else if m.faults.active k = false then p.refuse .notActive s
      else settle (p.reply [n, kind] (clearFault n k p.ackCause s))
  | _, _ => p.refuse .badRequest s

/-- Set or clear a service flag (06 R118). -/
def changeFlag (p : FromPort) (n flag : Nat) (value : Bool) (s : State) : State :=
  match machineNumber n, FlagName.ofNumber flag with
  | true, some f =>
    match s.machine? n with
    | none => p.refuse .notFound s
    | some m =>
      let line := [n, flag, if value then 1 else 0]
      if m.flags.get f = value then p.reply line s
      else
        let flags := m.flags.set f value
        let s := s.onMachine n fun m => { m with flags := flags }.derived
        settle (p.await line (askTable (.flags n flags) p.requester s))
  | _, _ => p.refuse .badRequest s

/-- The severity field of a summary: 255 for none (12 R204). -/
def Summary.severityField (x : Summary) : Nat := (x.highest.map Severity.number).getD 255

/-- The kinds field of a summary: bit k set for kind k (12 R204). -/
def Summary.kindsField (x : Summary) : Nat := (x.kinds.map fun k => 2 ^ k).sum

/-- The data of a ReadSummary (12 R204); the machine numbers ascend (log entry 20). -/
def Summary.bytes (x : Summary) : List Byte :=
  byte2 x.machines.length ++ x.machines.flatMap byte2 ++ byte2 x.kindsField ++ byte1 x.severityField

/-- ReadSummary returns the summary and empties it (06 R122). -/
def readSummary (s : State) : State :=
  { answer (doneWith s.summary.bytes) s with summary := ⟨[], [], none⟩ }

/-! ## Meanings -/

/-- READ_SUMMARY (06 R122). -/
def execReadSummary (s : State) : Host.Outcome State Fault Refusal := .next (command readSummary s)

/-- SET_FLAG (06 R118). -/
def execSetFlag (machine flag : Nat) (s : State) : Host.Outcome State Fault Refusal :=
  .next (command (changeFlag .cabinet machine flag true) s)

/-- CLEAR_FLAG (06 R118). -/
def execClearFlag (machine flag : Nat) (s : State) : Host.Outcome State Fault Refusal :=
  .next (command (changeFlag .cabinet machine flag false) s)

/-- ACK_FAULT (06 R116). -/
def execAckFault (machine kind : Nat) (s : State) : Host.Outcome State Fault Refusal :=
  .next (command (ackFault .cabinet machine kind) s)

end Sys2Proof.Machine
end

