-- ==== Sys2Proof/Machine/Lines.lean ====
section
/-! DEFINITION. The machine lines and the Machine Directory (07): silence, downlinks, the order of a cycle, valid uplinks
and requests, joins and leaves, slot enable sets, registration. -/

namespace Sys2Proof.Machine

/-! ## Phases in which nothing is heard (07, section 7.3) -/

/-- Count a phase in which nothing was heard from a machine that holds its slot: the silence count rises, and the link
goes Silent or the slot is released at its limit (07 R135, R136). -/
def unheard (n : Nat) (s : State) : State :=
  match (s.machine? n).map MachineRecord.link with
  | some (.active f) =>
    let count := f.silence + 1
    if s.timers.silence ≤ count then
      raiseFault n .silent
        (s.onMachine n fun m => { m.discarded with link := .silent { f with silence := count } })
    else s.onMachine n fun m => { m with link := .active { f with silence := count } }
  | some (.silent f) =>
    let count := f.silence + 1
    if s.timers.release ≤ count then releaseSlot n s
    else s.onMachine n fun m => { m with link := .silent { f with silence := count } }
  | _ => s

/-- A phase of the present cycle passes (07 R125). What an uplink phase leaves for its downlink is put down after it. -/
def passPhase (line : LineId) (s : State) : State :=
  s.onLine line fun l => { l with phase := l.phase + 1, heard := .nothing }

/-- A slot's uplink phase in which nothing is heard from its holder (07 R128, R135). -/
def unheardPhase (line : LineId) (slot : Nat) (s : State) : State :=
  let s := passPhase line s
  match s.holder? line slot with
  | none => s
  | some m => unheard m.number s

/-! ## Downlinks (07 R131) -/

/-- The frame of the call window's downlink (07 R131, R141). -/
def callFrame : Heard → LineSent
  | .joined n slot => .call n slot none
  | .joinRefused n c => .call n 0 (some c)
  | _ => .nothing

/-- The answer part of a downlink (07 R131). -/
def MachineRecord.downlinkAnswer (m : MachineRecord) : Answer :=
  match m.request with
  | none => Code.idle.plain
  | some r => r.reply.getD Code.wait.plain

/-- The refusal note of a downlink (07 R131). -/
def Heard.noteFor (h : Heard) (slot : Nat) : Option (RequestKind × Code) :=
  match h with
  | .note noted kind code => if noted = slot then some (kind, code) else none
  | _ => none

/-- A machine after a downlink: a reply sent ends its request (07 R130). -/
def MachineRecord.answered (m : MachineRecord) : MachineRecord :=
  match m.request with
  | some r => if r.reply.isSome then { m with request := none } else m
  | none => m

/-- The downlink of a slot that holds a machine, or of one that a Leave has just released (07 R131, R139); nothing where
the machine that left has been deregistered since (log entry 54). -/
def slotDownlink (line : LineId) (slot : Nat) (s : State) : State :=
  let h := (s.line line).heard
  let leaver : Option MachineRecord :=
    match h with
    | .left gone n => if gone = slot then s.machine? n else none
    | _ => none
  match leaver, s.holder? line slot with
  | some m, _ => sendLine line (.slot m.service Code.left.plain none) s
  | none, some m =>
    match m.link with
    | .active _ =>
      sendLine line (.slot m.service m.downlinkAnswer (h.noteFor slot))
        (s.onMachine m.number MachineRecord.answered)
    | _ => sendLine line .nothing s
  | none, none => sendLine line .nothing s

/-- The downlink phase of a window (07 R131). -/
def downlink (line : LineId) (slot : Nat) (s : State) : State :=
  passPhase line (if slot = 0 then sendLine line (callFrame (s.line line).heard) s else slotDownlink line slot s)

/-! ## The order of a cycle (07 R125) -/

/-- The phase of a window's uplink; its downlink is the next. -/
def uplinkOf (slot : Nat) : Nat := 2 * slot

/-- The phase of a window's downlink. -/
def downlinkOf (slot : Nat) : Nat := 2 * slot + 1

/-- A cycle is being run and a phase of it is still to come (07 R125). -/
def LineState.ahead (l : LineState) (k : Nat) : Bool :=
  l.cycleOpen && decide (l.phase ≤ k) && decide (k < Config.cyclePhases)

/-- The next phase is run with nothing heard in it: an uplink phase without a frame, or a downlink phase. -/
def quietPhase (line : LineId) (s : State) : State :=
  let k := (s.line line).phase
  if k % 2 = 0 then unheardPhase line (k / 2) s else downlink line (k / 2) s

/-- So many phases are run with nothing heard in them. -/
def quietPhases (line : LineId) : Nat → State → State
  | 0, s => s
  | k + 1, s => quietPhases line k (quietPhase line s)

/-- The phases before one are run, with nothing heard in those that no row has run (07 R125; log entry 13). -/
def runTo (line : LineId) (k : Nat) (s : State) : State := quietPhases line (k - (s.line line).phase) s

/-- What happens in a phase: the phases before it are run, each once and in their order; a phase that is over, or in no
cycle, does not come again (07 R125). -/
def inPhase (line : LineId) (k : Nat) (body : State → State) (s : State) : State :=
  if (s.line line).ahead k then body (runTo line k s) else s

/-- The rest of a cycle is run, before the next begins (07 R125). -/
def endCycle (line : LineId) (s : State) : State :=
  if (s.line line).cycleOpen then runTo line Config.cyclePhases s else s

/-! ## Frames heard (07, sections 7.1 to 7.3) -/

/-- A machine heard in its slot: the silence count is 0, and a Silent link becomes Active with SILENT cleared (07 R135,
R137). -/
def hearMachine (n : Nat) (s : State) : State :=
  match (s.machine? n).map MachineRecord.link with
  | some (.active f) => s.onMachine n fun m => { m with link := .active { f with silence := 0 } }
  | some (.silent f) =>
    clearFault n .silent .heard (s.onMachine n fun m => { m with link := .active { f with silence := 0 } })
  | _ => s

/-- A frame heard in a slot's window: a valid uplink is passed on, and one that names another machine counts as nothing
heard (07 R128). No frame is heard while no cycle is run, nor in a window that is over. -/
def validUplink (line : LineId) (slot machine : Nat) (body : MachineRecord → State → State) (s : State) : State :=
  inPhase line (uplinkOf slot)
    (fun s =>
      match s.holder? line slot with
      | none => unheardPhase line slot s
      | some m =>
        if m.number = machine then
          let s := hearMachine machine (passPhase line s)
          match s.machine? machine with
          | none => s
          | some m => body m s
        else unheardPhase line slot s)
    s

/-- The request is one that waits for the end of Flushing (07 R132). -/
def RequestKind.waits : RequestKind → Bool
  | .quoteRequest => false
  | _ => true

/-- A request heard as a valid uplink: answered BUSY or WAIT in the refusal note, or opened as the machine's pending
request and passed to its block (07 R129, R130, R132). -/
def request (line : LineId) (slot machine : Nat) (kind : RequestKind)
    (body : MachineRecord → Nat → State → State) (s : State) : State :=
  validUplink line slot machine
    (fun m s =>
      if m.request.isSome then setHeard line (.note slot kind .busy) s
      else if s.power = .flushing ∧ kind.waits then setHeard line (.note slot kind .wait) s
      else
        let (id, s) := takeId s
        settle (body m id (s.onMachine machine fun m => { m with request := some ⟨kind, id, none, false⟩ })))
    s

/-! ## Joining and leaving (07, sections 7.3 and 7.4) -/

/-- A slot is enabled: slot 1 is the highest bit of the set (07 R144, 12 R204). -/
def LineState.slotEnabled (l : LineState) (slot : Nat) : Bool := l.enable.getLsbD (32 - slot)

/-- A machine may hold a slot of a line (07 R141). -/
def PermittedLine.permits : PermittedLine → LineId → Bool
  | .lineA, .a => true
  | .lineB, .b => true
  | .either, _ => true
  | _, _ => false

/-- The lowest-numbered slot of a line that is enabled and holds no machine (07 R141). -/
def State.freeSlot? (s : State) (line : LineId) : Option Nat :=
  ((List.range 32).map (· + 1)).find? fun slot =>
    (s.line line).slotEnabled slot && (s.holder? line slot).isNone

/-- The slot that a join on a line is granted: on a rejoin of the same line the slot released, else the lowest free one
(07 R141, R143). -/
def State.joinSlot? (s : State) (line : LineId) (before : Option LinkFields) : Option Nat :=
  match before with
  | some f => if f.line = line then some f.slot else s.freeSlot? line
  | none => s.freeSlot? line

/-- Grant a join (07 R142). Its notices stand in the order of the rule's list, those of a reconciliation in the order of log
entry 67. -/
def grantJoin (line : LineId) (slot : Nat) (m : MachineRecord) (f : JoinFrame) (s : State) : State :=
  let n := m.number
  let s := s.onMachine n fun m => { m with link := .active ⟨line, slot, 0⟩, request := none }
  let s := setHeard line (.joined n slot) s
  let s := clearFault n .silent .heard s
  let s := if m.reconcileDue then reconcile m f s else s
  settle (notify (machineJoinedNotice n line slot m.reconcileDue) s)

/-- A Join is decided: a slot that the machine holds is released first (07 R141, R143). -/
def decideJoin (line : LineId) (f : JoinFrame) (s : State) : State :=
  match s.machine? f.machine with
  | none => setHeard line (.joinRefused f.machine .unknownMachine) s
  | some m =>
    let s := if m.link = .absent then s else releaseSlot f.machine s
    if m.reg.permitted.permits line = false then setHeard line (.joinRefused f.machine .wrongLine) s
    else
      match s.joinSlot? line m.link.fields? with
      | none => setHeard line (.joinRefused f.machine .lineFull) s
      | some slot => grantJoin line slot m f s

/-- A Join heard in the call window (07 R141, R143). -/
def join (line : LineId) (f : JoinFrame) (s : State) : State :=
  inPhase line (uplinkOf 0) (fun s => decideJoin line f (passPhase line s)) s

/-- A Leave releases the slot, and the downlink of the window answers LEFT (07 R139). -/
def leave (line : LineId) (slot : Nat) (m : MachineRecord) (s : State) : State :=
  setHeard line (.left slot m.number) (releaseSlot m.number s)

/-! ## Slot enable sets (07, section 7.5) -/

/-- A machine whose slot a set disables is released (07 R144). -/
def MachineRecord.underEnable (m : MachineRecord) (line : LineId) (l : LineState) : MachineRecord :=
  match m.link.fields? with
  | some f =>
    if f.line = line ∧ l.slotEnabled f.slot = false then { m.discarded with link := .absent } else m
  | none => m

/-- SetSlotEnable (07 R144); the number of the line is log entry 17. -/
def setSlotEnable (lineField enables : Nat) (s : State) : State :=
  match lineOfNumber lineField with
  | none => refuse .badRequest s
  | some line =>
    let set := BitVec.ofNat 32 enables
    let s := s.onLine line fun l => { l with enable := set }
    let s := { s with machines := s.machines.map fun m => m.underEnable line (s.line line) }
    takenTable (.slotEnable line set) s

/-! ## The Machine Directory (07, section 7.6) -/

/-- A machine as its registration makes it (07 R146). -/
def freshMachine (n : Nat) (reg : Registration) : MachineRecord :=
  MachineRecord.derived
    { number := n
      reg := reg
      tokens := 0
      openQuote := none
      commit := none
      tally := emptyTally
      cards := emptyCards
      accepted := ⟨none, none⟩
      box := .unknown
      recorded := .nothing
      removal := .nothing
      reconcileDue := true
      heldDrop := none
      heldAsked := none
      faults := freshEntries
      flags := ⟨false, false, false⟩
      service := .inService
      link := .absent
      request := none }

/-- A machine placed in ascending order of machine number. -/
def insertMachine (m : MachineRecord) : List MachineRecord → List MachineRecord
  | [] => [m]
  | x :: rest => if m.number < x.number then m :: x :: rest else x :: insertMachine m rest

/-- The lowest free register position (07 R146). -/
def State.freePosition (s : State) : Nat :=
  ((List.range Config.directoryEntries).find? fun p => s.machines.all fun m => m.reg.position != p).getD 0

/-- A machine under a change of its registration (07 R147). -/
def MachineRecord.reregistered (m : MachineRecord) (reg : Registration) : MachineRecord :=
  let moved := reg.zone != m.reg.zone
  let m' := { m with reg := reg }.derived
  let m' :=
    if moved then
      { m' with openQuote := none, request := m'.request.map fun r => { r with zoneChanged := true } }
    else m'
  match m.link.fields? with
  | some f => if reg.permitted.permits f.line then m' else { m'.discarded with link := .absent }
  | none => m'

/-- RegisterMachine (07 R146, R147). A new machine's group is marked dirty, then the class-5 write is asked, and a trickle
checkpoint that the marking gives occasion for (08 R161) comes last: the spec gives no order, and this one is log entry
68. -/
def registerMachine (a : RegisterArgs) (s : State) : State :=
  match registrationOfArgs a ((s.machine? a.machine).elim s.freePosition fun m => m.reg.position) with
  | none => refuse .badRequest s
  | some reg =>
    match s.machine? a.machine with
    | some _ =>
      takenTable (.registration a.machine reg false) (s.onMachine a.machine fun m => m.reregistered reg)
    | none =>
      if Config.directoryEntries ≤ s.machines.length then refuse .directoryFull s
      else
        let s := { s with machines := insertMachine (freshMachine a.machine reg) s.machines }
        takenTable (.registration a.machine reg true) (markMachineDirty a.machine s)

/-- A machine may be deregistered (07 R148). -/
def State.mayDeregister (s : State) (m : MachineRecord) : Bool :=
  m.link == .absent && m.tally.cash == 0 && m.heldDrop.isNone && (s.openEntry? m.number).isNone

/-- DeregisterMachine (07 R148). The marking, the class-5 write and a trickle checkpoint come in the order of a registration
(log entry 68). -/
def deregisterMachine (n : Nat) (s : State) : State :=
  if machineNumber n = false then refuse .badRequest s
  else
    match s.machine? n with
    | none => refuse .notFound s
    | some m =>
      if s.mayDeregister m = false then refuse .inUse s
      else
        let s := { s with machines := s.machines.filter fun x => x.number != n }
        takenTable (.deregistration n) (markDirty m.group s)

/-! ## Meanings -/

/-- JOIN (07 R141 to R143). -/
def execJoin (line : LineId) (frame : JoinFrame) (s : State) : Host.Outcome State Fault Refusal :=
  .next (join line frame s)

/-- LEAVE (07 R139). -/
def execLeave (line : LineId) (slot machine : Nat) (s : State) : Host.Outcome State Fault Refusal :=
  .next (validUplink line slot machine (leave line slot) s)

/-- STATUS_FRAME (06 R114). -/
def execStatusFrame (line : LineId) (slot machine : Nat) (kinds : List Nat) (s : State) :
    Host.Outcome State Fault Refusal :=
  .next (validUplink line slot machine (fun m s => statusReport m.number kinds s) s)

/-- QUOTE_REQUEST (02 R25). -/
def execQuoteRequest (line : LineId) (slot : Nat) (frame : QuoteFrame) (s : State) :
    Host.Outcome State Fault Refusal :=
  .next (request line slot frame.machine .quoteRequest (quoteArrival frame) s)

/-- SALE_COMMIT (03 R45). -/
def execSaleCommit (line : LineId) (slot : Nat) (frame : SaleFrame) (s : State) :
    Host.Outcome State Fault Refusal :=
  .next (request line slot frame.machine .saleCommit (saleArrival frame) s)

/-- BOX_REMOVED (05 R88, R89). -/
def execBoxRemoved (line : LineId) (slot machine : Nat) (s : State) : Host.Outcome State Fault Refusal :=
  .next (request line slot machine .boxRemoved boxRemovedArrival s)

/-- BOX_INSERTED (05 R91, R92). -/
def execBoxInserted (line : LineId) (slot machine box : Nat) (s : State) : Host.Outcome State Fault Refusal :=
  .next (request line slot machine .boxInserted (boxInsertedArrival box) s)

/-- NOTHING_HEARD (07 R135): the end of an uplink phase in which nothing was heard. -/
def execNothingHeard (line : LineId) (slot : Nat) (s : State) : Host.Outcome State Fault Refusal :=
  .next (inPhase line (uplinkOf slot) (unheardPhase line slot) s)

/-- A phase with nothing heard brings an Active machine's count to the silence limit (07 R135). -/
def State.goesSilent (s : State) (line : LineId) (slot : Nat) : Bool :=
  match (s.holder? line slot).map MachineRecord.link with
  | some (.active f) => decide (s.timers.silence ≤ f.silence + 1)
  | _ => false

/-- A phase with nothing heard brings a Silent machine's count to the release limit (07 R136). -/
def State.goesAbsent (s : State) (line : LineId) (slot : Nat) : Bool :=
  match (s.holder? line slot).map MachineRecord.link with
  | some (.silent f) => decide (s.timers.release ≤ f.silence + 1)
  | _ => false

/-- SILENCE_LIMIT_REACHED (07 R135): the unheard phase at which the count reaches the limit; any other is not this
event (log entry 10). -/
def execSilenceLimitReached (line : LineId) (slot : Nat) (s : State) : Host.Outcome State Fault Refusal :=
  .next
    (if (s.line line).ahead (uplinkOf slot) && (runTo line (uplinkOf slot) s).goesSilent line slot then
      unheardPhase line slot (runTo line (uplinkOf slot) s)
    else s)

/-- RELEASE_LIMIT_REACHED (07 R136): the unheard phase at which the count reaches the limit; any other is not this
event (log entry 10). -/
def execReleaseLimitReached (line : LineId) (slot : Nat) (s : State) : Host.Outcome State Fault Refusal :=
  .next
    (if (s.line line).ahead (uplinkOf slot) && (runTo line (uplinkOf slot) s).goesAbsent line slot then
      unheardPhase line slot (runTo line (uplinkOf slot) s)
    else s)

/-- DOWNLINK_PHASE (07 R131). -/
def execDownlinkPhase (line : LineId) (slot : Nat) (s : State) : Host.Outcome State Fault Refusal :=
  .next (inPhase line (downlinkOf slot) (downlink line slot) s)

/-- SET_SLOT_ENABLE (07 R144). -/
def execSetSlotEnable (line enables : Nat) (s : State) : Host.Outcome State Fault Refusal :=
  .next (command (setSlotEnable line enables) s)

/-- REGISTER_MACHINE (07 R146, R147). -/
def execRegisterMachine (args : RegisterArgs) (s : State) : Host.Outcome State Fault Refusal :=
  .next (command (registerMachine args) s)

/-- DEREGISTER_MACHINE (07 R148). -/
def execDeregisterMachine (machine : Nat) (s : State) : Host.Outcome State Fault Refusal :=
  .next (command (deregisterMachine machine) s)

end Sys2Proof.Machine
end

