-- ==== Sys2Proof/Machine/Store.lean ====
section
/-! DEFINITION. The completions of class-5 table writes and of checkpoints, the checkpoint period and trickle checkpoints
(08). -/

namespace Sys2Proof.Machine

/-! ## Class-5 writes (08 R149, R159) -/

/-- The directory entry of a machine in the store. -/
def NvArray.entry? (v : NvArray) (n : Nat) : Option StoredEntry := v.directory.find? fun e => e.machine == n

/-- A directory entry placed in ascending order of machine number, replacing the machine's own. -/
def putEntry (e : StoredEntry) : List StoredEntry → List StoredEntry
  | [] => [e]
  | x :: rest =>
    if e.machine < x.machine then e :: x :: rest
    else if e.machine = x.machine then e :: rest
    else x :: putEntry e rest

/-- The entry that a registration writes: a new one has clear flags and its own stamp as registration stamp, a changed
one keeps its flags and its registration stamp (08 R159; 06 R117). -/
def NvArray.registeredEntry (v : NvArray) (n : Nat) (reg : Registration) (isNew : Bool) : StoredEntry :=
  match isNew, v.entry? n with
  | false, some e => { e with reg := reg, stamp := v.stamp }
  | _, _ => ⟨n, reg, ⟨false, false, false⟩, v.stamp, v.stamp⟩

/-- A value carried by SetTimers, or the one stored. -/
def newer (carried stored : Option Nat) : Option Nat := if carried.isSome then carried else stored

/-- The timers that a SetTimers records (10 R187). -/
def mergeTimers (carried stored : TimerArgs) : TimerArgs :=
  { lifetime := newer carried.lifetime stored.lifetime
    holdLimit := newer carried.holdLimit stored.holdLimit
    silence := newer carried.silence stored.silence
    release := newer carried.release stored.release
    period := newer carried.period stored.period
    threshold := newer carried.threshold stored.threshold
    timeout := newer carried.timeout stored.timeout }

/-- Put a zone's tariff in the current-tariffs region. -/
def putTariff (tariffs : List (Nat × Tariff)) (z : Nat × Tariff) : List (Nat × Tariff) :=
  z :: tariffs.filter fun x => x.1 != z.1

/-- The array after a table write that carries its present stamp (08 R149, R150). A deregistration takes the machine's box
record out (log entry 33); a registration leaves a box record that stands under its number (log entry 53). -/
def NvArray.written (v : NvArray) : TableWrite → NvArray
  | .specialDays dates => { v with specialDays := dates }
  | .pendingSet contents => { v with pendingSet := contents }
  | .activation tariffs => { v with tariffs := tariffs.foldl putTariff v.tariffs, pendingSet := none }
  | .guardWord word => { v with guardWord := some word }
  | .registration n reg isNew => { v with directory := putEntry (v.registeredEntry n reg isNew) v.directory }
  | .deregistration n =>
    { v with
      directory := v.directory.filter fun e => e.machine != n
      boxes := v.boxes.filter fun b => b.machine != n }
  | .flags n flags =>
    { v with
      directory := v.directory.map fun e => if e.machine = n then { e with flags := flags, stamp := v.stamp } else e }
  | .slotEnable .a set => { v with enableA := some set }
  | .slotEnable .b set => { v with enableB := some set }
  | .denominations values => { v with denominations := some values }
  | .timers values => { v with timers := mergeTimers values v.timers }

/-- The operation is a class-5 table write. -/
def StoreWork.isTable : StoreWork → Bool
  | .table _ => true
  | _ => false

/-- What a completed operation does when it is a table write: the store holds it, and its command's Result is DONE or
its withheld reply is sent (01 R11, 09 R172). -/
def tableEffect (h : Holder) (s : State) : State :=
  match h.op.work with
  | .table w => finish h.op.requester Code.done.plain ((stampWrite s).onArray fun v => v.written w)
  | _ => s

/-! ## Checkpoints (08, section 8.4) -/

/-- Put a group's new image: it becomes the group's checkpoint, and the one before it stays as the other image
(08 R150, R159). -/
def NvArray.withImage (v : NvArray) (g : Nat) (entries : List ImageEntry) : NvArray :=
  { v with images := v.images.set g ⟨some ⟨v.stamp, entries⟩, (v.images.get g).current⟩ }

/-- Ask a class-1 checkpoint of the next dirty group, and lower the urgent count (08 R162). -/
def askUrgent (s : State) : State :=
  match s.store.nextDirty with
  | some g => askCheckpoint g 1 (s.onStore fun c => { c with urgent := c.urgent - 1 })
  | none => s

/-- A checkpoint completes: the backlog falls, or is set to 0 with the urgent count when no group is dirty; while the
urgent count is above 0 another is asked (08 R161, R162). -/
def checkpointDone (g : Nat) (entries : List ImageEntry) (s : State) : State :=
  let s := (stampWrite s).onArray fun v => v.withImage g entries
  if s.store.anyDirty then
    let s := setBacklog (s.store.backlog - 1) s
    if 0 < s.store.urgent ∧ s.store.checkpointWaits = false then askUrgent s else s
  else setBacklog 0 (s.onStore fun c => { c with urgent := 0 })

/-- What a completed operation does when it is a checkpoint; its image was taken at its grant (08 R158). -/
def checkpointEffect (h : Holder) (s : State) : State :=
  match h.op.work, h.data with
  | .checkpoint g, .image entries => checkpointDone g entries s
  | _, _ => s

/-- A checkpoint made urgent: it takes class 1 (08 R162). -/
def StoreOp.urgent (o : StoreOp) : StoreOp := if o.work.isCheckpoint then { o with cls := 1 } else o

/-- Checkpoints waiting or in progress become urgent, and one in progress is no longer suspendable (08 R162). -/
def StoreControl.madeUrgent (c : StoreControl) : StoreControl :=
  { c with
    queue := c.queue.map StoreOp.urgent
    holder := c.holder.map fun h =>
      if h.op.work.isCheckpoint then { h with op := h.op.urgent, suspendable := false } else h }

/-- The backlog rises from 2 to 3: the urgent count is set to 3 and one checkpoint becomes urgent or is asked; one
made urgent while the array is Free is granted (08 R153, R162). -/
def beginUrgent (s : State) : State :=
  if s.store.checkpointWaits || s.store.checkpointHeld then
    let s := s.onStore fun c => { c.madeUrgent with urgent := 2 }
    if s.store.holder.isNone then freeArray s else s
  else askUrgent (s.onStore fun c => { c with urgent := 3 })

/-- An expiry of the checkpoint period (08 R160, R162). -/
def periodExpiry (s : State) : State :=
  let s := s.onStore fun c => { c with lastExpiry := s.clock.counter }
  if s.store.anyDirty || s.store.checkpointWaits || s.store.checkpointHeld then
    let old := s.store.backlog
    let s := setBacklog (min (old + 1) Config.maxBacklog) s
    if old = 2 then beginUrgent s else s
  else setBacklog 0 s

/-- The period in force has run since the last expiry (08 R160). -/
def State.periodOver (s : State) : Bool :=
  s.power.listens && decide (s.timers.period ≤ s.elapsed s.store.lastExpiry)

/-! ## Meanings -/

/-- WRITE_COMPLETION (01 R11 and the commands that write a table). -/
def execWriteCompletion (s : State) : Host.Outcome State Fault Refusal :=
  .next (onCompletion StoreWork.isTable tableEffect s)

/-- CHECKPOINT_COMPLETION (08 R161, R162). -/
def execCheckpointCompletion (s : State) : Host.Outcome State Fault Refusal :=
  .next (onCompletion StoreWork.isCheckpoint checkpointEffect s)

/-- CHECKPOINT_PERIOD_EXPIRY (08 R160): nothing happens while the period has not run (log entry 14). -/
def execCheckpointPeriodExpiry (s : State) : Host.Outcome State Fault Refusal :=
  .next (if s.periodOver then settle (periodExpiry s) else s)

/-- TRICKLE_CHECKPOINT_REQUEST (08 R161): nothing happens while its condition does not hold (log entry 10). -/
def execTrickleCheckpointRequest (s : State) : Host.Outcome State Fault Refusal := .next (askTrickle s)

end Sys2Proof.Machine
end

