-- ==== Sys2Proof/Machine/RoundPort.lean ====
section
/-! DEFINITION. The round port: characters, the accumulator, execution, and the readouts (09). -/

namespace Sys2Proof.Machine

/-! ## Authority and form (09 R167, R171) -/

/-- The key position allows a command (09 R167). -/
def Letter.allowedAt (l : Letter) (key : KeyPosition) : Bool :=
  match l with
  | .t => true
  | .f => true
  | .n => true
  | .o => key != .off
  | .s => key != .off
  | .c => key != .off
  | .a => key == .service
  | .p => key == .service
  | .u => key == .service

/-- How many arguments a command takes (09, section 9.4). -/
def Letter.arity : Letter → Nat
  | .t => 1
  | .f => 1
  | .n => 0
  | .o => 0
  | .s => 1
  | .c => 0
  | .a => 2
  | .p => 2
  | .u => 2

/-- The form check: every argument the command requires, none it does not take, and `!` after `C` alone (09 R171). -/
def Letter.formSound (l : Letter) (ended : Terminator) (first second : Option Nat) : Bool :=
  first.isSome == decide (1 ≤ l.arity) && second.isSome == decide (2 ≤ l.arity) &&
    (ended == .carriageReturn || l == .c)

/-! ## Readouts (09 R174 to R176) -/

/-- The two fields of a time (09, section 9.4). -/
def timeFields : Option Moment → List Nat
  | none => [0, 0]
  | some t => [t.date.key, t.minute]

/-- The lines of a tally readout (09 R174). -/
def tallyLines (m : MachineRecord) (s : State) : List (List Nat) :=
  let t := m.tally
  let coinLine := fun i => [i, s.cash.denominations.get i, t.counts.get i]
  let entry := s.cash.round.bind fun r => r.entry? m.number
  [ [m.number, m.box.number, m.box.idField, m.service.number],
    [t.cash, t.unitemised, t.sales, t.coins],
    [t.first.getD 0, t.last.getD 0] ] ++
  [0, 1, 2, 3, 4, 5, 6, 7].map coinLine ++
  [ [m.cards.amount, m.cards.sales],
    [m.accepted.serial.getD 0, m.accepted.token.getD 0],
    [if m.heldDrop.isSome then 1 else 0, (m.heldDrop.map Snapshot.cash).getD 0],
    [m.removal.number, m.removal.dropField],
    [(s.cash.round.map Round.number).getD 0, s.entryNumber m.number, (entry.bind RoundEntry.drop).getD 0] ]

/-- One line of a fault readout (09 R175). -/
def faultLine (k : FaultKind) (e : FaultEntry) : List Nat :=
  [k.number, if e.active then 1 else 0, e.count] ++ timeFields e.firstRaised ++ timeFields e.lastRaised ++
    timeFields e.lastCleared

/-- The lines of a fault readout (09 R175, 06 R124). -/
def faultLines (m : MachineRecord) : List (List Nat) :=
  let bit := fun (b : Bool) => if b then 1 else 0
  [m.number, m.service.number, bit m.flags.heldOut, bit m.flags.forceCardOnly, bit m.flags.noRound,
      m.faults.raisedKinds.length] ::
    m.faults.raisedKinds.map fun k => faultLine k (m.faults.get k)

/-- Take a readout of a machine and send its first line (09 R174, R175). -/
def takeReadout (lines : MachineRecord → State → List (List Nat)) (n : Nat) (s : State) : State :=
  if machineNumber n = false then FromPort.roundPort.refuse .badRequest s
  else
    match s.machine? n with
    | none => FromPort.roundPort.refuse .notFound s
    | some m =>
      let all := lines m s
      portReply [.line (all.headD [])] { s with roundPort := { s.roundPort with readout := some ⟨all, 2⟩ } }

/-- Send the next line of the readout held (09 R176). -/
def nextLine (s : State) : State :=
  match s.roundPort.readout with
  | none => FromPort.roundPort.refuse .empty s
  | some r =>
    match r.lines[r.cursor - 1]? with
    | none => FromPort.roundPort.refuse .empty s
    | some line =>
      portReply [.line line]
        { s with roundPort := { s.roundPort with readout := some { r with cursor := r.cursor + 1 } } }

/-! ## Execution (09 R171) -/

/-- Pass a command whose key and form are in order to its block (09 R174 to R181). -/
def passCommand (l : Letter) (ended : Terminator) (a b : Nat) (s : State) : State :=
  match l with
  | .t => takeReadout tallyLines a s
  | .f => takeReadout (fun m _ => faultLines m) a s
  | .n => nextLine s
  | .o => roundOpenPort s
  | .s => if machineNumber a then roundSkip .roundPort a s else FromPort.roundPort.refuse .badRequest s
  | .c => if ended = .exclamation then roundCloseForced .roundPort s else roundClose .roundPort s
  | .a => ackFault .roundPort a b s
  | .p => changeFlag .roundPort a b true s
  | .u => changeFlag .roundPort a b false s

/-- Execute a command: key, form, block; any command but `N` ends the readout held (09 R171, R176). -/
def execute (key : KeyPosition) (l : Letter) (ended : Terminator) (first second : Option Nat) (s : State) : State :=
  let s := if l = .n then s else { s with roundPort := { s.roundPort with readout := none } }
  if l.allowedAt key = false then portReply [.keyRefused] s
  else if l.formSound ended first second = false then FromPort.roundPort.refuse .badRequest s
  else passCommand l ended (first.getD 0) (second.getD 0) s

/-- The terminator of a command with this letter is taken in Entering; in any other state of the port there is no such
command to execute (log entry 10). -/
def portCommand (l : Letter) (key : KeyInput) (ended : Terminator) (s : State) : State :=
  match s.roundPort.state with
  | .entering typed first second _ =>
    if s.power.listens && typed == l then execute (readKey key) l ended first second s else s
  | _ => s

/-! ## Characters (09 R168 to R170) -/

/-- What a character is to the table of 09 R168. -/
inductive CharKind where
  | letter (l : Letter)
  | digit (d : Nat)
  | comma
  | space
  | terminator (t : Terminator)
  | escape
  | other
  deriving DecidableEq, Repr

/-- The command letter of a capital's code, as ASCII has it (log entry 64). -/
def letterOfCode (n : Nat) : Option Letter :=
  match n with
  | 84 => some .t
  | 70 => some .f
  | 78 => some .n
  | 79 => some .o
  | 83 => some .s
  | 67 => some .c
  | 65 => some .a
  | 80 => some .p
  | 85 => some .u
  | _ => none

/-- Capital and small letters are taken alike (09 R168); a small letter's code is its capital's plus 32 (log entry 64). -/
def capitalCode (n : Nat) : Nat := if 97 ≤ n ∧ n ≤ 122 then n - 32 else n

/-- The kind of a character by its code. 09 R168 names the characters and gives none of them a code; the model takes those of
ASCII (log entry 64). -/
def charKindOf (n : Nat) : CharKind :=
  if 48 ≤ n ∧ n ≤ 57 then .digit (n - 48)
  else if n = 44 then .comma
  else if n = 32 then .space
  else if n = 13 then .terminator .carriageReturn
  else if n = 33 then .terminator .exclamation
  else if n = 27 then .escape
  else
    match letterOfCode (capitalCode n) with
    | some l => .letter l
    | none => .other

/-- The kind of a received character; a framing error or a break is any other character (09 R168). -/
def PortChar.kind : PortChar → CharKind
  | .char c => charKindOf c.toNat
  | .broken => .other

/-- A digit added to an argument (09 R169). -/
def addDigit (old : Option Nat) (d : Nat) : Option Nat := some ((old.getD 0 * 10 + d) % Config.argumentModulus)

/-- The port's state replaced and something sent. -/
def portSend (st : PortState) (out : List PortSent) (s : State) : State :=
  { s with roundPort := { s.roundPort with state := st, sent := out } }

/-- The port's state replaced and nothing sent. -/
def portQuiet (st : PortState) (s : State) : State := { s with roundPort := { s.roundPort with state := st } }

/-- Enter Error: `E` is sent (09 R170). -/
def portError (s : State) : State := portSend .error [.errorChar] s

/-- A character in Ready (09 R168). -/
def charInReady (c : CharKind) (s : State) : State :=
  match c with
  | .letter l => portQuiet (.entering l none none false) s
  | .space => s
  | .terminator .carriageReturn => portSend .ready [.prompt] s
  | .escape => portSend .ready [.prompt] s
  | _ => portError s

/-- A character in Entering (09 R168, R169). -/
def charInEntering (key : KeyPosition) (l : Letter) (first second : Option Nat) (comma : Bool) (c : CharKind)
    (s : State) : State :=
  match c with
  | .digit d =>
    if comma then portQuiet (.entering l first (addDigit second d) comma) s
    else portQuiet (.entering l (addDigit first d) second comma) s
  | .comma => if comma then portError s else portQuiet (.entering l first second true) s
  | .space => s
  | .terminator t => execute key l t first second s
  | .escape => portSend .ready [.lineEnd, .prompt] s
  | _ => portError s

/-- A character received (09 R168, R170, R173); during Starting it is discarded (11 R195). -/
def portCharacter (key : KeyPosition) (c : CharKind) (s : State) : State :=
  if s.power.listens = false then s
  else
    match s.roundPort.state with
    | .ready => charInReady c s
    | .entering l first second comma => charInEntering key l first second comma c s
    | .error =>
      match c with
      | .terminator .carriageReturn => portSend .ready [.lineEnd, .prompt] s
      | .escape => portSend .ready [.lineEnd, .prompt] s
      | _ => s
    | .awaiting _ => s

/-! ## Meanings -/

/-- ROUND_PORT_CHARACTER (09 R168). -/
def execRoundPortCharacter (key : KeyInput) (char : PortChar) (s : State) : Host.Outcome State Fault Refusal :=
  .next (portCharacter (readKey key) (PortChar.kind char) s)

/-- TALLY_READOUT (09 R174). -/
def execTallyReadout (key : KeyInput) (ended : Terminator) (s : State) : Host.Outcome State Fault Refusal :=
  .next (portCommand .t key ended s)

/-- FAULT_READOUT (09 R175). -/
def execFaultReadout (key : KeyInput) (ended : Terminator) (s : State) : Host.Outcome State Fault Refusal :=
  .next (portCommand .f key ended s)

/-- NEXT_READOUT_LINE (09 R176). -/
def execNextReadoutLine (key : KeyInput) (ended : Terminator) (s : State) : Host.Outcome State Fault Refusal :=
  .next (portCommand .n key ended s)

/-- ROUND_PORT_OPEN (09 R177). -/
def execRoundPortOpen (key : KeyInput) (ended : Terminator) (s : State) : Host.Outcome State Fault Refusal :=
  .next (portCommand .o key ended s)

/-- ROUND_PORT_SKIP (09 R178). -/
def execRoundPortSkip (key : KeyInput) (ended : Terminator) (s : State) : Host.Outcome State Fault Refusal :=
  .next (portCommand .s key ended s)

/-- ROUND_PORT_CLOSE (09 R179). -/
def execRoundPortClose (key : KeyInput) (s : State) : Host.Outcome State Fault Refusal :=
  .next (portCommand .c key .carriageReturn s)

/-- ROUND_PORT_FORCED_CLOSE (09 R179). -/
def execRoundPortForcedClose (key : KeyInput) (s : State) : Host.Outcome State Fault Refusal :=
  .next (portCommand .c key .exclamation s)

/-- ROUND_PORT_ACK (09 R180). -/
def execRoundPortAck (key : KeyInput) (ended : Terminator) (s : State) : Host.Outcome State Fault Refusal :=
  .next (portCommand .a key ended s)

/-- ROUND_PORT_SET_FLAG (09 R181). -/
def execRoundPortSetFlag (key : KeyInput) (ended : Terminator) (s : State) : Host.Outcome State Fault Refusal :=
  .next (portCommand .p key ended s)

/-- ROUND_PORT_CLEAR_FLAG (09 R181). -/
def execRoundPortClearFlag (key : KeyInput) (ended : Terminator) (s : State) : Host.Outcome State Fault Refusal :=
  .next (portCommand .u key ended s)

end Sys2Proof.Machine
end

