-- ==== Sys2Proof/Machine/Cabinet.lean ====
section
/-! DEFINITION. The commands that the cabinet port owns: Status, Result, the notice commands, SetTimers, and the frames
it rejects (10). -/

namespace Sys2Proof.Machine

/-! ## Status and Result (10 R185, R186) -/

/-- The pending-set status field: None, Loading, Sealed (10 R186). -/
def pendingStatus : Option PendingSet → Nat
  | none => 0
  | some p => if p.isSealed then 2 else 1

/-- The result state field: None, Waiting, Final (10 R186). -/
def ResultBuffer.number : ResultBuffer → Nat
  | .nothing => 0
  | .waiting => 1
  | .final _ => 2

/-- The data of a Status (10 R186, 12 R204). The overflow flag is 1 when set and 0 when clear (log entry 62); the states and
the key switch are numbered in the order of their table (log entry 17). -/
def statusBytes (key : KeyPosition) (s : State) : List Byte :=
  byte1 s.permits.hold.number ++ byte1 (pendingStatus s.tariff.pendingSet) ++ byte1 s.store.backlog ++
    byte1 (if s.clock.time.isSome then 0 else 1) ++ byte1 s.clock.battery.ctorIdx ++ byte1 key.number ++
    flagByte s.notices.overflow ++ byte2 s.notices.unread ++ byte1 s.cabinet.result.number

/-- Status reports, and clears the overflow flag (10 R186, R193). -/
def status (key : KeyPosition) (s : State) : State :=
  let s := answer (doneWith (statusBytes key s)) s
  decideOutput { s with notices := { s.notices with overflow := false } }

/-- Result (10 R185). -/
def result (s : State) : State :=
  match s.cabinet.result with
  | .nothing => refuse .empty s
  | .waiting => refuse .pending s
  | .final a => answer a { s with cabinet := { s.cabinet with outstanding := false } }

/-! ## Notices (10 R191, R192) -/

/-- The data of a ReadNotices of so many bytes (10 R191). -/
def noticeData (a : NoticeArea) (count : Nat) : List Byte :=
  let n := min count a.unread
  byte2 a.firstUnread ++ byte2 n ++ readRing a.ring a.firstUnread n

/-- ReadNotices (10 R191). -/
def readNotices (count : Nat) (s : State) : State :=
  if count = 0 ∨ count % 2 = 1 ∨ 256 < count then refuse .badRequest s
  else answer (doneWith (noticeData s.notices count)) s

/-- The notice area with every unread notice freed (10 R192). -/
def NoticeArea.freeAll (a : NoticeArea) : NoticeArea := { a with index := [], unread := 0, firstUnread := a.writePos }

/-- The bytes that an index spans. -/
def spanOf (index : List NoticeRef) : Nat := (index.map NoticeRef.span).sum

/-- The notice area with every notice before a start freed (10 R192). -/
def NoticeArea.freeTo (a : NoticeArea) (start : Nat) : NoticeArea :=
  let kept := a.index.dropWhile fun n => n.start != start
  { a with index := kept, unread := a.unread - (spanOf a.index - spanOf kept), firstUnread := start }

/-- AdvanceNotices (10 R192). -/
def advanceNotices (position : Nat) (s : State) : State :=
  if position = s.notices.writePos then decideOutput (answerDone { s with notices := s.notices.freeAll })
  else if s.notices.index.any fun n => n.start == position then
    decideOutput (answerDone { s with notices := s.notices.freeTo position })
  else refuse .badPointer s

/-! ## SetTimers (10 R187) -/

/-- A carried value lies in its range. -/
def inRange (low high : Nat) : Option Nat → Bool
  | none => true
  | some n => decide (low ≤ n) && decide (n ≤ high)

/-- The values in force after a SetTimers (10 R187). -/
def Timers.set (t : Timers) (a : TimerArgs) : Timers :=
  { lifetime := a.lifetime.getD t.lifetime
    holdLimit := a.holdLimit.getD t.holdLimit
    silence := a.silence.getD t.silence
    release := a.release.getD t.release
    period := a.period.getD t.period
    threshold := a.threshold.getD t.threshold
    timeout := a.timeout.getD t.timeout }

/-- SetTimers carries some value (10 R187). -/
def carriesValue (a : TimerArgs) : Bool :=
  a.lifetime.isSome || a.holdLimit.isSome || a.silence.isSome || a.release.isSome || a.period.isSome ||
    a.threshold.isSome || a.timeout.isSome

/-- SetTimers is in order (10 R187, 07 R138). -/
def timersSound (t : Timers) (a : TimerArgs) : Bool :=
  carriesValue a && inRange 30 600 a.lifetime && inRange 1 60 a.holdLimit && inRange 2 30 a.silence &&
    inRange 10 255 a.release && inRange 5 255 a.period && inRange 16 4080 a.threshold &&
    (a.threshold.getD 0 % 2 == 0) && inRange 1 255 a.timeout && decide ((t.set a).silence ≤ (t.set a).release)

/-- Discard every open quote whose lifetime has run out (03 R56). -/
def expireQuotes (s : State) : State :=
  { s with
    machines := s.machines.map fun m =>
      match m.openQuote with
      | some q => if s.quoteExpired q then { m with openQuote := none } else m
      | none => m }

/-- What a SetTimers does at once to work already running (03 R56, 04 R80, 08 R160, 10 R194), in the order of log
entry 43. -/
def applyTimers (a : TimerArgs) (s : State) : State :=
  let s := if a.lifetime.isSome then expireQuotes s else s
  let s := if a.holdLimit.isSome then timeOutHold s else s
  let s := if a.period.isSome && s.periodOver then periodExpiry s else s
  decideOutput s

/-- SetTimers (10 R187). Its class-5 write is asked after what it does at once, and a trickle checkpoint that an expiry
made by it gives occasion for is asked after that write (log entry 43). -/
def setTimers (a : TimerArgs) (s : State) : State :=
  if timersSound s.timers a = false then refuse .badRequest s
  else takenTable (.timers a) (applyTimers a { s with timers := s.timers.set a })

/-! ## Meanings -/

/-- CABINET_FRAME_REJECTED (10 R183): a transaction of so many clock edges that shifted these bytes in and fails the
frame check; bytes that pass it make another command, and not this event (log entry 10). -/
def execCabinetFrameRejected (edges : Nat) (bytes : List Byte) (s : State) : Host.Outcome State Fault Refusal :=
  .next
    (match cabinetCommand .off edges bytes with
      | none => transaction (refuse .rejected) s
      | some _ => s)

/-- STATUS (10 R186). -/
def execStatus (key : KeyInput) (s : State) : Host.Outcome State Fault Refusal :=
  .next (transaction (status (readKey key)) s)

/-- RESULT (10 R185). -/
def execResult (s : State) : Host.Outcome State Fault Refusal := .next (transaction result s)

/-- READ_NOTICES (10 R191). -/
def execReadNotices (count : Nat) (s : State) : Host.Outcome State Fault Refusal :=
  .next (transaction (readNotices count) s)

/-- ADVANCE_NOTICES (10 R192). -/
def execAdvanceNotices (position : Nat) (s : State) : Host.Outcome State Fault Refusal :=
  .next (transaction (advanceNotices position) s)

/-- SET_TIMERS (10 R187). -/
def execSetTimers (args : TimerArgs) (s : State) : Host.Outcome State Fault Refusal :=
  .next (command (setTimers args) s)

/-- NOTICE_TIMEOUT (10 R194): the notice output is decided afresh. -/
def execNoticeTimeout (s : State) : Host.Outcome State Fault Refusal := .next (decideOutput s)

end Sys2Proof.Machine
end

