-- ==== Sys2Proof/Machine/Clock.lean ====
section
/-! DEFINITION. The District Clock: the second tick, the minute and midnight events, SetClock and OverrideToday (01,
sections 1.2 and 1.3); the Cycle frames that begin at the tick (07 R125, R126). -/

namespace Sys2Proof.Machine

/-- What one tick does to district time: the new time, none past the end of the range, and whether a minute boundary
and a midnight are passed (01 R4). -/
def ClockTime.tick (t : ClockTime) : Option ClockTime × Bool × Bool :=
  if t.second < 59 then (some { t with second := t.second + 1 }, false, false)
  else if t.minute < 1439 then (some ⟨t.date, t.minute + 1, 0⟩, true, false)
  else if t.date = lastDate then (none, false, false)
  else (some ⟨t.date.next, 0, 0⟩, true, true)

/-- The clock after a tick: a boundary passed is raised as an event to be taken; past the end of 2099 the clock is
Unset, the override is dropped and no event occurs (01 R4, R10). -/
def Clock.ticked (c : Clock) : Clock :=
  match c.time with
  | none => c
  | some t =>
    match t.tick with
    | (some t', minute, midnight) =>
      { c with time := some t', minuteDue := c.minuteDue || minute, midnightDue := c.midnightDue || midnight }
    | (none, _, _) =>
      { c with time := none, overrideClass := none, minuteDue := false, midnightDue := false }

/-- A line controller begins a cycle: it sends the Cycle frame with the time at the boundary and the cycle number
(07 R125, R126). -/
def LineState.beginCycle (l : LineState) (time : Option ClockTime) : LineState :=
  { l with
    nextCycle := (l.nextCycle + 1) % 256
    cycleOpen := true
    phase := 0
    heard := .nothing
    sent := .cycle time l.nextCycle }

/-- Cycles are run in Running, and in Flushing but for a return from Parked under the same warning (07 R125,
11 R197). -/
def State.linesRun (s : State) : Bool := s.power == .running || (s.power == .flushing && !s.linesStopped)

/-- Both lines begin a cycle at a second boundary, where cycles are run. -/
def beginCycles (s : State) : State :=
  if s.linesRun then
    { s with lineA := s.lineA.beginCycle s.clock.time, lineB := s.lineB.beginCycle s.clock.time }
  else s

/-- The boundary of a second: the counter rises and the clock advances (01 R4, R5). -/
def passSecond (s : State) : State := { s with clock := { s.clock.ticked with counter := s.clock.counter + 1 } }

/-- The tick of the monotonic seconds counter (01 R4, R5; 07 R125): the cycles begun run to their end before it, line A
first (log entry 13), and the next begin at it. Without main power the clock alone runs, from its battery, and raises no
event (log entry 3). -/
def secondTick (s : State) : State :=
  if s.power = .off then
    { s with clock := { s.clock.ticked with minuteDue := false, midnightDue := false } }
  else decideOutput (beginCycles (passSecond (endCycle .b (endCycle .a s))))

/-- SetClock (01 R6). -/
def setClock (date : DateArg) (minute second : Nat) (s : State) : State :=
  match dateOfArg date with
  | none => refuse .badRequest s
  | some d =>
    if 1439 < minute ∨ 59 < second then refuse .badRequest s
    else
      let old := s.clock.time
      let new : ClockTime := ⟨d, minute, second⟩
      let s := answerDone { s with clock := { s.clock with time := some new } }
      let s :=
        match old with
        | none => pruneDays s
        | some t => if t.date = d then s else takeMidnightEvent s
      settle (if old.map ClockTime.moment = some new.moment then s else takeMinuteEvent s)

/-- OverrideToday (01 R10; log entry 21 for a value that names no class). -/
def overrideToday (n : Nat) (s : State) : State :=
  if s.clock.time.isNone then refuse .clockUnset s
  else if n = 255 then answerDone { s with clock := { s.clock with overrideClass := none } }
  else
    match DayClass.ofNumber n with
    | some c => answerDone { s with clock := { s.clock with overrideClass := some c } }
    | none => refuse .badRequest s

/-- SECOND_TICK (01 R5). -/
def execSecondTick (s : State) : Host.Outcome State Fault Refusal := .next (secondTick s)

/-- MINUTE_EVENT (01 R16, R17): the event raised at a minute boundary is taken (log entry 4). -/
def execMinuteEvent (s : State) : Host.Outcome State Fault Refusal :=
  .next (if s.clock.minuteDue then settle (takeMinuteEvent s) else s)

/-- MIDNIGHT_EVENT (01 R9, R10): the event raised at a change of date is taken (log entry 4). -/
def execMidnightEvent (s : State) : Host.Outcome State Fault Refusal :=
  .next (if s.clock.midnightDue then settle (takeMidnightEvent s) else s)

/-- SET_CLOCK (01 R6). -/
def execSetClock (date : DateArg) (minute second : Nat) (s : State) : Host.Outcome State Fault Refusal :=
  .next (command (setClock date minute second) s)

/-- OVERRIDE_TODAY (01 R10). -/
def execOverrideToday (n : Nat) (s : State) : Host.Outcome State Fault Refusal :=
  .next (command (overrideToday n) s)

end Sys2Proof.Machine
end

