-- ==== Sys2Proof/Machine/Power.lean ====
section
/-! DEFINITION. The power states, the power-fail warning, OrderlyRestart and the starts (11). -/

namespace Sys2Proof.Machine

/-! ## Flushing (11 R196, R201; 08 R164, R165) -/

/-- The operation is a trickle checkpoint. -/
def StoreOp.isTrickle (o : StoreOp) : Bool := o.work.isCheckpoint && o.cls == 6

/-- An urgent checkpoint that waits when a flush begins is the flush's own checkpoint of its group (log entry 38). -/
def StoreOp.joinFlush (o : StoreOp) : StoreOp := if o.work.isCheckpoint then { o with requester := .flush } else o

/-- The hold-back begins and a flush is in progress: a holder is no longer suspendable, and a trickle checkpoint still
waiting is withdrawn (08 R164, R165). -/
def StoreControl.heldBack (c : StoreControl) : StoreControl :=
  { c with
    holdBack := true
    flush := true
    holder := c.holder.map fun h => { h with suspendable := false }
    queue := (c.queue.filter fun o => !o.isTrickle).map StoreOp.joinFlush }

/-- A dirty group is given its class-1 checkpoint, unless one of it is waiting (08 R164). -/
def flushGroup (s : State) (g : Nat) : State :=
  if s.store.dirty.get g && !s.store.groupWaits g then askFlushCheckpoint g s else s

/-- A class-1 checkpoint for every dirty group, in ascending order (08 R164). -/
def flushGroups (s : State) : State := [0, 1, 2, 3, 4, 5, 6, 7].foldl flushGroup s

/-- Enter Flushing: the hold-back, the flush, the held drop writes (11 R196); the checkpoints are asked first, then the
held drops (log entry 58). -/
def enterFlushing (s : State) : State :=
  let s := { s with power := .flushing, safe := false, linesStopped := false }
  let s := flushGroups (s.onStore StoreControl.heldBack)
  settle (askHeldDrops .flush s.machines.length s)

/-- The warning input is asserted (11 R196, R201). -/
def powerFailWarning (s : State) : State :=
  let s := { s with warning := true }
  if s.power = .running then enterFlushing s else s

/-- The hold-back ends and the PD64 runs on (11 R198, 08 R165). -/
def resumeRunning (s : State) : State :=
  let s := { s with power := .running, safe := false, linesStopped := false }
  let s := s.onStore fun c => { c with holdBack := false }
  settle (if s.store.holder.isNone then freeArray s else s)

/-- The warning input is released (11 R198, R201). Lines kept silent since an entry into Parked run again, even where a
restart keeps the PD64 Flushing (11 R197, 07 R125). -/
def warningWithdrawn (s : State) : State :=
  let s := { s with warning := false }
  match s.power with
  | .parked => if s.restartAsked then beginStart .orderlyRestart s else resumeRunning s
  | .flushing => if s.restartAsked then settle { s with linesStopped := false } else resumeRunning s
  | _ => s

/-- OrderlyRestart (11 R201); the result buffer is already None when it is refused BUSY here (log entry 49). -/
def orderlyRestart (s : State) : State :=
  if s.power ≠ .running then refuse .busy s
  else
    let s := setBacklog Config.maxBacklog (answerPending { s with restartAsked := true })
    enterFlushing s

/-! ## Starts (11 R199, R200) -/

/-- The battery state is sensed at power-on: Held where the clock kept a time (01 R4). -/
def Clock.sensed (c : Clock) (kept : Bool) : Clock :=
  if kept && c.time.isSome then { c with battery := .held } else { c with battery := .lost, time := none }

/-- The reset input is asserted on a PD64 with main power: every operation in progress is cut short and no port is
served (11 R199). The volatile state takes its start values, and the notice output is withdrawn with the notice area,
already here and not only at the release (log entry 51). -/
def holdReset (s : State) : State := { beginStart .resetInput s with power := .resetHeld }

/-- The supply rises (11 R199); with the reset input asserted no start begins before its release (log entry 3). -/
def powerOn (kept : Bool) (s : State) : State :=
  if s.power = .off then
    let s := { s with frozenLatch := false, clock := s.clock.sensed kept }
    if s.resetInput then holdReset s else beginStart .powerOn s
  else s

/-- The reset input is asserted (11 R199); without main power its level alone is noted. -/
def resetAsserted (s : State) : State :=
  let s := { s with resetInput := true }
  if s.power = .off then s else holdReset s

/-- The reset input is released (11 R199). -/
def resetReleased (s : State) : State :=
  let s := { s with resetInput := false }
  if s.power = .resetHeld then beginStart .resetInput s else s

/-- The supply fails: what is not in the store, the clock or the frozen latch is lost (08 R150). -/
def powerLoss (s : State) : State := { beginStart .powerOn s with power := .off }

/-- The tally, card totals and last accepted serial and token that a start restores for a machine (08 R159). -/
def restoredTotals (v : NvArray) (e : StoredEntry) : Tally × CardTotals × Accepted :=
  match (v.images.get (e.reg.position / 8)).current with
  | none => (emptyTally, emptyCards, ⟨none, none⟩)
  | some image =>
    match image.entries.find? fun x => x.machine == e.machine with
    | none => (emptyTally, emptyCards, ⟨none, none⟩)
    | some x =>
      if image.stamp ≤ e.registered then (emptyTally, emptyCards, ⟨none, none⟩)
      else if image.stamp < (v.boxRecord e.machine).snapshotStamp then (emptyTally, x.cards, x.accepted)
      else (x.tally, x.cards, x.accepted)

/-- The box state that a recorded box gives at a start (05 R86). -/
def RecordedBox.restored : RecordedBox → BoxState
  | .out => .out
  | _ => .unknown

/-- A machine as a start restores it (05 R86, 06 R109, R117, R120; 07 R134; 08 R159). -/
def restoredMachine (v : NvArray) (e : StoredEntry) : MachineRecord :=
  let (tally, cards, accepted) := restoredTotals v e
  let b := v.boxRecord e.machine
  MachineRecord.derived
    { freshMachine e.machine e.reg with
      tally := tally
      cards := cards
      accepted := accepted
      box := b.recorded.restored
      recorded := b.recorded
      removal := b.removal
      heldDrop := b.held
      flags := e.flags }

/-- A zone's entry at a start (01 R3). -/
def restoredZone (v : NvArray) (z : Nat) : ZoneEntry :=
  ⟨((v.tariffs.find? fun x => x.1 == z).map Prod.snd).getD factoryTariff, 0⟩

/-- How many records of the ring are unfetched (05 R94). -/
def NvArray.unfetched (v : NvArray) : Nat := (v.places.filter fun p => !p.fetched).length

/-- Every block loads its working copy (11 R200). -/
def loadAll (s : State) : State :=
  let v := s.nv
  { s with
    clock := { s.clock with minuteDue := false, midnightDue := false }
    tariff := ⟨(List.range 16).map (restoredZone v), v.specialDays, v.pendingSet, v.guardWord.getD factoryGuard⟩
    cash := ⟨v.denominations.getD (Octet.const 0), v.nextPlace, v.unfetched, v.dropCounter, none, v.round⟩
    machines := v.directory.map (restoredMachine v)
    lineA := { s.lineA with enable := v.enableA.getD (BitVec.allOnes 32) }
    lineB := { s.lineB with enable := v.enableB.getD (BitVec.allOnes 32) }
    timers := defaultTimers.set v.timers }

/-- How many machines have a held drop. -/
def State.heldCount (s : State) : Nat := (s.machines.filter fun m => m.heldDrop.isSome).length

/-- Start-up completes (11 R200): loads, RestartComplete, pruning and activation check, held drop writes, and Running
or Flushing. Classes 4 to 6 are not granted in Starting (R195), so the class-5 writes that step 3 asks wait until step 5,
behind the held drop writes of step 4 (log entry 52). -/
def startUpDone (cause : StartCause) (s : State) : State :=
  let s := (loadAll s).onStore fun c => { c with holdBack := true }
  let s :=
    notify
      (restartCompleteNotice cause s.clock.time.isSome s.clock.battery s.frozenLatch s.machines.length s.heldCount
        s.nv.unfetched)
      s
  let s := activationCheck (pruneDays s)
  let s := askHeldDrops .nobody s.machines.length s
  let s := { s with roundPort := { s.roundPort with sent := [.lineEnd, .prompt] } }
  if s.warning then enterFlushing s else resumeRunning s

/-- The last load of a start completes (11 R200). -/
def startUpCompletion (s : State) : State :=
  match s.power with
  | .starting cause => startUpDone cause s
  | _ => s

/-! ## Meanings -/

/-- ORDERLY_RESTART (11 R201). -/
def execOrderlyRestart (s : State) : Host.Outcome State Fault Refusal := .next (command orderlyRestart s)

/-- POWER_FAIL_WARNING (11 R196). -/
def execPowerFailWarning (s : State) : Host.Outcome State Fault Refusal := .next (powerFailWarning s)

/-- ENTER_PARKED (11 R197): nothing happens while its conditions do not hold (log entry 10). -/
def execEnterParked (s : State) : Host.Outcome State Fault Refusal :=
  .next (if s.parkReady then enterParkedNow s else s)

/-- WARNING_WITHDRAWN (11 R198). -/
def execWarningWithdrawn (s : State) : Host.Outcome State Fault Refusal := .next (warningWithdrawn s)

/-- ORDERLY_RESTART_START (11 R201): nothing happens while its conditions do not hold (log entry 10). -/
def execOrderlyRestartStart (s : State) : Host.Outcome State Fault Refusal :=
  .next (if s.restartReady then beginStart .orderlyRestart s else s)

/-- POWER_ON (11 R199). -/
def execPowerOn (batteryKept : Bool) (s : State) : Host.Outcome State Fault Refusal := .next (powerOn batteryKept s)

/-- RESET_ASSERTED (11 R199). -/
def execResetAsserted (s : State) : Host.Outcome State Fault Refusal := .next (resetAsserted s)

/-- RESET_RELEASED (11 R199). -/
def execResetReleased (s : State) : Host.Outcome State Fault Refusal := .next (resetReleased s)

/-- START_UP_COMPLETION (11 R200). -/
def execStartUpCompletion (s : State) : Host.Outcome State Fault Refusal := .next (startUpCompletion s)

/-- POWER_LOSS (08 R150): no supply from here until POWER_ON. -/
def execPowerLoss (s : State) : Host.Outcome State Fault Refusal := .next (powerLoss s)

end Sys2Proof.Machine
end

