-- ==== Sys2Proof/Machine/Dispatch.lean ====
section
/-! DEFINITION. The meaning of each command: one arm for each row of the opcode table. -/

namespace Sys2Proof.Machine

def exec (i : Instr) (s : State) : Host.Outcome State Fault Refusal :=
  match i with
  | .secondTick => Sys2Proof.Machine.execSecondTick s
  | .minuteEvent => Sys2Proof.Machine.execMinuteEvent s
  | .midnightEvent => Sys2Proof.Machine.execMidnightEvent s
  | .join line frame => Sys2Proof.Machine.execJoin line frame s
  | .leave line slot machine => Sys2Proof.Machine.execLeave line slot machine s
  | .statusFrame line slot machine kinds => Sys2Proof.Machine.execStatusFrame line slot machine kinds s
  | .quoteRequest line slot frame => Sys2Proof.Machine.execQuoteRequest line slot frame s
  | .lookupCompletion => Sys2Proof.Machine.execLookupCompletion s
  | .quoteExpiry machine => Sys2Proof.Machine.execQuoteExpiry machine s
  | .saleCommit line slot frame => Sys2Proof.Machine.execSaleCommit line slot frame s
  | .decrementCompletion => Sys2Proof.Machine.execDecrementCompletion s
  | .returnCompletion => Sys2Proof.Machine.execReturnCompletion s
  | .boxRemoved line slot machine => Sys2Proof.Machine.execBoxRemoved line slot machine s
  | .boxInserted line slot machine box => Sys2Proof.Machine.execBoxInserted line slot machine box s
  | .nothingHeard line slot => Sys2Proof.Machine.execNothingHeard line slot s
  | .silenceLimitReached line slot => Sys2Proof.Machine.execSilenceLimitReached line slot s
  | .releaseLimitReached line slot => Sys2Proof.Machine.execReleaseLimitReached line slot s
  | .downlinkPhase line slot => Sys2Proof.Machine.execDownlinkPhase line slot s
  | .boxWriteCompletion => Sys2Proof.Machine.execBoxWriteCompletion s
  | .heldDropWriteCompletion => Sys2Proof.Machine.execHeldDropWriteCompletion s
  | .roundWriteCompletion => Sys2Proof.Machine.execRoundWriteCompletion s
  | .fetchDropReadCompletion => Sys2Proof.Machine.execFetchDropReadCompletion s
  | .fetchDropMarkingCompletion => Sys2Proof.Machine.execFetchDropMarkingCompletion s
  | .permitWriteCompletion => Sys2Proof.Machine.execPermitWriteCompletion s
  | .permitReadCompletion => Sys2Proof.Machine.execPermitReadCompletion s
  | .writeCompletion => Sys2Proof.Machine.execWriteCompletion s
  | .checkpointPeriodExpiry => Sys2Proof.Machine.execCheckpointPeriodExpiry s
  | .trickleCheckpointRequest => Sys2Proof.Machine.execTrickleCheckpointRequest s
  | .checkpointCompletion => Sys2Proof.Machine.execCheckpointCompletion s
  | .holdGrant => Sys2Proof.Machine.execHoldGrant s
  | .holdTimeout => Sys2Proof.Machine.execHoldTimeout s
  | .noticeTimeout => Sys2Proof.Machine.execNoticeTimeout s
  | .cabinetFrameRejected edges bytes => Sys2Proof.Machine.execCabinetFrameRejected edges bytes s
  | .status key => Sys2Proof.Machine.execStatus key s
  | .result => Sys2Proof.Machine.execResult s
  | .readSummary => Sys2Proof.Machine.execReadSummary s
  | .fetchDrop => Sys2Proof.Machine.execFetchDrop s
  | .holdRequest => Sys2Proof.Machine.execHoldRequest s
  | .holdRelease => Sys2Proof.Machine.execHoldRelease s
  | .pendingSeal key => Sys2Proof.Machine.execPendingSeal key s
  | .pendingCancel key => Sys2Proof.Machine.execPendingCancel key s
  | .orderlyRestart => Sys2Proof.Machine.execOrderlyRestart s
  | .readNotices count => Sys2Proof.Machine.execReadNotices count s
  | .advanceNotices position => Sys2Proof.Machine.execAdvanceNotices position s
  | .setClock date minute second => Sys2Proof.Machine.execSetClock date minute second s
  | .overrideToday dayClass => Sys2Proof.Machine.execOverrideToday dayClass s
  | .specialDayAdd date => Sys2Proof.Machine.execSpecialDayAdd date s
  | .specialDayRemove date => Sys2Proof.Machine.execSpecialDayRemove date s
  | .pendingBegin key date minute => Sys2Proof.Machine.execPendingBegin key date minute s
  | .pendingZone key args => Sys2Proof.Machine.execPendingZone key args s
  | .setGuard key side span complement mode => Sys2Proof.Machine.execSetGuard key side span complement mode s
  | .permitInsert args => Sys2Proof.Machine.execPermitInsert args s
  | .permitUpdate args => Sys2Proof.Machine.execPermitUpdate args s
  | .permitDelete number => Sys2Proof.Machine.execPermitDelete number s
  | .permitRead number => Sys2Proof.Machine.execPermitRead number s
  | .registerMachine args => Sys2Proof.Machine.execRegisterMachine args s
  | .deregisterMachine machine => Sys2Proof.Machine.execDeregisterMachine machine s
  | .readMachine machine => Sys2Proof.Machine.execReadMachine machine s
  | .clearCardTotals machine => Sys2Proof.Machine.execClearCardTotals machine s
  | .roundSkip machine => Sys2Proof.Machine.execRoundSkip machine s
  | .setSlotEnable line enables => Sys2Proof.Machine.execSetSlotEnable line enables s
  | .setDenominations values => Sys2Proof.Machine.execSetDenominations values s
  | .setTimers args => Sys2Proof.Machine.execSetTimers args s
  | .setFlag machine flag => Sys2Proof.Machine.execSetFlag machine flag s
  | .clearFlag machine flag => Sys2Proof.Machine.execClearFlag machine flag s
  | .ackFault machine kind => Sys2Proof.Machine.execAckFault machine kind s
  | .roundOpen machines => Sys2Proof.Machine.execRoundOpen machines s
  | .roundClose argument => Sys2Proof.Machine.execRoundClose argument s
  | .roundCloseForced => Sys2Proof.Machine.execRoundCloseForced s
  | .roundPortCharacter key char => Sys2Proof.Machine.execRoundPortCharacter key char s
  | .tallyReadout key ended => Sys2Proof.Machine.execTallyReadout key ended s
  | .faultReadout key ended => Sys2Proof.Machine.execFaultReadout key ended s
  | .nextReadoutLine key ended => Sys2Proof.Machine.execNextReadoutLine key ended s
  | .roundPortOpen key ended => Sys2Proof.Machine.execRoundPortOpen key ended s
  | .roundPortSkip key ended => Sys2Proof.Machine.execRoundPortSkip key ended s
  | .roundPortClose key => Sys2Proof.Machine.execRoundPortClose key s
  | .roundPortForcedClose key => Sys2Proof.Machine.execRoundPortForcedClose key s
  | .roundPortAck key ended => Sys2Proof.Machine.execRoundPortAck key ended s
  | .roundPortSetFlag key ended => Sys2Proof.Machine.execRoundPortSetFlag key ended s
  | .roundPortClearFlag key ended => Sys2Proof.Machine.execRoundPortClearFlag key ended s
  | .powerFailWarning => Sys2Proof.Machine.execPowerFailWarning s
  | .enterParked => Sys2Proof.Machine.execEnterParked s
  | .warningWithdrawn => Sys2Proof.Machine.execWarningWithdrawn s
  | .orderlyRestartStart => Sys2Proof.Machine.execOrderlyRestartStart s
  | .powerOn batteryKept => Sys2Proof.Machine.execPowerOn batteryKept s
  | .resetAsserted => Sys2Proof.Machine.execResetAsserted s
  | .resetReleased => Sys2Proof.Machine.execResetReleased s
  | .startUpCompletion => Sys2Proof.Machine.execStartUpCompletion s
  | .powerLoss => Sys2Proof.Machine.execPowerLoss s

end Sys2Proof.Machine
end

