-- ==== Sys2Proof/Safety.lean ====
section
/-! DEFINITION. What a sound state of the PD64 is, in the manual's own laws, and the plain forms of state in which the
statements about single commands are made. -/

namespace Sys2Proof.Machine

/-! ## Laws the manual gives for every state -/

/-- The unread notices follow one another around the ring from an offset on, each of an even span of at least 4 bytes
(10 R189). -/
def chained : Nat → List NoticeRef → Bool
  | _, [] => true
  | at_, n :: rest =>
    n.start == at_ && n.span % 2 == 0 && decide (4 ≤ n.span) && chained (ringOffset (at_ + n.span)) rest

/-- The notice area as 10 R188 and R189 keep it: the ring in its canonical form, both positions even offsets, the
unread bytes those the index spans, from the first-unread position to the write position. -/
def NoticeArea.sound (a : NoticeArea) : Bool :=
  cellsWf a.ring && decide (a.unread ≤ Config.noticeAreaBytes) && a.unread == spanOf a.index &&
    decide (a.firstUnread < Config.noticeAreaBytes) && a.firstUnread % 2 == 0 && chained a.firstUnread a.index &&
    a.writePos == ringOffset (a.firstUnread + a.unread)

/-- The notice area of the state is sound. -/
def State.noticesSound (s : State) : Bool := s.notices.sound

/-- The notice output is asserted exactly while a condition of 10 R194 holds. -/
def State.outputSound (s : State) : Bool :=
  s.notices.output == noticeLevel s.notices s.timers s.clock.counter

/-- Every machine's service state is the one derived from its active faults, fitted kinds and service flags
(06 R119). -/
def State.servicesSound (s : State) : Bool :=
  s.machines.all fun m => m.service == deriveService m.reg.fitted m.faults m.flags

/-- The safe output is asserted in Parked alone (11 R195). -/
def State.safeSound (s : State) : Bool := s.safe == (s.power == .parked)

/-- The order of the arbiter (08 R153, R154): every waiting operation has a class of 1 to 6; while the array is Free
none of classes 1 to 3 waits, and none waits at all unless classes 4 to 6 are held back; a read is served only while
an operation is suspended. -/
def State.arbiterSound (s : State) : Bool :=
  !s.store.freeing && s.store.queue.all (fun o => decide (1 ≤ o.cls) && decide (o.cls ≤ 6)) &&
    match s.store.holder with
    | some _ => true
    | none =>
      s.store.serving.isNone && s.store.queue.all fun o => s.store.holdBack && decide (4 ≤ o.cls)

/-- The law of a live tally: its cash total is the value of its coins plus the unitemised cash (05 R83). -/
def Tally.lawful (t : Tally) (values : Octet Nat) : Bool := t.cash == coinValue t.counts values + t.unitemised

/-- Every live tally keeps its law under the denominations in force (05 R83). -/
def State.talliesSound (s : State) : Bool := s.machines.all fun m => m.tally.lawful s.cash.denominations

/-- Every tally that a start would restore from the store keeps its law under the denominations stored (05 R83,
08 R159). -/
def State.storedTalliesSound (s : State) : Bool :=
  s.nv.directory.all fun e => (restoredTotals s.nv e).1.lawful (s.nv.denominations.getD (Octet.const 0))

/-- The slots that the machines hold, the slot maps of both lines read together (07 R134). -/
def State.heldSlots (s : State) : List (LineId × Nat) :=
  s.machines.filterMap fun m => m.link.fields?.map fun f => (f.line, f.slot)

/-- The machines stand in ascending order with no number twice, in the working copy and in the store (07 R145), and each
slot held, of 1 to 32, is held by one machine (07 R134). -/
def State.machinesSound (s : State) : Bool :=
  decide ((s.machines.map MachineRecord.number).Pairwise (· < ·)) &&
    decide ((s.nv.directory.map StoredEntry.machine).Pairwise (· < ·)) && decide s.heldSlots.Nodup &&
    s.heldSlots.all fun x => decide (1 ≤ x.2) && decide (x.2 ≤ 32)

/-- The backlog and the urgent count stand from 0 to 3, the round-robin pointer from 0 to 7 (08 R160 to R162). -/
def State.countsSound (s : State) : Bool :=
  decide (s.store.backlog ≤ 3) && decide (s.store.urgent ≤ 3) && decide (s.store.pointer < 8)

/-- The band of a schedule at a minute of the day: the last that starts at or before it (01 R1). -/
def bandAt (bands : List Band) (minute : Nat) : Option BandKind :=
  (bands.filter fun b => decide (b.start ≤ minute)).getLast?.map Band.kind

/-- What the minute at a position of a walk costs by the hour, none in a NoParking band: positions to 1439 lie in the
schedule of the arrival date, later ones in that of the next date's calendar class (02 R30, R31). -/
def State.priceAt (s : State) (zone : Nat) (rate : RateClass) (date : Date) (p : Nat) : Option Nat :=
  let t := (s.zone zone).tariff
  let kind : Option BandKind :=
    if p < 1440 then bandAt (t.schedule (s.dayClass date)) p
    else bandAt (t.schedule (s.calendarClass date.next)) (p - 1440)
  kind.bind (BandKind.price t.params rate)

/-! ## Plain forms of state -/

/-- Running, with nothing to save and nothing held back: what follows a command at the same event is then nothing
(08 R161, R164; 11 R197). -/
def State.calm (s : State) : Bool :=
  s.power == .running && s.store.backlog == 0 && !s.store.flush && !s.store.holdBack && !s.store.freeing

/-- Running at a backlog of 3, with the checkpoint that this has made urgent waiting or in progress: the state in which a
hold is Interrupted (04 R78, 08 R162). -/
def State.backlogged (s : State) : Bool :=
  s.power == .running && s.store.backlog == 3 && (s.store.checkpointWaits || s.store.checkpointHeld) &&
    !s.store.flush && !s.store.holdBack && !s.store.freeing

/-- The cabinet port takes a command: no other is outstanding (10 R184). -/
def State.cabinetReady (s : State) : Bool := s.power.listens && !s.cabinet.outstanding

/-- A line stands before a phase of a cycle that is run (07 R125). -/
def State.stands (s : State) (line : LineId) (k : Nat) : Prop :=
  (s.line line).cycleOpen = true ∧ (s.line line).phase = k ∧ k < Config.cyclePhases

/-- The row is a frame heard in the window of a slot: its line, its slot and the machine it names (07 R128). -/
def heardIn : Instr → Option (LineId × Nat × Nat)
  | .leave line slot n => some (line, slot, n)
  | .statusFrame line slot n _ => some (line, slot, n)
  | .quoteRequest line slot f => some (line, slot, f.machine)
  | .saleCommit line slot f => some (line, slot, f.machine)
  | .boxRemoved line slot n => some (line, slot, n)
  | .boxInserted line slot n _ => some (line, slot, n)
  | _ => none

/-- The phase of a line's cycle in which a row stands: the uplink phase of its window, or the downlink phase
(07 R125). -/
def phaseOf : Instr → Option (LineId × Nat)
  | .join line _ => some (line, 0)
  | .nothingHeard line slot => some (line, 2 * slot)
  | .silenceLimitReached line slot => some (line, 2 * slot)
  | .releaseLimitReached line slot => some (line, 2 * slot)
  | .downlinkPhase line slot => some (line, 2 * slot + 1)
  | c => (heardIn c).map fun x => (x.1, 2 * x.2.1)

/-- A frame heard in a slot's window comes from machine m: the line stands before the window's uplink phase, and m holds
the slot and is Active. -/
def State.hears (s : State) (line : LineId) (slot : Nat) (m : MachineRecord) (f : LinkFields) : Prop :=
  s.stands line (uplinkOf slot) ∧ s.holder? line slot = some m ∧ s.machine? m.number = some m ∧ m.link = .active f

/-- The state once machine n has been heard: the uplink phase is over, nothing is left for the downlink of the window, and
the machine's silence count is 0 (07 R125, R128, R135). -/
def State.heardFrom (s : State) (line : LineId) (n : Nat) (f : LinkFields) : State :=
  passPhase line (s.onMachine n fun x => { x with link := .active { f with silence := 0 } })

/-- The state once a request has been heard from machine n and has become its pending request, with a reply where it is
ready at once (07 R129, R130). -/
def State.requested (s : State) (line : LineId) (n : Nat) (f : LinkFields) (kind : RequestKind)
    (reply : Option Answer) : State :=
  { s.heardFrom line n f with
    nextId := s.nextId + 1
    machines :=
      (s.onMachine n fun x =>
        { x with link := .active { f with silence := 0 }, request := some ⟨kind, s.nextId, reply, false⟩ }).machines }

/-- The store controller after a write is asked of it: granted where the array is Free, last in the queue otherwise, as
while a completion's own work is done (08 R153; log entry 9). -/
def StoreControl.taking (c : StoreControl) (op : StoreOp) : StoreControl :=
  match c.freeing, c.holder with
  | false, none => { c with holder := some ⟨op, 0, decide (4 ≤ op.cls), .nothing⟩ }
  | _, _ => { c with queue := c.queue ++ [op] }

/-- The store controller after a read is asked of it: granted where the array is Free, served at once where it may
suspend the holder, last in the queue otherwise (08 R153 to R155). -/
def StoreControl.reading (c : StoreControl) (op : StoreOp) : StoreControl :=
  match c.holder with
  | none => { c with holder := some ⟨op, 0, false, .nothing⟩ }
  | some h =>
    if h.suspendable && c.serving.isNone && decide (h.suspensions < 16) then
      { c with serving := some op, holder := some { h with suspensions := h.suspensions + 1 } }
    else { c with queue := c.queue ++ [op] }

/-- The store controller after a write is asked of it in any state but Parked: an operation of classes 4 to 6 waits while
they are held back, whether or not the array is Free (08 R153, R165). -/
def StoreControl.asking (c : StoreControl) (op : StoreOp) : StoreControl :=
  if c.holdBack = true ∧ 4 ≤ op.cls then { c with queue := c.queue ++ [op] } else c.taking op

/-- The array while a completion is taken: its operation has ended, and nothing is granted before the completion's own
work is done (08 R153). -/
def StoreControl.ending (c : StoreControl) : StoreControl := { c with holder := none, freeing := true }

/-- A place of the ring is taken: it holds an unfetched record, or the write of a drop to it has been asked and has not
completed (05 R94). -/
def State.taken (s : State) (place : Nat) : Prop :=
  (∃ x ∈ s.nv.places, x.place = place ∧ x.fetched = false) ∨ ∃ o ∈ s.store.asked, o.work.dropPlace? = some place

/-- The next drop takes a place: the first free one in circular order from the place of the next write on (05 R94; log
entry 28). -/
def State.takes (s : State) (place : Nat) : Prop :=
  s.cash.nextPlace < 256 ∧ place < 256 ∧ ¬s.taken place ∧
    ∀ p < 256, ¬s.taken p → (place + 256 - s.cash.nextPlace) % 256 ≤ (p + 256 - s.cash.nextPlace) % 256

/-- The state once the write of machine n's held drop has been asked in a class: the drop takes the next number and a
place; the entry of its own round, where that round is still held, takes the number, and a class-2 write of the round
record is asked as well (05 R96, R97; log entry 50). -/
def State.heldDropAsked (s : State) (n : Nat) (snap : Snapshot) (place cls : Nat) (r : Requester) : State :=
  let number := if 65535 ≤ s.cash.dropCounter then 1 else s.cash.dropCounter + 1
  let store := s.store.taking ⟨.heldWrite ⟨n, place, ⟨number, snap⟩⟩, cls, r⟩
  let round := s.cash.round.map fun x =>
    { x with entries := x.entries.map fun e => if e.machine = n then { e with drop := some number } else e }
  let numbered := s.cash.round.any fun x => decide (snap.round = some x.number)
  { s.onMachine n fun x => { x with heldAsked := some (place, number) } with
    cash := { s.cash with
      nextPlace := (place + 1) % 256
      placesTaken := s.cash.placesTaken + 1
      dropCounter := number
      round := if numbered then round else s.cash.round }
    store := if numbered then store.taking ⟨.roundWrite round, 2, .nobody⟩ else store }

/-- The state once the writes of the held drops not yet asked have been asked, lowest machine first and as far as free
places allow (05 R96). -/
def State.heldDropsAsked (s : State) (cls : Nat) (r : Requester) : State :=
  s.machines.foldl
    (fun t m =>
      match m.heldDrop, m.heldAsked with
      | some snap, none =>
        if t.cash.placesTaken < 256 then t.heldDropAsked m.number snap t.dropPlace cls r else t
      | _, _ => t)
    s

/-- The state once a flush has been asked (08 R164, R165; 11 R196): classes 4 to 6 are held back and a holder is no longer
suspendable; a trickle checkpoint waiting is withdrawn, an urgent one waiting is the flush's own (log entry 38); a class-1
checkpoint is asked for every other dirty group in ascending order, the first granted with its image where the array is
Free; then the held drop writes are asked in class 1. -/
def State.flushAsked (s : State) : State :=
  let kept := (s.store.queue.filter fun o => !(o.work.isCheckpoint && o.cls == 6)).map fun o =>
    if o.work.isCheckpoint then { o with requester := .flush } else o
  let groups := [0, 1, 2, 3, 4, 5, 6, 7].filter fun g =>
    s.store.dirty.get g && !kept.any fun o => o.work == .checkpoint g
  let c : StoreControl :=
    { s.store with
      holdBack := true
      flush := true
      holder := s.store.holder.map fun h => { h with suspendable := false }
      queue := kept ++ groups.map fun g => ⟨.checkpoint g, 1, .flush⟩ }
  let c : StoreControl :=
    match s.store.holder, groups with
    | none, g :: rest =>
      { c with
        holder :=
          some ⟨⟨.checkpoint g, 1, .flush⟩, 0, false,
            .image ((s.machines.filter fun m => m.reg.position / 8 == g).map fun m =>
              ⟨m.number, m.reg.position, m.tally, m.cards, m.accepted⟩)⟩
        dirty := c.dirty.set g false
        pointer := (g + 1) % 8
        queue := kept ++ rest.map fun g => ⟨.checkpoint g, 1, .flush⟩ }
    | _, _ => c
  ({ s with power := .flushing, safe := false, linesStopped := false, store := c } : State).heldDropsAsked 1 .flush

/-- No group is dirty, and nothing that a flush asked is waiting or in progress (08 R164). -/
def StoreControl.flushOver (c : StoreControl) : Prop :=
  (∀ g < 8, c.dirty.get g = false) ∧ (∀ o ∈ c.queue, o.requester ≠ .flush) ∧
    ∀ h, c.holder = some h → h.op.requester ≠ .flush

/-- An operation of class 1 or 2 waits, or a write holds the array (11 R197). -/
def StoreControl.writing (c : StoreControl) : Prop :=
  (∃ o ∈ c.queue, o.cls ≤ 2) ∨ ∃ h, c.holder = some h ∧ h.op.work.isRead = false

/-- What a row asks for is then all that follows at its event: the PD64 is Running, or Flushing with something still to be
saved, no completion is being taken, a flush in progress is not over, and no trickle checkpoint is due (08 R161, R164;
11 R197). A calm state is steady. -/
def State.steady (s : State) : Prop :=
  (s.power = .running ∨ s.power = .flushing ∧ (¬s.store.flushOver ∨ s.store.writing)) ∧ s.store.freeing = false ∧
    (s.store.flush = true → ¬s.store.flushOver) ∧
    (s.store.backlog = 0 ∨ (∀ g < 8, s.store.dirty.get g = false) ∨ s.store.checkpointWaits = true ∨
      s.store.checkpointHeld = true ∨ ∃ o ∈ s.store.queue, o.cls ≤ 5)

/-- The store controller once a group is marked dirty (08 R158): in Flushing and in a flush, where no checkpoint of the
group waits, a class-1 checkpoint of it is asked at that event, granted with its image where the array is Free (08 R164,
11 R197). -/
def State.groupMarked (s : State) (g : Nat) : StoreControl :=
  let c : StoreControl := { s.store with dirty := s.store.dirty.set g true }
  if (s.power = .flushing ∨ c.flush = true) ∧ c.groupWaits g = false then
    match c.holder with
    | none =>
      { c with
        dirty := c.dirty.set g false
        pointer := (g + 1) % 8
        holder :=
          some ⟨⟨.checkpoint g, 1, .flush⟩, 0, false,
            .image ((s.machines.filter fun m => m.reg.position / 8 == g).map fun m =>
              ⟨m.number, m.reg.position, m.tally, m.cards, m.accepted⟩)⟩ }
    | some _ => { c with queue := c.queue ++ [⟨.checkpoint g, 1, .flush⟩] }
  else c

/-- The state once Parked is entered: the safe output is asserted and a cycle begun is broken off (11 R197). -/
def State.parked (s : State) : State :=
  { s with
    power := .parked
    safe := true
    linesStopped := true
    lineA := { s.lineA with cycleOpen := false }
    lineB := { s.lineB with cycleOpen := false } }

/-- The state at the beginning of a start: everything volatile at its start value; the store, the district clock, the battery
state, the frozen latch, the inputs and the model's own fields stay (11 R199, 08 R166; log entry 15), and so does what each
port last sent (log entry 48). -/
def State.started (s : State) (cause : StartCause) : State :=
  { State.reset with
    pending := s.pending
    nextId := s.nextId
    freeCount := s.freeCount
    power := .starting cause
    warning := s.warning
    resetInput := s.resetInput
    frozenLatch := s.frozenLatch
    clock := ⟨s.clock.time, s.clock.battery, 0, none, false, false⟩
    lineA := { State.reset.lineA with sent := s.lineA.sent }
    lineB := { State.reset.lineB with sent := s.lineB.sent }
    nv := s.nv
    roundPort := { State.reset.roundPort with sent := s.roundPort.sent }
    cabinet := { State.reset.cabinet with shifted := s.cabinet.shifted } }

/-- What follows a completion's own work: a Requested hold may be granted, and the array frees (04 R76, 08 R153). -/
def State.arrayFreed (s : State) : State := freeArray (tryGrantHold s)

/-- An operation holds the array with no read served in its stead, in calm. -/
def State.completing (s : State) (h : Holder) : Prop :=
  s.calm = true ∧ s.store.serving = none ∧ s.store.holder = some h

/-- A read is being performed in calm: it holds the array, or it is served while a write is suspended. -/
def State.performing (s : State) (r : StoreOp) : Prop :=
  s.calm = true ∧
    (s.store.serving = some r ∨ s.store.serving = none ∧ ∃ h, s.store.holder = some h ∧ h.op = r)

/-- What a completion's own work leaves, done once its operation has ended: the array frees, or the operation that was
suspended, or the next read, goes on (08 R153, R154). -/
def State.whenDone (s : State) (body : State → State) : State :=
  match s.store.serving with
  | some _ => body (endServing s)
  | none => (body { s with store := s.store.ending }).arrayFreed

/-- The cabinet port after a command answered at once (10 R182, R184, R185). -/
def CabinetPort.answered (c : CabinetPort) (a : Answer) : CabinetPort :=
  { answer := some a, shifted := c.answer, outstanding := false, result := .nothing }

/-- The cabinet port after a command answered PENDING (10 R184, R185). -/
def CabinetPort.awaiting (c : CabinetPort) : CabinetPort :=
  { answer := some Code.pending.plain, shifted := c.answer, outstanding := true, result := .waiting }

/-- The length that a command code allows (12 R204), none where the code names no command or the count that its arguments
carry is not one they may: the lengths of codes 17, 20, 30 and 34 follow a count or a mask among the arguments. Bits of a
mask beyond its list select nothing (log entry 24), bit 0 marks the first value (log entry 59), and the mask of a
PermitUpdate stands behind its number (log entry 60). -/
def lengthOfCommand (code : Nat) (args : List Byte) : Option Nat :=
  let selected := fun (mask : Byte) (sizes : List (Nat × Nat)) =>
    (sizes.map fun (bit, n) => if mask.getLsbD bit then n else 0).sum
  if 1 ≤ code ∧ code ≤ 9 then some 0
  else if code = 13 ∨ code = 35 then some 1
  else if code = 10 ∨ code = 11 ∨ 24 ≤ code ∧ code ≤ 27 then some 2
  else if code = 14 ∨ code = 15 ∨ 31 ≤ code ∧ code ≤ 33 then some 3
  else if code = 18 ∨ code = 21 ∨ code = 22 then some 4
  else if code = 16 ∨ code = 28 then some 5
  else if code = 12 then some 6
  else if code = 23 then some 9
  else if code = 29 then some 16
  else if code = 19 then some 17
  else if code = 17 then
    match args[10]? with
    | some n => if n.toNat ≤ 15 then some (11 + 5 * n.toNat) else none
    | none => none
  else if code = 20 then args[4]?.map fun mask => 5 + selected mask [(0, 1), (1, 6), (2, 2), (3, 2)]
  else if code = 30 then
    args[0]?.map fun mask => 1 + selected mask [(0, 2), (1, 2), (2, 2), (3, 2), (4, 2), (5, 2), (6, 2)]
  else if code = 34 then args[0]?.map fun n => 1 + 2 * n.toNat
  else none

/-- A cabinet transaction of so many clock edges that shifted in these bytes is REJECTED (10 R183): it does not end on a
byte, it has fewer than two bytes or fewer than 2 + L, its code names no command, or L is not a length that the code
allows. -/
def frameRejected (edges : Nat) (bytes : List Byte) : Prop :=
  edges % 8 ≠ 0 ∨
    match bytes with
    | code :: length :: rest =>
      rest.length < length.toNat ∨
        lengthOfCommand code.toNat (rest.take length.toNat) ≠ some length.toNat
    | _ => True

/-- A frame of an uplink phase is one that is heard (07 R127, 12 R203): its CRC is that of the length byte and the contents,
its kind is one of the seven uplink kinds, and the length of its contents is one that the kind allows, a count n among them
being at most 15. -/
def frameSound (length : Byte) (contents : List Byte) (high low : Byte) : Prop :=
  byte2 (crc16 (length :: contents)).toNat = [high, low] ∧
    ∃ kind, contents[0]? = some kind ∧
      (kind = 1 ∧ contents.length = 13 ∨ kind = 2 ∧ contents.length = 3 ∨
        kind = 3 ∧ (∃ n : Byte, contents[3]? = some n ∧ n.toNat ≤ 15 ∧ contents.length = 4 + n.toNat) ∨
        kind = 4 ∧ contents.length = 11 ∨
        kind = 5 ∧ (∃ n : Byte, contents[14]? = some n ∧ n.toNat ≤ 15 ∧ contents.length = 15 + 2 * n.toNat) ∨
        kind = 6 ∧ contents.length = 3 ∨ kind = 7 ∧ contents.length = 5)

/-- A command stands typed at the round port, which is served: its terminator executes it (09 R168, 11 R195). -/
def State.typed (s : State) (l : Letter) (first second : Option Nat) : Prop :=
  s.power.listens = true ∧ ∃ comma, s.roundPort.state = .entering l first second comma

/-- The state after characters received at the round port one after another. -/
def typeAll (key : KeyInput) (chars : List Byte) (s : State) : State :=
  chars.foldl
    (fun s c =>
      match exec (.roundPortCharacter key (.char c)) s with
      | .next t => t
      | _ => s)
    s

/-- The command or event that a terminator makes of a command typed at the round port (09, section 9.4). -/
def Letter.row (l : Letter) (key : KeyInput) (ended : Terminator) : Instr :=
  match l, ended with
  | .t, _ => .tallyReadout key ended
  | .f, _ => .faultReadout key ended
  | .n, _ => .nextReadoutLine key ended
  | .o, _ => .roundPortOpen key ended
  | .s, _ => .roundPortSkip key ended
  | .c, .carriageReturn => .roundPortClose key
  | .c, .exclamation => .roundPortForcedClose key
  | .a, _ => .roundPortAck key ended
  | .p, _ => .roundPortSetFlag key ended
  | .u, _ => .roundPortClearFlag key ended

/-- A command taken at a port and waiting for its write: PENDING at the cabinet port, the reply line withheld at the round
port, where any readout has ended (10 R184; 09 R172, R176). -/
def State.withheldAt (p : FromPort) (line : List Nat) (s : State) : State :=
  match p with
  | .cabinet => { s with cabinet := s.cabinet.awaiting }
  | .roundPort => { s with roundPort := { s.roundPort with state := .awaiting line, readout := none } }

/-- A command done at once at a port: DONE at the cabinet port, the reply line and the prompt at the round port. -/
def State.repliedAt (p : FromPort) (line : List Nat) (s : State) : State :=
  match p with
  | .cabinet => { s with cabinet := s.cabinet.answered Code.done.plain }
  | .roundPort => { s with roundPort := ⟨.ready, none, [.line line, .prompt]⟩ }

/-- A command refused at a port: the code at the cabinet port, the refusal line and the prompt at the round port. -/
def State.refusedAt (p : FromPort) (c : Code) (s : State) : State :=
  match p with
  | .cabinet => { s with cabinet := s.cabinet.answered c.plain }
  | .roundPort => { s with roundPort := ⟨.ready, none, [.refusal c, .prompt]⟩ }

end Sys2Proof.Machine
end

