-- ==== Sys2Proof/WellFormed.lean ====
section
/-! DEFINITION. A command is well formed when every operand fits the field that carries it (12 R202 to R204). A
well-formed command may still be refused: that is for the block that owns it. -/

namespace Sys2Proof

/-- The number fits a field of so many bits. -/
def fits (bits n : Nat) : Bool := n < 2 ^ bits

/-- A date fits its three bytes. -/
def DateArg.wf (d : DateArg) : Bool := fits 8 d.yy && fits 8 d.mm && fits 8 d.dd

/-- A slot number of a window: 1 to 32 (07). -/
def slotWf (slot : Nat) : Bool := 1 ≤ slot && slot ≤ 32

/-- An option fits a field when it is present. -/
def fitsOption (bits : Nat) : Option Nat → Bool
  | none => true
  | some n => fits bits n

/-- The command's operands fit the fields that carry them. -/
def Instr.wf : Instr → Bool
  | .secondTick => true
  | .minuteEvent => true
  | .midnightEvent => true
  | .join _ f => fits 16 f.machine && fits 8 f.presence && fits 24 f.serial && fits 32 f.cash && fits 16 f.box
  | .leave _ slot m => slotWf slot && fits 16 m
  | .statusFrame _ slot m kinds => slotWf slot && fits 16 m && kinds.length ≤ 15 && kinds.all (fits 8)
  | .quoteRequest _ slot f =>
    slotWf slot && fits 16 f.machine && fits 8 f.rateClass && fits 8 f.payKind && fits 16 f.amount &&
      fits 32 f.permit
  | .lookupCompletion => true
  | .quoteExpiry m => fits 16 m
  | .saleCommit _ slot f =>
    slotWf slot && fits 16 f.machine && fits 8 f.token && fits 24 f.serial && fits 8 f.payKind &&
      fits 16 f.tendered && fits 32 f.authorisation && f.coins.length ≤ 15 &&
      f.coins.all fun c => fits 8 c.index && fits 8 c.count
  | .decrementCompletion => true
  | .returnCompletion => true
  | .boxRemoved _ slot m => slotWf slot && fits 16 m
  | .boxInserted _ slot m b => slotWf slot && fits 16 m && fits 16 b
  | .nothingHeard _ slot => slot ≤ 32
  | .silenceLimitReached _ slot => slotWf slot
  | .releaseLimitReached _ slot => slotWf slot
  | .downlinkPhase _ slot => slot ≤ 32
  | .boxWriteCompletion => true
  | .heldDropWriteCompletion => true
  | .roundWriteCompletion => true
  | .fetchDropReadCompletion => true
  | .fetchDropMarkingCompletion => true
  | .permitWriteCompletion => true
  | .permitReadCompletion => true
  | .writeCompletion => true
  | .checkpointPeriodExpiry => true
  | .trickleCheckpointRequest => true
  | .checkpointCompletion => true
  | .holdGrant => true
  | .holdTimeout => true
  | .noticeTimeout => true
  | .cabinetFrameRejected edges bytes => bytes.length == edges / 8
  | .status _ => true
  | .result => true
  | .readSummary => true
  | .fetchDrop => true
  | .holdRequest => true
  | .holdRelease => true
  | .pendingSeal _ => true
  | .pendingCancel _ => true
  | .orderlyRestart => true
  | .readNotices n => fits 16 n
  | .advanceNotices n => fits 16 n
  | .setClock d m s => d.wf && fits 16 m && fits 8 s
  | .overrideToday c => fits 8 c
  | .specialDayAdd d => d.wf
  | .specialDayRemove d => d.wf
  | .pendingBegin _ d m => d.wf && fits 16 m
  | .pendingZone _ a =>
    fits 8 a.zone && fits 16 a.minimum && fits 16 a.maxStay && fits 8 a.discount && fits 16 a.visitorRate &&
      fits 8 a.carryOver && fits 8 a.dayClass && a.bands.length ≤ 15 &&
      a.bands.all fun b => fits 16 b.start && fits 8 b.kind && fits 16 b.rate
  | .setGuard _ a b c d => fits 8 a && fits 8 b && fits 8 c && fits 8 d
  | .permitInsert a =>
    fits 32 a.number && fits 8 a.kind && fits 16 a.zones && a.validFrom.wf && a.validTo.wf && fits 8 a.state &&
      fits 8 a.balancePresence && fits 16 a.balance
  | .permitUpdate a =>
    fits 32 a.number && fitsOption 8 a.state && (a.dates.all fun d => d.1.wf && d.2.wf) &&
      fitsOption 16 a.zones && fitsOption 16 a.balance
  | .permitDelete n => fits 32 n
  | .permitRead n => fits 32 n
  | .registerMachine a =>
    fits 16 a.machine && fits 8 a.zone && fits 8 a.permitted && fits 16 a.capacity && fits 16 a.margin &&
      fits 8 a.fitted
  | .deregisterMachine n => fits 16 n
  | .readMachine n => fits 16 n
  | .clearCardTotals n => fits 16 n
  | .roundSkip n => fits 16 n
  | .setSlotEnable l e => fits 8 l && fits 32 e
  | .setDenominations v => v.toList.all (fits 16)
  | .setTimers a =>
    [a.lifetime, a.holdLimit, a.silence, a.release, a.period, a.threshold, a.timeout].all (fitsOption 16)
  | .setFlag n f => fits 16 n && fits 8 f
  | .clearFlag n f => fits 16 n && fits 8 f
  | .ackFault n k => fits 16 n && fits 8 k
  | .roundOpen ms => ms.length ≤ 127 && ms.all (fits 16)
  | .roundClose a => fits 8 a && a != 1
  | .roundCloseForced => true
  | .roundPortCharacter _ _ => true
  | .tallyReadout _ _ => true
  | .faultReadout _ _ => true
  | .nextReadoutLine _ _ => true
  | .roundPortOpen _ _ => true
  | .roundPortSkip _ _ => true
  | .roundPortClose _ => true
  | .roundPortForcedClose _ => true
  | .roundPortAck _ _ => true
  | .roundPortSetFlag _ _ => true
  | .roundPortClearFlag _ _ => true
  | .powerFailWarning => true
  | .enterParked => true
  | .warningWithdrawn => true
  | .orderlyRestartStart => true
  | .powerOn _ => true
  | .resetAsserted => true
  | .resetReleased => true
  | .startUpCompletion => true
  | .powerLoss => true

end Sys2Proof
end

