-- ==== Sys2Proof/Certificates/Slice0/Obligations.lean ====
section
/-! DEFINITION. The statements for the provers. A statement cites the rule it formalises; one that rests on a choice of the
model says so and names the log entry. -/

open Sys2Proof Sys2Proof.Machine

/-! ## The whole machine -/

/-- A step takes the command at the front of the queue and runs it with the queue's rest; with no command waiting the
block idles, which is the model's choice (log entry 15). -/
def Obligations.StepRunsTheFrontCommand : Prop :=
  (∀ (c : Instr) (s : State), step { s with pending := c :: s.pending } = exec c s) ∧
    ∀ s : State, s.pending = [] → step s = .next s

/-- Every command answers a next state, and leaves the queue of waiting commands as it was. -/
def Obligations.EveryCommandAnswersAndLeavesTheQueue : Prop :=
  ∀ (c : Instr) (s : State), ∃ t, exec c s = .next t ∧ t.pending = s.pending

/-- What every start leaves, as reset has it: 01 R3, R5, R10; 04 R81; 07 R134; 08 R166; 10 R182, R185, R188; 11 R199.
The store never written and the clock that kept no time are the model's reading of reset (log entry 1). -/
def Obligations.ResetHoldsTheStartValues : Prop :=
  State.reset.power = .starting .powerOn ∧ State.reset.safe = false ∧ State.reset.frozenLatch = false ∧
    State.reset.clock.time = none ∧ State.reset.clock.battery = .lost ∧ State.reset.clock.counter = 0 ∧
    State.reset.clock.overrideClass = none ∧
    (∀ z < 16, (State.reset.zone z).tariff = factoryTariff ∧ (State.reset.zone z).generation = 0) ∧
    State.reset.tariff.pendingSet = none ∧ State.reset.permits = ⟨.free, none, []⟩ ∧
    State.reset.machines = [] ∧ State.reset.summary = ⟨[], [], none⟩ ∧
    State.reset.store.holder = none ∧ State.reset.store.serving = none ∧ State.reset.store.queue = [] ∧
    State.reset.store.holdBack = false ∧ State.reset.store.backlog = 0 ∧ State.reset.store.urgent = 0 ∧
    State.reset.store.anyDirty = false ∧ State.reset.store.pointer = 0 ∧
    State.reset.cash.round = none ∧ State.reset.cash.dropCounter = 0 ∧ State.reset.cash.denominations = Octet.const 0 ∧
    State.reset.timers = ⟨120, 20, 5, 60, 15, 512, 10⟩ ∧
    (∀ slot, 1 ≤ slot → slot ≤ 32 →
      State.reset.lineA.slotEnabled slot = true ∧ State.reset.lineB.slotEnabled slot = true) ∧
    State.reset.roundPort.state = .ready ∧ State.reset.roundPort.readout = none ∧
    State.reset.cabinet.answer = none ∧ State.reset.cabinet.outstanding = false ∧
    State.reset.cabinet.result = .nothing ∧
    State.reset.notices.writePos = 0 ∧ State.reset.notices.firstUnread = 0 ∧ State.reset.notices.unread = 0 ∧
    State.reset.notices.index = [] ∧ State.reset.notices.overflow = false ∧ State.reset.notices.output = false

/-- While a command is outstanding, every cabinet command but Status, Result, ReadNotices and AdvanceNotices (codes 1,
2, 10 and 11) is answered BUSY and changes nothing but the answer (10 R184). -/
def Obligations.OutstandingCommandMakesOthersBusy : Prop :=
  ∀ (c : Instr) (code : Nat) (args : List Byte) (s : State),
    cabinetArgs c = some (code, args) → code ≠ 1 → code ≠ 2 → code ≠ 10 → code ≠ 11 →
      s.power.listens = true → s.cabinet.outstanding = true →
        exec c s =
          .next { s with
            cabinet := { s.cabinet with answer := some Code.busy.plain, shifted := s.cabinet.answer } }

/-- During Starting a cabinet transaction is disregarded, the answer buffer stays and fill bytes are shifted out; a
character at the round port is discarded (11 R195). -/
def Obligations.StartingDisregardsThePorts : Prop :=
  ∀ (s : State), s.power.listens = false →
    (∀ (c : Instr) (code : Nat) (args : List Byte), cabinetArgs c = some (code, args) →
      exec c s = .next { s with cabinet := { s.cabinet with shifted := none } }) ∧
    ∀ (key : KeyInput) (ch : PortChar), exec (.roundPortCharacter key ch) s = .next s

/-! ## Invariants -/

/-- The notice area stays as 10 R188 and R189 keep it, whatever the step: the ring canonical, both positions even
offsets, the unread bytes those that the index spans from the first-unread position to the write position. -/
def Obligations.NoticeAreaStaysSound : Prop :=
  ∀ s t : State, s.noticesSound = true → step s = .next t → t.noticesSound = true

/-- The notice output stays at its level, and that level is the one 10 R194 gives: asserted while the unread bytes are
at or above the threshold, while the oldest notice has waited for the time-out, or while the overflow flag is set. -/
def Obligations.NoticeOutputStaysAtItsLevel : Prop :=
  (∀ s t : State, s.outputSound = true → step s = .next t → t.outputSound = true) ∧
    ∀ (a : NoticeArea) (t : Timers) (counter : Seconds), a.sound = true →
      (noticeLevel a t counter = true ↔
        t.threshold ≤ a.unread ∨ (∃ n rest, a.index = n :: rest ∧ t.timeout ≤ (counter - n.written).toNat) ∨
          a.overflow = true)

/-- Every machine's service state stays the one derived from its active faults, fitted kinds and service flags, by the
table of 06 R119; and every live tally keeps the law of 05 R83, its cash the value of its coins plus the unitemised
cash, where a start finds tallies in the store that keep it. -/
def Obligations.ServiceStatesStayDerived : Prop :=
  (∀ s t : State, s.servicesSound = true → step s = .next t → t.servicesSound = true) ∧
    (∀ (fitted : Fitted) (faults : FaultEntries) (flags : ServiceFlags) (noCash noCard out : Bool),
      (noCash = true ↔ fitted = .card ∨ flags.forceCardOnly = true ∨
        ∃ k ∈ [FaultKind.paperOut, .ticketJam, .doorOpen, .silent, .coinJam, .boxOut, .boxFull, .boxConflict, .dropHeld],
          faults.active k = true) →
      (noCard = true ↔ fitted = .cash ∨
        ∃ k ∈ [FaultKind.paperOut, .ticketJam, .doorOpen, .silent, .cardReader], faults.active k = true) →
      (out = true ↔ flags.heldOut = true ∨ (noCash = true ∧ noCard = true) ∨
        ∃ k ∈ [FaultKind.paperOut, .ticketJam, .doorOpen, .silent], faults.active k = true) →
        deriveService fitted faults flags =
          if out then .outOfService else if noCash then .cardOnly else if noCard then .cashOnly else .inService) ∧
    ∀ s t : State, s.talliesSound = true → (∀ cause, s.power = .starting cause → s.storedTalliesSound = true) →
      step s = .next t → t.talliesSound = true

/-- The safe output stays asserted in Parked alone (11 R195); and the machines stay in ascending order with no number
twice, in the working copy and in the store (07 R145), each slot held by one machine (07 R134). -/
def Obligations.SafeOutputFollowsParked : Prop :=
  (∀ s t : State, s.safeSound = true → step s = .next t → t.safeSound = true) ∧
    ∀ s t : State, s.machinesSound = true → step s = .next t → t.machinesSound = true

/-- The arbiter's order stays (08 R153, R154): waiting operations have classes 1 to 6; while the array is Free no read
is being served and nothing waits but what is held back. The backlog and the urgent count stay from 0 to 3, the
round-robin pointer from 0 to 7 (08 R160 to R162). -/
def Obligations.ArbiterOrderStays : Prop :=
  (∀ s t : State, s.arbiterSound = true → step s = .next t → t.arbiterSound = true) ∧
    ∀ s t : State, s.countsSound = true → step s = .next t → t.countsSound = true

/-- Reset meets the invariants, each of which is a statement of its own over every step. -/
def Obligations.ResetMeetsTheInvariants : Prop :=
  State.reset.noticesSound = true ∧ State.reset.outputSound = true ∧ State.reset.servicesSound = true ∧
    State.reset.safeSound = true ∧ State.reset.arbiterSound = true ∧ State.reset.talliesSound = true ∧
    State.reset.storedTalliesSound = true ∧ State.reset.machinesSound = true ∧ State.reset.countsSound = true

/-! ## Frames -/

/-- The frame that carries a well-formed cabinet command is decoded to that command, whatever bytes follow it in the
transaction (10 R183, 12 R204). A command that reads the key switch is decoded with the position read. The frames and
their decoding take bit 0 of a mask for the first value (log entry 59), and the mask of a PermitUpdate behind its number
(log entry 60). No other bytes are decoded: a transaction names no command exactly where its frame is to be REJECTED, which
is where its clock edges are no whole bytes, it has fewer than two bytes, its code names no command, L is not the length of
the table, of the mask or of the count carried, or fewer than L bytes follow (bits beyond a mask's list: log entry 24). -/
def Obligations.CabinetFramesDecodeToTheirCommands : Prop :=
  (∀ (key : KeyInput) (c : Instr) (frame after : List Byte), c.wf = true → cabinetFrame c = some frame →
    cabinetCommand key (8 * (frame ++ after).length) (frame ++ after) = some (c.atKey key)) ∧
  ∀ (key : KeyInput) (edges : Nat) (bytes : List Byte),
    cabinetCommand key edges bytes = none ↔ frameRejected edges bytes

/-- The bytes of an uplink phase that carry a well-formed uplink's frame, after bytes that are no sync byte and before
any others, are heard as that uplink in its window (07 R127 to R129, 12 R203). Nothing is heard in a phase with no sync
byte, or whose frame is cut short; a frame whose CRC is wrong, whose kind is none of the seven, whose length its kind does
not allow or whose count is above 15 is not heard, and the bytes after it decide the phase (log entry 66). Where nothing is
heard, where the call window hears any kind but Join, and where a slot's window hears a Join, the phase is one in which
nothing is heard. The CRC is the one of 12 R203, bit by bit. -/
def Obligations.UplinkFramesAreHeardAsTheirCommands : Prop :=
  (∀ (line : LineId) (window : Nat) (c : Instr) (before after : List Byte), c.wf = true →
    c.uplinkAt = some (line, window) → (∀ b ∈ before, b ≠ 0xC3#8) →
      uplinkCommand line window (before ++ lineFrame (uplinkContents c) ++ after) = c) ∧
  (∀ before : List Byte, (∀ b ∈ before, b ≠ 0xC3#8) →
    hear before = none ∧ hear (before ++ [0xC3#8]) = none ∧
    (∀ (length : Byte) (rest : List Byte), rest.length < length.toNat + 2 →
      hear (before ++ 0xC3#8 :: length :: rest) = none) ∧
    ∀ (length high low : Byte) (contents after : List Byte), contents.length = length.toNat →
      (frameSound length contents high low →
        hear (before ++ 0xC3#8 :: length :: (contents ++ high :: low :: after)) = some contents) ∧
      (¬frameSound length contents high low →
        hear (before ++ 0xC3#8 :: length :: (contents ++ high :: low :: after)) = hear after)) ∧
  (∀ (line : LineId) (window : Nat) (bytes : List Byte),
    (hear bytes = none → uplinkCommand line window bytes = .nothingHeard line window) ∧
    ∀ contents, hear bytes = some contents →
      (window = 0 ∧ contents[0]? ≠ some 1#8 ∨ window ≠ 0 ∧ contents[0]? = some 1#8) →
        uplinkCommand line window bytes = .nothingHeard line window) ∧
  (∀ contents : List Byte,
    lineFrame contents =
      0xC3#8 :: BitVec.ofNat 8 contents.length ::
        (contents ++ byte2 (crc16 (BitVec.ofNat 8 contents.length :: contents)).toNat)) ∧
  crc16 [] = 0xFFFF#16 ∧
  ∀ (bytes : List Byte) (b : Byte),
    crc16 (bytes ++ [b]) =
      [7, 6, 5, 4, 3, 2, 1, 0].foldl
        (fun (c : BitVec 16) i => (c <<< 1) ^^^ (if c.getLsbD 15 = b.getLsbD i then 0#16 else 0x1021#16)) (crc16 bytes)

/-! ## The clock -/

/-- A second boundary (01 R4, R5; 07 R125, R126; 10 R194). With the supply present and no window of a cycle left to run,
the counter rises by one and wraps; while the clock is Set the second advances, a minute passed raises the minute event,
a day passed both events, and the end of 2099 leaves the clock Unset; each line that runs cycles sends its Cycle frame
and stands before the call window; nothing else changes but the level of the notice output. The events raised are held
as due flags (log entry 4). While the supply is off the clock alone runs, from its battery (R4): the date and time
advance in the same way; that the counter then stands and no event is raised or left due is the model's choice (log
entry 3). -/
def Obligations.SecondTickAdvancesCounterClockAndCycles : Prop :=
  (∀ s : State, s.power = .off →
    ∃ time : Option ClockTime,
      exec .secondTick s =
        .next { s with
          clock :=
            { s.clock with
              time := time
              overrideClass := if s.clock.time ≠ none ∧ time = none then none else s.clock.overrideClass
              minuteDue := false
              midnightDue := false } } ∧
      (s.clock.time = none → time = none) ∧
      ∀ t, s.clock.time = some t →
        (t.second < 59 → time = some ⟨t.date, t.minute, t.second + 1⟩) ∧
        (59 ≤ t.second → t.minute < 1439 → time = some ⟨t.date, t.minute + 1, 0⟩) ∧
        (59 ≤ t.second → 1439 ≤ t.minute → t.date ≠ ⟨2099, 12, 31⟩ → time = some ⟨t.date.next, 0, 0⟩) ∧
        (59 ≤ t.second → 1439 ≤ t.minute → t.date = ⟨2099, 12, 31⟩ → time = none)) ∧
  ∀ s : State, s.power ≠ .off → (∀ line, (s.line line).cycleOpen = true → 66 ≤ (s.line line).phase) →
    ∃ clk : Clock,
      exec .secondTick s =
        .next { s with
          clock := clk
          lineA :=
            if s.power = .running ∨ s.power = .flushing ∧ s.linesStopped = false then
              { s.lineA with
                nextCycle := (s.lineA.nextCycle + 1) % 256
                cycleOpen := true
                phase := 0
                heard := .nothing
                sent := .cycle clk.time s.lineA.nextCycle }
            else s.lineA
          lineB :=
            if s.power = .running ∨ s.power = .flushing ∧ s.linesStopped = false then
              { s.lineB with
                nextCycle := (s.lineB.nextCycle + 1) % 256
                cycleOpen := true
                phase := 0
                heard := .nothing
                sent := .cycle clk.time s.lineB.nextCycle }
            else s.lineB
          notices := { s.notices with output := noticeLevel s.notices s.timers (s.clock.counter + 1) } } ∧
      (s.clock.time = none → clk = { s.clock with counter := s.clock.counter + 1 }) ∧
      ∀ t, s.clock.time = some t →
        (t.second < 59 →
          clk =
            { s.clock with counter := s.clock.counter + 1, time := some ⟨t.date, t.minute, t.second + 1⟩ }) ∧
        (59 ≤ t.second → t.minute < 1439 →
          clk =
            { s.clock with
              counter := s.clock.counter + 1
              time := some ⟨t.date, t.minute + 1, 0⟩
              minuteDue := true }) ∧
        (59 ≤ t.second → 1439 ≤ t.minute → t.date ≠ ⟨2099, 12, 31⟩ →
          clk =
            { s.clock with
              counter := s.clock.counter + 1
              time := some ⟨t.date.next, 0, 0⟩
              minuteDue := true
              midnightDue := true }) ∧
        (59 ≤ t.second → 1439 ≤ t.minute → t.date = ⟨2099, 12, 31⟩ →
          clk = ⟨none, s.clock.battery, s.clock.counter + 1, none, false, false⟩)

/-- The date after a valid date is the next valid date, one day on (01 R4). The days run through the week from the
Saturday 1 January 2000, and the day class of a date is the override's on the current date, else Special for a listed
date, else Saturday, Sunday or Weekday by the day of the week (01 R7). -/
def Obligations.NextDateIsTheNextValidDate : Prop :=
  (∀ d : Date, d.valid = true → d ≠ ⟨2099, 12, 31⟩ →
    d.next.valid = true ∧ d.key < d.next.key ∧ d.next.dayNumber = d.dayNumber + 1 ∧
      ∀ e : Date, e.valid = true → e.key ≤ d.key ∨ d.next.key ≤ e.key) ∧
  (Date.mk 2000 1 1).dayNumber = 0 ∧
  (∀ d : Date, d.weekClass =
    if d.dayNumber % 7 = 0 then .saturday else if d.dayNumber % 7 = 1 then .sunday else .weekday) ∧
  ∀ (s : State) (d : Date),
    (∀ t c, s.clock.time = some t → s.clock.overrideClass = some c → t.date = d → s.dayClass d = c) ∧
    ((∀ t c, s.clock.time = some t → s.clock.overrideClass = some c → t.date ≠ d) →
      s.dayClass d = s.calendarClass d) ∧
    s.calendarClass d = if d ∈ s.tariff.specialDays then .special else d.weekClass

/-- The minute event (01 R16, R17), taken in calm. A Sealed set whose time has come is activated: each covered zone
takes the pending parameters and the schedules loaded and its generation rises by one, every other zone stays, the set
is gone, TariffActivated is written and one class-5 write is asked. A Loading set whose time has come is abandoned with
PendingAbandoned and a class-5 write that empties the region. Otherwise nothing happens. The event stands as a due flag
from the boundary on until its row is taken (log entry 4); the zones stand in the notice in ascending order (log entry
55). -/
def Obligations.MinuteEventActivatesOrAbandons : Prop :=
  ∀ s : State, s.calm = true → s.clock.minuteDue = true →
    (∀ (p : PendingSet) (t : ClockTime), s.tariff.pendingSet = some p → s.clock.time = some t →
      p.activation.atOrBefore t.moment = true → p.isSealed = true → s.tariff.zones.length = 16 →
      (p.zones.map PendingZone.zone).Pairwise (· < ·) → (∀ z ∈ p.zones, z.zone < 16) →
        ∃ zones : List ZoneEntry,
          exec .minuteEvent s =
            .next { s with
              clock := { s.clock with minuteDue := false }
              tariff := { s.tariff with zones := zones, pendingSet := none }
              notices :=
                (notify
                  (tariffActivatedNotice
                    (p.zones.map fun z => (z.zone, (zones.getD z.zone ⟨factoryTariff, 0⟩).generation)))
                  s).notices
              store :=
                s.store.taking
                  ⟨.table (.activation
                    (p.zones.map fun z => (z.zone, (zones.getD z.zone ⟨factoryTariff, 0⟩).tariff))),
                    5, .nobody⟩ } ∧
          zones.length = 16 ∧
          (∀ z ∈ p.zones,
            (zones.getD z.zone ⟨factoryTariff, 0⟩).generation = ((s.zone z.zone).generation + 1) % 256 ∧
            (zones.getD z.zone ⟨factoryTariff, 0⟩).tariff =
              { params := z.params
                weekday := z.weekday.getD (s.zone z.zone).tariff.weekday
                saturday := z.saturday.getD (s.zone z.zone).tariff.saturday
                sunday := z.sunday.getD (s.zone z.zone).tariff.sunday
                special := z.special.getD (s.zone z.zone).tariff.special }) ∧
          ∀ n < 16, (∀ z ∈ p.zones, z.zone ≠ n) → zones.getD n ⟨factoryTariff, 0⟩ = s.zone n) ∧
    (∀ (p : PendingSet) (t : ClockTime), s.tariff.pendingSet = some p → s.clock.time = some t →
      p.activation.atOrBefore t.moment = true → p.isSealed = false →
        exec .minuteEvent s =
          .next { s with
            clock := { s.clock with minuteDue := false }
            tariff := { s.tariff with pendingSet := none }
            notices := (notify (pendingAbandonedNotice p) s).notices
            store := s.store.taking ⟨.table (.pendingSet none), 5, .nobody⟩ }) ∧
    ((∀ (p : PendingSet) (t : ClockTime), s.tariff.pendingSet = some p → s.clock.time = some t →
      p.activation.atOrBefore t.moment = false) →
        exec .minuteEvent s = .next { s with clock := { s.clock with minuteDue := false } })

/-- The midnight event (01 R9, R10), taken in calm: today's override is cleared; every special day before the current
date is removed, and the list is recorded by a class-5 write if one was. The event stands as a due flag from the
boundary on until its row is taken (log entry 4). -/
def Obligations.MidnightEventClearsOverrideAndPrunes : Prop :=
  ∀ (s : State) (t : ClockTime), s.calm = true → s.clock.midnightDue = true → s.clock.time = some t →
    exec .midnightEvent s =
      .next { s with
        clock := { s.clock with midnightDue := false, overrideClass := none }
        tariff := { s.tariff with specialDays := s.tariff.specialDays.filter fun d => decide (t.date.key ≤ d.key) }
        store :=
          if s.tariff.specialDays.all (fun d => decide (t.date.key ≤ d.key)) then s.store
          else
            s.store.taking
              ⟨.table (.specialDays (s.tariff.specialDays.filter fun d => decide (t.date.key ≤ d.key))), 5,
                .nobody⟩ }

/-- SetClock (01 R6), in calm: out of range it is refused BAD_REQUEST. Otherwise the clock takes the new time and is
Set, the counter stays, and DONE is answered. A changed date clears the override, and it prunes the special days as does
a clock that was Unset, a class-5 write recording the list if a date was removed; a changed date or minute, or a clock
that was Unset, activates a due Sealed set with TariffActivated and abandons a due Loading one with PendingAbandoned,
each with its class-5 write. That the pruning's write is asked first is the model's choice (log entry 45), and so is
that the events it counts as take away a minute or midnight event still due (log entry 4), and the order of the zones in
the notice (log entry 55). -/
def Obligations.SetClockSetsTimeAndCountsAsEvents : Prop :=
  ∀ (s : State) (arg : DateArg) (minute second : Nat), s.calm = true → s.cabinetReady = true →
    ((dateOfArg arg = none ∨ 1439 < minute ∨ 59 < second) →
      exec (.setClock arg minute second) s =
        .next { s with cabinet := s.cabinet.answered Code.badRequest.plain }) ∧
    ∀ d, dateOfArg arg = some d → minute ≤ 1439 → second ≤ 59 →
      ∀ (days : List Date) (due : Option PendingSet) (zones : List ZoneEntry) (pruned : StoreControl),
        days =
          (if s.clock.time.map ClockTime.date = some d then s.tariff.specialDays
          else s.tariff.specialDays.filter fun x => decide (d.key ≤ x.key)) →
        pruned =
          (if days = s.tariff.specialDays then s.store
          else s.store.taking ⟨.table (.specialDays days), 5, .nobody⟩) →
        due =
          (if s.now = some ⟨d, minute⟩ then none
          else s.tariff.pendingSet.filter fun p => p.activation.atOrBefore ⟨d, minute⟩) →
        zones =
          (match due with
          | some p => if p.isSealed then p.zones.foldl activateZone s.tariff.zones else s.tariff.zones
          | none => s.tariff.zones) →
        exec (.setClock arg minute second) s =
          .next { s with
            clock :=
              { s.clock with
                time := some ⟨d, minute, second⟩
                overrideClass :=
                  if (s.clock.time.map ClockTime.date).any (fun old => decide (old ≠ d)) then none
                  else s.clock.overrideClass
                minuteDue := if s.now = some ⟨d, minute⟩ then s.clock.minuteDue else false
                midnightDue :=
                  if (s.clock.time.map ClockTime.date).any (fun old => decide (old ≠ d)) then false
                  else s.clock.midnightDue }
            tariff :=
              { s.tariff with
                zones := zones
                specialDays := days
                pendingSet := if due = none then s.tariff.pendingSet else none }
            notices :=
              match due with
              | some p =>
                (notify
                  (if p.isSealed then
                    tariffActivatedNotice
                      (p.zones.map fun z => (z.zone, (zones.getD z.zone ⟨factoryTariff, 0⟩).generation))
                  else pendingAbandonedNotice p) s).notices
              | none => s.notices
            store :=
              match due with
              | some p =>
                pruned.taking
                  ⟨.table
                    (if p.isSealed then
                      .activation (p.zones.map fun z => (z.zone, (zones.getD z.zone ⟨factoryTariff, 0⟩).tariff))
                    else .pendingSet none), 5, .nobody⟩
              | none => pruned
            cabinet := s.cabinet.answered Code.done.plain }

/-- OverrideToday (01 R10): refused CLOCK_UNSET while the clock is Unset; otherwise a day class sets the override and
255 clears it, answered DONE with no store write. That a value naming no class is refused BAD_REQUEST is the model's
choice (log entry 21). -/
def Obligations.OverrideTodaySetsOrClears : Prop :=
  ∀ (s : State) (n : Nat), s.cabinetReady = true →
    (s.clock.time = none →
      exec (.overrideToday n) s = .next { s with cabinet := s.cabinet.answered Code.clockUnset.plain }) ∧
    (s.clock.time ≠ none →
      (∀ c, DayClass.ofNumber n = some c →
        exec (.overrideToday n) s =
          .next { s with
            clock := { s.clock with overrideClass := some c }, cabinet := s.cabinet.answered Code.done.plain }) ∧
      (n = 255 →
        exec (.overrideToday n) s =
          .next { s with
            clock := { s.clock with overrideClass := none }, cabinet := s.cabinet.answered Code.done.plain }) ∧
      (n ≠ 255 → DayClass.ofNumber n = none →
        exec (.overrideToday n) s = .next { s with cabinet := s.cabinet.answered Code.badRequest.plain }))

/-! ## Tariffs -/

/-- PendingBegin opens a Loading set, PendingSeal seals one two minutes or more ahead, PendingCancel discards one; each
is recorded by a class-5 write and answers PENDING (01 R11, R12, R14, R15). A cancel with no set is answered DONE. A
begin with a date or minute out of range is refused BAD_REQUEST; a seal is refused, in this order, NOT_LOADING with no
Loading set, EMPTY with no zone, CLOCK_UNSET, and TOO_LATE fewer than two minutes ahead. -/
def Obligations.PendingSetOpensSealsAndCancels : Prop :=
  ∀ (s : State) (key : KeyInput), s.calm = true → s.cabinetReady = true →
    (∀ (arg : DateArg) (minute : Nat) (d : Date), dateOfArg arg = some d → minute ≤ 1439 →
      (∀ p, s.tariff.pendingSet = some p → ∀ z ∈ p.zones, s.writable (readKey key) z.zone = true) →
        exec (.pendingBegin key arg minute) s =
          .next { s with
            tariff := { s.tariff with pendingSet := some ⟨⟨d, minute⟩, false, []⟩ }
            store := s.store.taking ⟨.table (.pendingSet (some ⟨⟨d, minute⟩, false, []⟩)), 5, .cabinet⟩
            cabinet := s.cabinet.awaiting }) ∧
    (∀ (p : PendingSet) (t : Moment), s.tariff.pendingSet = some p → p.isSealed = false → p.zones ≠ [] →
      s.now = some t → t.minutes + 2 ≤ p.activation.minutes →
      (∀ z ∈ p.zones, s.writable (readKey key) z.zone = true) →
        exec (.pendingSeal key) s =
          .next { s with
            tariff := { s.tariff with pendingSet := some { p with isSealed := true } }
            store := s.store.taking ⟨.table (.pendingSet (some { p with isSealed := true })), 5, .cabinet⟩
            cabinet := s.cabinet.awaiting }) ∧
    (∀ p : PendingSet, s.tariff.pendingSet = some p →
      (∀ z ∈ p.zones, s.writable (readKey key) z.zone = true) →
        exec (.pendingCancel key) s =
          .next { s with
            tariff := { s.tariff with pendingSet := none }
            store := s.store.taking ⟨.table (.pendingSet none), 5, .cabinet⟩
            cabinet := s.cabinet.awaiting }) ∧
    (s.tariff.pendingSet = none →
      exec (.pendingCancel key) s = .next { s with cabinet := s.cabinet.answered Code.done.plain }) ∧
    (∀ (arg : DateArg) (minute : Nat), (dateOfArg arg = none ∨ 1439 < minute) →
      exec (.pendingBegin key arg minute) s = .next { s with cabinet := s.cabinet.answered Code.badRequest.plain }) ∧
    ((∀ p, s.tariff.pendingSet = some p → p.isSealed = true) →
      exec (.pendingSeal key) s = .next { s with cabinet := s.cabinet.answered Code.notLoading.plain }) ∧
    ∀ p : PendingSet, s.tariff.pendingSet = some p → p.isSealed = false →
      (p.zones = [] →
        exec (.pendingSeal key) s = .next { s with cabinet := s.cabinet.answered Code.empty.plain }) ∧
      (p.zones ≠ [] → s.clock.time = none →
        exec (.pendingSeal key) s = .next { s with cabinet := s.cabinet.answered Code.clockUnset.plain }) ∧
      ∀ t : Moment, p.zones ≠ [] → s.now = some t → p.activation.minutes < t.minutes + 2 →
        exec (.pendingSeal key) s = .next { s with cabinet := s.cabinet.answered Code.tooLate.plain }

/-- PendingZone (01 R1, R2, R11, R13): the zone becomes included with the parameters carried, minimum, maximum stay,
discount, visitor rate and carry-over (1 yes, 0 no: log entry 56), and a schedule carried, whose bands are those of the
argument with the rate of a Free or NoParking band left out, replaces the one loaded for its class (0 Weekday to 3
Special: log entry 17); every other zone of the set stays; a class-5 write records it and PENDING is answered. That the
set keeps its zones in ascending order is the model's choice (log entry 55). It is refused, in this order, NOT_LOADING
with no Loading set; BAD_REQUEST for a zone above 15, a day class other than the four, or bands carried with none;
BAD_TARIFF for parameters out of range, or for anything but one to eight bands, the first at minute 0, starts strictly
increasing to 1439 at most, known kinds, rates to 9999. -/
def Obligations.PendingZoneIncludesTheZone : Prop :=
  (∀ (s : State) (key : KeyInput) (a : ZoneArgs) (p : PendingSet) (params : ZoneParams)
    (load : Option (DayClass × List Band)),
    s.calm = true → s.cabinetReady = true → s.tariff.pendingSet = some p → p.isSealed = false →
      (p.zones.map PendingZone.zone).Pairwise (· < ·) →
      a.zone ≤ 15 → a.minimum ≤ 5000 → a.maxStay ≤ 1440 → a.discount ≤ 100 → a.visitorRate ≤ 9999 → a.carryOver ≤ 1 →
      params = ⟨a.minimum, a.maxStay, a.discount, a.visitorRate, decide (a.carryOver = 1)⟩ →
      (a.dayClass = 255 ∧ a.bands = [] ∧ load = none ∨
        (∃ c, [DayClass.weekday, .saturday, .sunday, .special][a.dayClass]? = some c ∧
          load = some (c, a.bands.map fun b =>
            ⟨b.start, if b.kind = 0 then .charged b.rate else if b.kind = 1 then .free else .noParking⟩)) ∧
        1 ≤ a.bands.length ∧ a.bands.length ≤ 8 ∧ a.bands.head?.map BandArg.start = some 0 ∧
        (a.bands.map BandArg.start).Pairwise (· < ·) ∧
        ∀ b ∈ a.bands, b.start ≤ 1439 ∧ b.kind ≤ 2 ∧ (b.kind = 0 → b.rate ≤ 9999)) →
      s.writable (readKey key) a.zone = true →
        ∃ zones : List PendingZone,
          exec (.pendingZone key a) s =
            .next { s with
              tariff := { s.tariff with pendingSet := some { p with zones := zones } }
              store := s.store.taking ⟨.table (.pendingSet (some { p with zones := zones })), 5, .cabinet⟩
              cabinet := s.cabinet.awaiting } ∧
          (zones.map PendingZone.zone).Pairwise (· < ·) ∧
          (∀ z : PendingZone, z.zone ≠ a.zone → (z ∈ zones ↔ z ∈ p.zones)) ∧
          ∃ old z : PendingZone, z ∈ zones ∧ z.zone = a.zone ∧ z.params = params ∧
            (old ∈ p.zones ∧ old.zone = a.zone ∨
              (∀ y ∈ p.zones, y.zone ≠ a.zone) ∧ old = ⟨a.zone, params, none, none, none, none⟩) ∧
            z =
              match load with
              | none => { old with params := params }
              | some (.weekday, bands) => { old with params := params, weekday := some bands }
              | some (.saturday, bands) => { old with params := params, saturday := some bands }
              | some (.sunday, bands) => { old with params := params, sunday := some bands }
              | some (.special, bands) => { old with params := params, special := some bands }) ∧
  (∀ (a : ZoneArgs) (params : ZoneParams) (load : Option (DayClass × List Band)),
    paramsOfArgs a = some params → loadOfArgs a = .ok load →
      a.zone ≤ 15 ∧ params.minimum ≤ 5000 ∧ params.maxStay ≤ 1440 ∧ params.discount ≤ 100 ∧
        params.visitorRate ≤ 9999 ∧ a.carryOver ≤ 1 ∧
        params = ⟨a.minimum, a.maxStay, a.discount, a.visitorRate, decide (a.carryOver = 1)⟩ ∧
        (load = none ↔ a.dayClass = 255) ∧ (load = none → a.bands = []) ∧
        ∀ c bands, load = some (c, bands) →
          [DayClass.weekday, .saturday, .sunday, .special][a.dayClass]? = some c ∧
          bands = (a.bands.map fun b =>
            ⟨b.start, if b.kind = 0 then .charged b.rate else if b.kind = 1 then .free else .noParking⟩) ∧
          1 ≤ bands.length ∧ bands.length ≤ 8 ∧ (bands.head?.map Band.start) = some 0 ∧
            (bands.map Band.start).Pairwise (· < ·) ∧ (∀ b ∈ bands, b.start ≤ 1439) ∧
            (∀ b ∈ bands, ∀ r, b.kind = .charged r → r ≤ 9999) ∧ bands.length = a.bands.length) ∧
  ∀ (s : State) (key : KeyInput) (a : ZoneArgs), s.cabinetReady = true →
    ((∀ p, s.tariff.pendingSet = some p → p.isSealed = true) →
      exec (.pendingZone key a) s = .next { s with cabinet := s.cabinet.answered Code.notLoading.plain }) ∧
    ∀ p, s.tariff.pendingSet = some p → p.isSealed = false →
      ((15 < a.zone ∨ (3 < a.dayClass ∧ a.dayClass ≠ 255) ∨ (a.dayClass = 255 ∧ a.bands ≠ [])) →
        exec (.pendingZone key a) s = .next { s with cabinet := s.cabinet.answered Code.badRequest.plain }) ∧
      (a.zone ≤ 15 → (a.dayClass ≤ 3 ∨ (a.dayClass = 255 ∧ a.bands = [])) →
        (5000 < a.minimum ∨ 1440 < a.maxStay ∨ 100 < a.discount ∨ 9999 < a.visitorRate ∨ 1 < a.carryOver ∨
          (a.dayClass ≤ 3 ∧
            (a.bands = [] ∨ 8 < a.bands.length ∨ a.bands.head?.map BandArg.start ≠ some 0 ∨
              ¬(a.bands.map BandArg.start).Pairwise (· < ·) ∨
              ∃ b ∈ a.bands, 1439 < b.start ∨ 2 < b.kind ∨ (b.kind = 0 ∧ 9999 < b.rate)))) →
          exec (.pendingZone key a) s = .next { s with cabinet := s.cabinet.answered Code.badTariff.plain })

/-- A pending-set command that would touch a zone that is guarded and not writable is refused GUARDED, and neither copy
changes (01 R12 to R15, R20). -/
def Obligations.GuardedZonesRefuseTariffCommands : Prop :=
  ∀ (s : State) (key : KeyInput) (p : PendingSet), s.cabinetReady = true → s.tariff.pendingSet = some p →
    (∀ z ∈ p.zones, s.writable (readKey key) z.zone = false →
      (∀ (arg : DateArg) (minute : Nat), dateOfArg arg ≠ none → minute ≤ 1439 →
        exec (.pendingBegin key arg minute) s = .next { s with cabinet := s.cabinet.answered Code.guarded.plain }) ∧
      exec (.pendingCancel key) s = .next { s with cabinet := s.cabinet.answered Code.guarded.plain } ∧
      (p.isSealed = false → ∀ t, s.now = some t → t.minutes + 2 ≤ p.activation.minutes →
        exec (.pendingSeal key) s = .next { s with cabinet := s.cabinet.answered Code.guarded.plain })) ∧
    ∀ (a : ZoneArgs) (params : ZoneParams) (load : Option (DayClass × List Band)), p.isSealed = false →
      loadOfArgs a = .ok load → paramsOfArgs a = some params → s.writable (readKey key) a.zone = false →
        exec (.pendingZone key a) s = .next { s with cabinet := s.cabinet.answered Code.guarded.plain }

/-- The guarded zones, their writability, and SetGuard (01 R19 to R22). The marked zones are the first or the last of
the span, the complement turns them over; a zone that is not guarded is writable, a guarded one in Open always, in Keyed
with the key at Service alone, in Frozen never. SetGuard is refused BAD_REQUEST for a value outside its set,
GUARD_FROZEN in Frozen, KEY_REQUIRED in Keyed with the key not at Service; otherwise the working copy takes the four
values, Frozen being kept as Keyed with the frozen latch set, a class-5 write records the working copy, and PENDING is
answered. Side and mode are numbered in the order of their table (log entry 17), and the complement is 1 yes, 0 no (log
entry 56). -/
def Obligations.GuardDecidesAndIsChanged : Prop :=
  (∀ (s : State) (key : KeyPosition) (zone : Nat), zone < 16 → s.tariff.guardWord.span ≤ 16 →
    (s.tariff.guardWord.guards zone =
      ((match s.tariff.guardWord.side with
        | .low => decide (zone < s.tariff.guardWord.span)
        | .high => decide (16 - s.tariff.guardWord.span ≤ zone)) != s.tariff.guardWord.complement)) ∧
    (s.writable key zone = true ↔
      s.tariff.guardWord.guards zone = false ∨
        s.frozenLatch = false ∧
          (s.tariff.guardWord.mode = .opened ∨ s.tariff.guardWord.mode = .keyed ∧ key = .service))) ∧
  ∀ (s : State) (key : KeyInput) (side span complement mode : Nat), s.calm = true → s.cabinetReady = true →
    ((1 < side ∨ 1 < complement ∨ 2 < mode ∨
        span ∉ [0, 1, 2, 4, 8, 16]) →
      exec (.setGuard key side span complement mode) s =
        .next { s with cabinet := s.cabinet.answered Code.badRequest.plain }) ∧
    ∀ sd comp md, [GuardSide.low, .high][side]? = some sd → complement ≤ 1 → comp = decide (complement = 1) →
      [GuardMode.opened, .keyed, .frozen][mode]? = some md → span ∈ [0, 1, 2, 4, 8, 16] →
        (s.guardMode = .frozen →
          exec (.setGuard key side span complement mode) s =
            .next { s with cabinet := s.cabinet.answered Code.guardFrozen.plain }) ∧
        (s.guardMode = .keyed → key ≠ .service →
          exec (.setGuard key side span complement mode) s =
            .next { s with cabinet := s.cabinet.answered Code.keyRequired.plain }) ∧
        (s.guardMode = .opened ∨ s.guardMode = .keyed ∧ key = .service →
          exec (.setGuard key side span complement mode) s =
            .next { s with
              tariff :=
                { s.tariff with guardWord := ⟨sd, span, comp, if md = .frozen then .keyed else md⟩ }
              frozenLatch := s.frozenLatch || md == .frozen
              store :=
                s.store.taking
                  ⟨.table (.guardWord ⟨sd, span, comp, if md = .frozen then .keyed else md⟩), 5, .cabinet⟩
              cabinet := s.cabinet.awaiting })

/-- SpecialDayAdd and SpecialDayRemove (01 R8): a date added stands in its place, a date listed already is answered
DONE, a full list refuses LIST_FULL and a date out of range BAD_REQUEST; a date removed is gone and one not listed is
refused NOT_FOUND; a change is recorded by a class-5 write and answers PENDING. -/
def Obligations.SpecialDaysAreAddedAndRemoved : Prop :=
  ∀ (s : State) (arg : DateArg), s.calm = true → s.cabinetReady = true →
    (dateOfArg arg = none →
      exec (.specialDayAdd arg) s = .next { s with cabinet := s.cabinet.answered Code.badRequest.plain } ∧
        exec (.specialDayRemove arg) s = .next { s with cabinet := s.cabinet.answered Code.notFound.plain }) ∧
    ∀ d, dateOfArg arg = some d →
      (d ∈ s.tariff.specialDays →
        exec (.specialDayAdd arg) s = .next { s with cabinet := s.cabinet.answered Code.done.plain } ∧
        exec (.specialDayRemove arg) s =
          .next { s with
            tariff := { s.tariff with specialDays := s.tariff.specialDays.filter fun x => x != d }
            store :=
              s.store.taking
                ⟨.table (.specialDays (s.tariff.specialDays.filter fun x => x != d)), 5, .cabinet⟩
            cabinet := s.cabinet.awaiting }) ∧
      (d ∉ s.tariff.specialDays →
        exec (.specialDayRemove arg) s = .next { s with cabinet := s.cabinet.answered Code.notFound.plain } ∧
        (32 ≤ s.tariff.specialDays.length →
          exec (.specialDayAdd arg) s = .next { s with cabinet := s.cabinet.answered Code.listFull.plain }) ∧
        (s.tariff.specialDays.length < 32 → (s.tariff.specialDays.map Date.key).Pairwise (· < ·) →
          (∀ x ∈ s.tariff.specialDays, x.valid = true) →
          ∃ days : List Date,
            exec (.specialDayAdd arg) s =
              .next { s with
                tariff := { s.tariff with specialDays := days }
                store := s.store.taking ⟨.table (.specialDays days), 5, .cabinet⟩
                cabinet := s.cabinet.awaiting } ∧
            (days.map Date.key).Pairwise (· < ·) ∧ ∀ x, x ∈ days ↔ x = d ∨ x ∈ s.tariff.specialDays))

/-! ## Quotes -/

/-- 02 R30: the effective rate of a Charged band for each rate class; Free and NoParking bands have none; a zero-priced
band is walked exactly as a Free one; every effective rate lies in 0 to 9999. -/
def Obligations.EffectiveRatesFollowTheClass : Prop :=
  (∀ (p : ZoneParams) (r : Nat), r ≤ 9999 → p.discount ≤ 100 → p.visitorRate ≤ 9999 →
    BandKind.price p .standard (.charged r) = some r ∧
    (∃ x, BandKind.price p .resident (.charged r) = some x ∧ r * (100 - p.discount) ≤ 100 * x ∧
      100 * x < r * (100 - p.discount) + 100) ∧
    (0 < r → BandKind.price p .visitor (.charged r) = some p.visitorRate) ∧
    (r = 0 → BandKind.price p .visitor (.charged r) = some 0) ∧
    ∀ rate : RateClass, effectiveRate p rate r ≤ 9999) ∧
  (∀ (p : ZoneParams) (rate : RateClass), BandKind.price p rate .free = some 0 ∧
    BandKind.price p rate .noParking = none ∧
    ∀ (offset : Nat) (bands : List Band),
      daySegments offset (BandKind.price p rate) bands =
        daySegments offset (BandKind.price p rate)
          (bands.map fun b => if BandKind.price p rate b.kind = some 0 then { b with kind := .free } else b)) ∧
  (∀ p : ZoneParams, p.discount = 33 → effectiveRate p .resident 250 = 168) ∧
  (∀ (p : ZoneParams) (r : Nat), p.discount = 100 → effectiveRate p .resident r = 0) ∧
  ∀ (p : ZoneParams) (r : Nat), p.visitorRate = 0 → effectiveRate p .visitor r = 0

/-- The quote computation, minute by minute (02 R30 to R40, R44). At the arrival minute NoParking is refused NO_PARKING;
a free or zero-priced one is answered FREE until the first minute that is neither, or the horizon; payment kind None in
a priced one is refused KIND_NOT_ALLOWED, money below the minimum or the first minute's price BELOW_MINIMUM, no duration
or balance BALANCE_EXHAUSTED to a Visitor. All else is QUOTED: from the arrival to a position at or before the horizon
with no NoParking minute between; its minutes are those with a price, its money what they cost, sixty credit units to
the penny, rounded up; it keeps within the maximum stay, the balance read, the amount or the duration. It goes as far as
it can: it stops at the horizon, at a NoParking minute, or at a priced minute where a cap is met, the first met in the
order maximum stay, balance, allowance being its reason (R37). Position 1440 is minute 1440 of the arrival date, as the
expiry and the valid-until are given (R41, R44); a refusal carries the flags byte only where UNVERIFIED (12 R203). -/
def Obligations.QuotesCountTheMinutesWalked : Prop :=
  ∀ (s : State) (q : QuoteWork) (horizon : Nat) (params : ZoneParams) (price : Nat → Option Nat)
    (at_ : Nat → Moment) (only : List Byte),
    (∀ c : DayClass, scheduleValid ((s.zone q.zone).tariff.schedule c) = true) → q.start < 1440 →
    params = (s.zone q.zone).tariff.params →
    price = s.priceAt q.zone q.rate q.date →
    horizon = (if params.carryOver = true ∧ q.date ≠ ⟨2099, 12, 31⟩ then 2880 else 1440) →
    (at_ = fun p => if p ≤ 1440 then ⟨q.date, p⟩ else ⟨q.date.next, p - 1440⟩) →
    only = (if q.unverified then [1#8] else []) →
      (price q.start = none → computeQuote q s = .reply ⟨Code.noParking.byte, only⟩) ∧
      (∀ v, price q.start = some 0 → q.start < v → v ≤ horizon →
        (∀ p, q.start ≤ p → p < v → price p = some 0) → (v = horizon ∨ price v ≠ some 0) →
          computeQuote q s = .reply (freeAnswer (at_ v) q.unverified)) ∧
      (∀ r, price q.start = some r → 0 < r →
        (q.pay = .unpaid → computeQuote q s = .reply ⟨Code.kindNotAllowed.byte, only⟩) ∧
        (q.pay = .cash →
          (q.amount < params.minimum ∨ 60 * q.amount < r ∨ q.balance = some 0) →
            computeQuote q s = .reply ⟨Code.belowMinimum.byte, byte2 params.minimum ++ only⟩) ∧
        (q.pay = .card → (q.amount = 0 ∨ q.balance = some 0) →
          computeQuote q s =
            .reply
              (if q.rate = .visitor then ⟨Code.balanceExhausted.byte, only⟩
              else ⟨Code.belowMinimum.byte, byte2 params.minimum ++ only⟩)) ∧
        (q.pay = .cash ∧ params.minimum ≤ q.amount ∧ r ≤ 60 * q.amount ∧ q.balance ≠ some 0 ∨
            q.pay = .card ∧ q.amount ≠ 0 ∧ q.balance ≠ some 0 →
          ∃ minutes paid expiry clamped raised stop,
            computeQuote q s = .quoted minutes paid expiry clamped raised stop)) ∧
      ∀ (minutes : Nat) (paid : QuotePrice) (expiry : Moment) (clamped raised : Bool) (stop : StopReason),
        computeQuote q s = .quoted minutes paid expiry clamped raised stop →
          ∃ (p : Nat) (rates : List (Option Nat)) (spent : Nat),
            q.start ≤ p ∧ p ≤ horizon ∧ expiry = at_ p ∧
            rates = ((List.range (p - q.start)).map fun i => price (q.start + i)) ∧ none ∉ rates ∧
            spent = (rates.map fun r => r.getD 0).sum ∧
            minutes = (rates.filter fun r => r != some 0).length ∧ 1 ≤ minutes ∧
            (params.maxStay ≠ 0 → minutes ≤ params.maxStay) ∧ (∀ b, q.balance = some b → minutes ≤ b) ∧
            (q.pay = .cash →
              paid = .byMoney q.amount ((spent + 59) / 60) ∧ 1 ≤ (spent + 59) / 60 ∧ (spent + 59) / 60 ≤ q.amount ∧
                params.minimum ≤ q.amount ∧ clamped = false ∧ raised = false) ∧
            (q.pay = .card →
              minutes ≤ q.amount ∧ clamped = decide (minutes < q.amount) ∧
                raised = decide ((spent + 59) / 60 < params.minimum) ∧
                paid = .byTime (max ((spent + 59) / 60) params.minimum)) ∧
            q.pay ≠ .unpaid ∧
            (p ≠ horizon → ∀ r, price p = some r →
              0 < r ∧
                ((params.maxStay ≠ 0 ∧ minutes = params.maxStay) ∨ q.balance = some minutes ∨
                  q.pay = .cash ∧ 60 * q.amount < spent + r ∨ q.pay = .card ∧ minutes = q.amount)) ∧
            stop =
              if p = horizon then .horizon
              else if price p = none then .ban
              else if params.maxStay ≠ 0 ∧ minutes = params.maxStay then .maxStay
              else if q.balance = some minutes then .balance
              else if q.pay = .cash then .credit
              else .timeReached

/-- QuoteRequest at its arrival (02 R24 to R27, R42, R43; 07 R129, R130), in Running and in Flushing alike (02 R29, 11
R195) where nothing else follows at the event, from an Active machine with no request pending: the request becomes
pending; a form out of order is refused BAD_REQUEST, a Visitor paying Cash KIND_NOT_ALLOWED, an Unset clock CLOCK_UNSET,
a payment kind not fitted or not allowed PAYMENT_BLOCKED; a Standard quote is computed at once, and QUOTED takes the
next token, 1 after 255, and opens the quote in place of any other, so that the quote claimed by a visitor sale still in
flight is not returned to open any more (03 R60); a permit holder's lookup is asked of the store as a class-3 read, the
values fixed at arrival carried with it, or, while the hold is Granted or Interrupted, it is UNVERIFIED at once (R28, 04
R64, R77): None of a Visitor is KIND_NOT_ALLOWED, without the flags byte in the model's reading (log entry 25), and all
else is computed as Standard with the flag. A payment kind is allowed where it is fitted and the service state is InService,
CashOnly for Cash, or CardOnly for Card and for None, which counts as Card (02 R26). -/
def Obligations.QuoteRequestIsAnsweredOrLookedUp : Prop :=
  (∀ (m : MachineRecord) (pay : PayKind),
    m.allows pay = true ↔
      pay = .cash ∧ m.reg.fitted ≠ .card ∧ (m.service = .inService ∨ m.service = .cashOnly) ∨
        (pay = .card ∨ pay = .unpaid) ∧ m.reg.fitted ≠ .cash ∧
          (m.service = .inService ∨ m.service = .cardOnly)) ∧
  ∀ (s : State) (line : LineId) (slot : Nat) (m : MachineRecord) (fl : LinkFields) (f : QuoteFrame),
    s.steady → s.hears line slot m fl → m.request = none → f.machine = m.number →
      ((2 < f.rateClass ∨ 2 < f.payKind ∨ f.amount = 0 ∨ (f.payKind ≠ 0 ∧ 1440 < f.amount) ∨
          (f.rateClass ≠ 0 ∧ (f.permit = 0 ∨ 99999999 < f.permit))) →
        exec (.quoteRequest line slot f) s =
          .next (s.requested line m.number fl .quoteRequest (some Code.badRequest.plain))) ∧
      (f.rateClass = 2 → f.payKind = 0 → 1 ≤ f.amount → 1 ≤ f.permit → f.permit ≤ 99999999 →
        exec (.quoteRequest line slot f) s =
          .next (s.requested line m.number fl .quoteRequest (some Code.kindNotAllowed.plain))) ∧
      ∀ (rate : RateClass) (pay : PayKind), RateClass.ofNumber f.rateClass = some rate →
        PayKind.ofNumber f.payKind = some pay → 1 ≤ f.amount → (pay ≠ .cash → f.amount ≤ 1440) →
        (rate ≠ .standard → 1 ≤ f.permit ∧ f.permit ≤ 99999999) → (rate ≠ .visitor ∨ pay ≠ .cash) →
          (s.clock.time = none →
            exec (.quoteRequest line slot f) s =
              .next (s.requested line m.number fl .quoteRequest (some Code.clockUnset.plain))) ∧
          ∀ t, s.clock.time = some t →
            (m.allows pay = false →
              exec (.quoteRequest line slot f) s =
                .next (s.requested line m.number fl .quoteRequest (some Code.paymentBlocked.plain))) ∧
            (m.allows pay = true → rate = .standard →
              (∀ a, computeQuote ⟨m.reg.zone, t.date, t.minute, rate, pay, f.amount, none, none, false⟩ s =
                  .reply a →
                exec (.quoteRequest line slot f) s =
                  .next (s.requested line m.number fl .quoteRequest (some a))) ∧
              (∀ minutes price expiry clamped raised stop,
                computeQuote ⟨m.reg.zone, t.date, t.minute, rate, pay, f.amount, none, none, false⟩ s =
                    .quoted minutes price expiry clamped raised stop →
                  ∃ q : OpenQuote,
                    q = ⟨if m.tokens ≥ 255 then 1 else m.tokens + 1, m.reg.zone, (s.zone m.reg.zone).generation,
                      rate, pay, minutes, price, expiry, none, s.clock.counter⟩ ∧
                    exec (.quoteRequest line slot f) s =
                      .next ((s.requested line m.number fl .quoteRequest
                        (some (quotedAnswer q false clamped raised stop))).onMachine m.number fun x =>
                          { x with
                            tokens := q.token
                            openQuote := some q
                            commit := x.commit.map fun c => { c with superseded := true } }))) ∧
            (m.allows pay = true → rate ≠ .standard → (s.permits.hold = .granted ∨ s.permits.hold = .interrupted) →
              (rate = .visitor → pay = .unpaid →
                exec (.quoteRequest line slot f) s =
                  .next (s.requested line m.number fl .quoteRequest (some Code.kindNotAllowed.plain))) ∧
              ((rate ≠ .visitor ∨ pay ≠ .unpaid) →
                (∀ a, computeQuote ⟨m.reg.zone, t.date, t.minute, .standard, pay, f.amount, none, none, true⟩ s =
                    .reply a →
                  exec (.quoteRequest line slot f) s =
                    .next (s.requested line m.number fl .quoteRequest (some a))) ∧
                ∀ minutes price expiry clamped raised stop,
                  computeQuote ⟨m.reg.zone, t.date, t.minute, .standard, pay, f.amount, none, none, true⟩ s =
                      .quoted minutes price expiry clamped raised stop →
                    ∃ q : OpenQuote,
                      q = ⟨if m.tokens ≥ 255 then 1 else m.tokens + 1, m.reg.zone, (s.zone m.reg.zone).generation,
                        .standard, pay, minutes, price, expiry, none, s.clock.counter⟩ ∧
                      exec (.quoteRequest line slot f) s =
                        .next ((s.requested line m.number fl .quoteRequest
                          (some (quotedAnswer q true clamped raised stop))).onMachine m.number fun x =>
                            { x with
                              tokens := q.token
                              openQuote := some q
                              commit := x.commit.map fun c => { c with superseded := true } }))) ∧
            (m.allows pay = true → rate ≠ .standard → (s.permits.hold = .free ∨ s.permits.hold = .requested) →
              exec (.quoteRequest line slot f) s =
                .next { s.requested line m.number fl .quoteRequest none with
                  store :=
                    s.store.reading
                      ⟨.lookup
                          ⟨m.number, s.nextId, f.permit, rate, pay, f.amount, m.reg.zone, t.date, t.minute, false⟩,
                        3, .nobody⟩ })

/-- A lookup's completion (02 R27 to R29; 04 R65, R66), in calm: a permit that is not VALID is refused PERMIT_REFUSED
with the first cause, a Visitor balance of 0 BALANCE_EXHAUSTED, a machine whose zone changed in flight ZONE_CHANGED; a
request discarded meanwhile is disregarded; otherwise the quote is computed with the values fixed at arrival, as
Standard with the flag UNVERIFIED where a hold was granted in flight, when a Visitor with payment kind None is refused;
that ZONE_CHANGED then carries the flag is the model's reading (log entry 25). A permit is VALID when none of the causes
of 04 R65 applies, the first that applies being the result. -/
def Obligations.LookupCompletionFinishesTheQuote : Prop :=
  (∀ (rate : RateClass) (date : Date) (zone : Nat),
    permitCause none rate (some date) zone = some .notFound ∧
    ∀ p : Permit,
      permitCause (some p) rate (some date) zone =
        if ¬(p.kind = .resident ∧ rate = .resident ∨ p.kind = .visitor ∧ rate = .visitor) then some .wrongKind
        else if p.state = .revoked then some .revoked
        else if p.state = .suspended then some .suspended
        else if date.key < p.validFrom.key ∨ p.validTo.key < date.key then some .notCurrent
        else if p.zones.getLsbD zone = false then some .wrongZone
        else none) ∧
  ∀ (s : State) (w : LookupWork) (cls : Nat) (asker : Requester), s.performing ⟨.lookup w, cls, asker⟩ →
    ((∀ m r, s.machine? w.machine = some m → m.request = some r → r.id ≠ w.id) →
      exec .lookupCompletion s = .next (s.whenDone fun t => t)) ∧
    ∀ (m : MachineRecord) (r : Request), s.machine? w.machine = some m → m.request = some r → r.id = w.id →
      (∀ c, w.unverified = false →
        permitCause (findPermit s.nv.permits w.permit) w.rate (some w.date) w.zone = some c →
          exec .lookupCompletion s = .next (s.whenDone (giveReply w.machine w.id (permitRefusedAnswer c)))) ∧
      (∀ p, w.unverified = false → findPermit s.nv.permits w.permit = some p →
        permitCause (some p) w.rate (some w.date) w.zone = none →
          (w.rate = .visitor → p.balance = some 0 →
            exec .lookupCompletion s = .next (s.whenDone (giveReply w.machine w.id Code.balanceExhausted.plain))) ∧
          ((w.rate ≠ .visitor ∨ p.balance ≠ some 0) → r.zoneChanged = true →
            exec .lookupCompletion s = .next (s.whenDone (giveReply w.machine w.id Code.zoneChanged.plain))) ∧
          ((w.rate ≠ .visitor ∨ p.balance ≠ some 0) → r.zoneChanged = false →
            ∀ q : QuoteWork,
              q = ⟨w.zone, w.date, w.start, w.rate, w.pay, w.amount, some w.permit,
                if w.rate = .visitor then p.balance else none, false⟩ →
              (∀ a, computeQuote q s = .reply a →
                exec .lookupCompletion s = .next (s.whenDone (giveReply w.machine w.id a))) ∧
              ∀ minutes price expiry clamped raised stop,
                computeQuote q s = .quoted minutes price expiry clamped raised stop →
                  ∃ o : OpenQuote,
                    o = ⟨if m.tokens ≥ 255 then 1 else m.tokens + 1, w.zone, (s.zone w.zone).generation, w.rate,
                      w.pay, minutes, price, expiry, some w.permit, s.clock.counter⟩ ∧
                    exec .lookupCompletion s =
                      .next (s.whenDone fun t =>
                        giveReply w.machine w.id (quotedAnswer o false clamped raised stop)
                          (t.onMachine w.machine fun x =>
                            { x with
                              tokens := o.token
                              openQuote := some o
                              commit := x.commit.map fun c => { c with superseded := true } })))) ∧
      (w.unverified = true →
        (w.rate = .visitor → w.pay = .unpaid →
          exec .lookupCompletion s = .next (s.whenDone (giveReply w.machine w.id Code.kindNotAllowed.plain))) ∧
        ((w.rate ≠ .visitor ∨ w.pay ≠ .unpaid) → r.zoneChanged = true →
          exec .lookupCompletion s =
            .next (s.whenDone (giveReply w.machine w.id ⟨Code.zoneChanged.byte, [1#8]⟩))) ∧
        ((w.rate ≠ .visitor ∨ w.pay ≠ .unpaid) → r.zoneChanged = false →
          ∀ q : QuoteWork, q = ⟨w.zone, w.date, w.start, .standard, w.pay, w.amount, none, none, true⟩ →
            (∀ a, computeQuote q s = .reply a →
              exec .lookupCompletion s = .next (s.whenDone (giveReply w.machine w.id a))) ∧
            ∀ minutes price expiry clamped raised stop,
              computeQuote q s = .quoted minutes price expiry clamped raised stop →
                ∃ o : OpenQuote,
                  o = ⟨if m.tokens ≥ 255 then 1 else m.tokens + 1, w.zone, (s.zone w.zone).generation, .standard,
                    w.pay, minutes, price, expiry, none, s.clock.counter⟩ ∧
                  exec .lookupCompletion s =
                    .next (s.whenDone fun t =>
                      giveReply w.machine w.id (quotedAnswer o true clamped raised stop)
                        (t.onMachine w.machine fun x =>
                          { x with
                            tokens := o.token
                            openQuote := some o
                            commit := x.commit.map fun c => { c with superseded := true } }))))

/-- An open quote is discarded once the seconds counter has advanced by the lifetime past its issue time, with nothing
else changed, and not before (03 R56). -/
def Obligations.QuoteExpiryDiscardsTheQuote : Prop :=
  ∀ (s : State) (n : Nat), (s.machines.map MachineRecord.number).Nodup →
    (∀ (m : MachineRecord) (q : OpenQuote), s.machine? n = some m → m.openQuote = some q →
      s.timers.lifetime ≤ (s.clock.counter - q.issued).toNat →
        exec (.quoteExpiry n) s = .next (s.onMachine n fun x => { x with openQuote := none })) ∧
    ((∀ (m : MachineRecord) (q : OpenQuote), s.machine? n = some m → m.openQuote = some q →
        (s.clock.counter - q.issued).toNat < s.timers.lifetime) →
      exec (.quoteExpiry n) s = .next s)

/-! ## Sales -/

/-- A Cash commit that passes every check (03 R45 to R52) is accepted at its arrival (R55, R57, R59; 05 R83): ACCEPTED
with token and serial is its reply; the tally takes the coins, their value, the sale and the serials, and its law stays;
the last accepted serial and token are stored, the claimed quote is closed, the machine's group is dirty; then TALLY_GAP
is raised for a serial 2 to 1000 ahead, and BOX_NEAR_FULL and BOX_FULL where they are not active, in this order, at
their levels (06 R113), with their notices and the district summary; no other machine changes. -/
def Obligations.CashSaleIsAccepted : Prop :=
  ∀ (s : State) (line : LineId) (slot : Nat) (m : MachineRecord) (fl : LinkFields) (f : SaleFrame) (q : OpenQuote)
    (gap : Bool),
    s.calm = true → (s.machines.map MachineRecord.number).Nodup → s.hears line slot m fl → m.request = none → f.machine = m.number →
    1 ≤ f.token → f.token ≤ 255 → 1 ≤ f.serial → f.serial ≤ 999999 → f.payKind = 0 → 1 ≤ f.tendered →
    m.commit = none → m.accepted ≠ ⟨some f.serial, some f.token⟩ →
    m.openQuote = some q → q.token = f.token → q.generation = (s.zone q.zone).generation →
    (match m.accepted.serial with
      | none => gap = false
      | some last =>
        1 ≤ (f.serial + 999999 - last) % 999999 ∧ (f.serial + 999999 - last) % 999999 ≤ 1000 ∧
          gap = decide (2 ≤ (f.serial + 999999 - last) % 999999)) →
    q.pay = .cash → m.allows .cash = true → (∃ box, m.box = .installed box) →
    f.coins ≠ [] → f.coins.length ≤ 8 → (f.coins.map CoinPair.index).Nodup →
    (∀ c ∈ f.coins, c.index ≤ 7 ∧ 1 ≤ c.count ∧ 1 ≤ s.cash.denominations.get c.index) →
    (f.coins.map fun c => c.count * s.cash.denominations.get c.index).sum = f.tendered →
    q.price.amount = f.tendered →
      ∃ (sold : Tally) (u v w : State),
        sold =
          { m.tally with
            counts := sold.counts
            cash := m.tally.cash + f.tendered
            sales := m.tally.sales + 1
            coins := m.tally.coins + (f.coins.map CoinPair.count).sum
            first := if m.tally.first = none then some f.serial else m.tally.first
            last := some f.serial } ∧
        (∀ i < 8,
          sold.counts.get i =
            m.tally.counts.get i + ((f.coins.filter fun c => c.index == i).map CoinPair.count).sum) ∧
        (m.tally.lawful s.cash.denominations = true → sold.lawful s.cash.denominations = true) ∧
        u = ((s.requested line m.number fl .saleCommit (some (acceptedAnswer f.token f.serial))).onMachine m.number
          fun x => { x with openQuote := none, accepted := ⟨some f.serial, some f.token⟩, tally := sold }) ∧
        v = (if gap then raiseFault m.number .tallyGap u else u) ∧
        w =
          (if m.reg.capacity ≤ sold.coins + m.reg.margin ∧ m.faults.active .boxNearFull = false then
            raiseFault m.number .boxNearFull v
          else v) ∧
        exec (.saleCommit line slot f) s =
          .next { (if m.reg.capacity ≤ sold.coins ∧ m.faults.active .boxFull = false then
              raiseFault m.number .boxFull w
            else w) with
            store := { s.store with dirty := s.store.dirty.set m.group true } }

/-- A commit that is not accepted at its arrival, and a repeat (03 R45 to R52): BAD_REQUEST for its form (R45); BUSY
while an earlier visitor sale is in flight (R60), which the model tests after the form, though R60 has any further
SaleCommit answered BUSY (log entry 32, unsafe); a repeat of the last accepted serial and token is ACCEPTED again and
changes nothing; NO_QUOTE without the open quote it names; QUOTE_STALE discards the quote; SERIAL_OLD, PAYMENT_BLOCKED
and SALE_MISMATCH return it to open, or discard it once its lifetime has run out. -/
def Obligations.SaleCommitsAreRepeatedOrRefused : Prop :=
  ∀ (s : State) (line : LineId) (slot : Nat) (m : MachineRecord) (fl : LinkFields) (f : SaleFrame),
    s.calm = true → s.hears line slot m fl → m.request = none → f.machine = m.number →
      ((f.token = 0 ∨ 255 < f.token ∨ f.serial = 0 ∨ 999999 < f.serial ∨ 1 < f.payKind ∨
          (f.payKind = 0 ∧ f.tendered = 0)) →
        exec (.saleCommit line slot f) s =
          .next (s.requested line m.number fl .saleCommit (some Code.badRequest.plain))) ∧
      ∀ pay, saleForm f = some pay →
        (m.commit ≠ none →
          exec (.saleCommit line slot f) s =
            .next (s.requested line m.number fl .saleCommit (some Code.busy.plain))) ∧
        (m.commit = none → m.accepted = ⟨some f.serial, some f.token⟩ →
          exec (.saleCommit line slot f) s =
            .next (s.requested line m.number fl .saleCommit (some (acceptedAnswer f.token f.serial)))) ∧
        (m.commit = none → m.accepted ≠ ⟨some f.serial, some f.token⟩ →
          ((∀ q, m.openQuote = some q → q.token ≠ f.token) →
            exec (.saleCommit line slot f) s =
              .next (s.requested line m.number fl .saleCommit (some Code.noQuote.plain))) ∧
          ∀ q, m.openQuote = some q → q.token = f.token →
            (q.generation ≠ (s.zone q.zone).generation →
              exec (.saleCommit line slot f) s =
                .next ((s.requested line m.number fl .saleCommit (some Code.quoteStale.plain)).onMachine m.number
                  fun x => { x with openQuote := none })) ∧
            ∀ c : Code, q.generation = (s.zone q.zone).generation →
              (c = .serialOld ∧
                  (∃ last, m.accepted.serial = some last ∧
                    ((f.serial + 999999 - last) % 999999 = 0 ∨ 1000 < (f.serial + 999999 - last) % 999999)) ∨
                (∀ last, m.accepted.serial = some last →
                    1 ≤ (f.serial + 999999 - last) % 999999 ∧ (f.serial + 999999 - last) % 999999 ≤ 1000) ∧
                  (c = .paymentBlocked ∧
                      (pay ≠ q.pay ∨ m.allows pay = false ∨ (pay = .cash ∧ ∀ box, m.box ≠ .installed box)) ∨
                    c = .saleMismatch ∧ pay = .cash ∧ q.pay = .cash ∧ m.allows .cash = true ∧
                      (∃ box, m.box = .installed box) ∧
                      (f.coins = [] ∨ 8 < f.coins.length ∨ ¬(f.coins.map CoinPair.index).Nodup ∨
                        (∃ x ∈ f.coins, 7 < x.index ∨ x.count = 0 ∨ s.cash.denominations.get x.index = 0) ∨
                        (f.coins.map fun x => x.count * s.cash.denominations.get x.index).sum ≠ f.tendered ∨
                        q.price.amount ≠ f.tendered))) →
              exec (.saleCommit line slot f) s =
                .next ((s.requested line m.number fl .saleCommit (some c.plain)).onMachine m.number fun x =>
                  { x with
                    openQuote := if s.timers.lifetime ≤ (s.clock.counter - q.issued).toNat then none else some q }))

/-- A Card commit that passes checks 1 to 5 (03 R46 to R50, R53, R55, R57). In calm a sale at the Standard or Resident rate
is accepted at once, adding its cost and one sale to the card totals and leaving the tally; a visitor sale stays in flight
while its class-4 decrement, decided when it is granted, is asked of the store. While the hold is Granted or Interrupted a
visitor sale is refused PERMIT_UNAVAILABLE and its quote returned to open, at any backlog at which nothing else follows. A
decrement decides by the causes of 04 R65 for a Visitor at the current date, NOT_CURRENT while the clock is Unset, then by
the balance (04 R68). -/
def Obligations.CardSalesAreAcceptedOrDecremented : Prop :=
  (∀ (s : State) (w : DecrementWork),
    (∀ cause, permitCause (findPermit s.nv.permits w.permit) .visitor (s.clock.time.map ClockTime.date) w.zone =
      some cause → decideDecrement w s = .refused cause) ∧
    (∀ p, findPermit s.nv.permits w.permit = some p →
      (permitCause (some p) .visitor (s.clock.time.map ClockTime.date) w.zone = none →
        decideDecrement w s = if p.balance.getD 0 < w.minutes then .short else .taken) ∧
      (p.kind = .visitor → p.state = .active → s.clock.time = none →
        permitCause (some p) .visitor none w.zone = some .notCurrent))) ∧
  ∀ (s : State) (line : LineId) (slot : Nat) (m : MachineRecord) (fl : LinkFields) (f : SaleFrame) (q : OpenQuote)
    (gap : Bool),
    s.power = .running → s.steady → s.hears line slot m fl → m.request = none → f.machine = m.number →
    1 ≤ f.token → f.token ≤ 255 → 1 ≤ f.serial → f.serial ≤ 999999 → f.payKind = 1 →
    m.commit = none → m.accepted ≠ ⟨some f.serial, some f.token⟩ →
    m.openQuote = some q → q.token = f.token → q.generation = (s.zone q.zone).generation →
    (match m.accepted.serial with
      | none => gap = false
      | some last =>
        1 ≤ (f.serial + 999999 - last) % 999999 ∧ (f.serial + 999999 - last) % 999999 ≤ 1000 ∧
          gap = decide (2 ≤ (f.serial + 999999 - last) % 999999)) →
    q.pay = .card → m.allows .card = true →
      (∀ cost, s.calm = true → q.rate ≠ .visitor → q.price = .byTime cost →
        ∃ u : State,
          u = ((s.requested line m.number fl .saleCommit (some (acceptedAnswer f.token f.serial))).onMachine m.number
            fun x =>
              { x with
                openQuote := none
                cards := ⟨x.cards.amount + cost, x.cards.sales + 1⟩
                accepted := ⟨some f.serial, some f.token⟩ }) ∧
          exec (.saleCommit line slot f) s =
            .next { (if gap then raiseFault m.number .tallyGap u else u) with
              store := { s.store with dirty := s.store.dirty.set m.group true } }) ∧
      (∀ w : DecrementWork, s.calm = true → q.rate = .visitor →
        (s.permits.hold = .free ∨ s.permits.hold = .requested) →
        w = ⟨m.number, s.nextId, q.permit.getD 0, q.minutes, q.zone⟩ →
          exec (.saleCommit line slot f) s =
            .next { (s.requested line m.number fl .saleCommit none).onMachine m.number fun x =>
                { x with openQuote := none, commit := some ⟨s.nextId, f.token, f.serial, gap, q, false⟩ } with
              store :=
                match s.store.holder with
                | none =>
                  { s.store with
                    holder := some ⟨⟨.decrement w, 4, .nobody⟩, 0, true, .decision (decideDecrement w s)⟩ }
                | some _ => { s.store with queue := s.store.queue ++ [⟨.decrement w, 4, .nobody⟩] } }) ∧
      (q.rate = .visitor → (s.permits.hold = .granted ∨ s.permits.hold = .interrupted) →
        exec (.saleCommit line slot f) s =
          .next ((s.requested line m.number fl .saleCommit (some Code.permitUnavailable.plain)).onMachine m.number
            fun x =>
              { x with
                openQuote := if s.timers.lifetime ≤ (s.clock.counter - q.issued).toNat then none else some q }))

/-- A decrement's completion (03 R53, R54; 04 R68), in calm: the minutes decided on at its grant are taken from the
permit; the commit it serves is then accepted, or refused QUOTE_STALE with a balance return where its zone was activated
in flight; a permit no longer VALID or a balance too small refuses it; a commit discarded meanwhile is disregarded. The
return is asked before the array is granted again (log entry 9). -/
def Obligations.DecrementCompletionEndsTheVisitorSale : Prop :=
  ∀ (s : State) (h : Holder) (w : DecrementWork), s.completing h → h.op.work = .decrement w →
    ∀ taken : State → State,
      (taken = fun t =>
        { t with
          nv := { t.nv with
            permits := t.nv.permits.map fun p =>
              if p.number = w.permit then { p with balance := p.balance.map fun b => b - w.minutes } else p
            stamp := t.nv.stamp + 1 } }) →
      (∀ (m : MachineRecord) (c : CommitInFlight), s.machine? w.machine = some m → m.commit = some c → c.id = w.id →
        (∀ cost, h.data = .decision .taken → c.quote.generation = (s.zone c.quote.zone).generation →
          c.quote.price = .byTime cost →
            exec .decrementCompletion s =
              .next (s.whenDone fun t =>
                ((fun u => if c.gap then raiseFault w.machine .tallyGap u else u)
                  (giveReply w.machine c.id (acceptedAnswer c.token c.serial)
                    ((taken t).onMachine w.machine fun x =>
                      { x with
                        commit := none
                        cards := ⟨x.cards.amount + cost, x.cards.sales + 1⟩
                        accepted := ⟨some c.serial, some c.token⟩ }))).onStore
                  fun k => { k with dirty := k.dirty.set m.group true })) ∧
        (h.data = .decision .taken → c.quote.generation ≠ (s.zone c.quote.zone).generation →
          exec .decrementCompletion s =
            .next (s.whenDone fun t =>
              (fun u =>
                if s.permits.hold.closed then
                  { u with
                    permits := { u.permits with
                      waitingReturns := u.permits.waitingReturns ++ [⟨w.permit, w.minutes⟩] } }
                else
                  u.onStore fun k => { k with queue := k.queue ++ [⟨.giveBack ⟨w.permit, w.minutes⟩, 4, .nobody⟩] })
                (giveReply w.machine c.id Code.quoteStale.plain
                  ((taken t).onMachine w.machine fun x => { x with commit := none })))) ∧
        (∀ cause, h.data = .decision (.refused cause) →
          exec .decrementCompletion s =
            .next (s.whenDone fun t =>
              giveReply w.machine c.id (permitRefusedAnswer cause)
                (t.onMachine w.machine fun x => { x with commit := none }))) ∧
        (h.data = .decision .short →
          exec .decrementCompletion s =
            .next (s.whenDone fun t =>
              giveReply w.machine c.id Code.balanceChanged.plain
                (t.onMachine w.machine fun x => { x with commit := none })))) ∧
      ((∀ m c, s.machine? w.machine = some m → m.commit = some c → c.id ≠ w.id) →
        (h.data = .decision .taken → exec .decrementCompletion s = .next (s.whenDone taken)) ∧
        ((h.data = .decision .short ∨ ∃ cause, h.data = .decision (.refused cause)) →
          exec .decrementCompletion s = .next (s.whenDone fun t => t)))

/-! ## Permits and the hold -/

/-- The four permit commands (04 R62, R70 to R74). Out of form they are refused; in form a write is refused
HOLD_INTERRUPTED while the hold is Interrupted, at whatever backlog; otherwise its class-5 write, or in every state of the
hold the class-3 read of PermitRead, is asked of the store and PENDING is answered, in Running and in Flushing alike where
nothing else follows at the event. A PermitUpdate is in form where its number is in range, it carries a change, every value
carried is in range, the zone set is not empty and valid-from is not after valid-to; what it does not carry is absent from
the patch asked. A date is in range as 01 R4 gives. A PermitInsert with no balance present is taken whatever its balance
field holds, and one whose presence byte is neither 0 nor 1 is out of form (log entry 24). -/
def Obligations.PermitCommandsAskTheStore : Prop :=
  (∀ (a : DateArg) (d : Date),
    dateOfArg a = some d ↔ d = ⟨2000 + a.yy, a.mm, a.dd⟩ ∧ a.yy ≤ 99 ∧ 1 ≤ a.mm ∧ a.mm ≤ 12 ∧ 1 ≤ a.dd ∧
      a.dd ≤
        if a.mm = 2 then if a.yy % 4 = 0 then 29 else 28
        else if a.mm = 4 ∨ a.mm = 6 ∨ a.mm = 9 ∨ a.mm = 11 then 30
        else 31) ∧
  ∀ s : State, s.cabinetReady = true →
    (∀ (a : PermitArgs) (kind : PermitKind) (vf vt : Date) (st : PermitState),
      PermitKind.ofNumber a.kind = some kind → dateOfArg a.validFrom = some vf → dateOfArg a.validTo = some vt →
      PermitState.ofNumber a.state = some st → vf.key ≤ vt.key → 1 ≤ a.number → a.number ≤ 99999999 → 1 ≤ a.zones →
      a.zones ≤ 65535 →
        (kind = .resident → a.balancePresence = 1 →
          exec (.permitInsert a) s = .next { s with cabinet := s.cabinet.answered Code.wrongKind.plain }) ∧
        (kind = .visitor → (a.balancePresence = 0 ∨ 65535 < a.balance) → a.balancePresence ≤ 1 →
          exec (.permitInsert a) s = .next { s with cabinet := s.cabinet.answered Code.badRequest.plain }) ∧
        ((kind = .resident ∧ a.balancePresence = 0 ∨
            kind = .visitor ∧ a.balancePresence = 1 ∧ a.balance ≤ 65535) →
          (s.permits.hold = .interrupted →
            exec (.permitInsert a) s =
              .next { s with cabinet := s.cabinet.answered Code.holdInterrupted.plain }) ∧
          (s.permits.hold ≠ .interrupted → s.steady →
            exec (.permitInsert a) s =
              .next { s with
                store :=
                  s.store.asking
                    ⟨.permitInsert
                        ⟨a.number, kind, BitVec.ofNat 16 a.zones, vf, vt, st,
                          if kind = .visitor then some a.balance else none⟩,
                      5, .cabinet⟩
                cabinet := s.cabinet.awaiting }))) ∧
    (∀ a : PermitArgs,
      (a.number = 0 ∨ 99999999 < a.number ∨ a.zones = 0 ∨ 65535 < a.zones ∨ dateOfArg a.validFrom = none ∨
        dateOfArg a.validTo = none ∨ PermitKind.ofNumber a.kind = none ∨ PermitState.ofNumber a.state = none ∨
        1 < a.balancePresence ∨ (∃ vf vt, dateOfArg a.validFrom = some vf ∧ dateOfArg a.validTo = some vt ∧ vt.key < vf.key)) →
        exec (.permitInsert a) s = .next { s with cabinet := s.cabinet.answered Code.badRequest.plain }) ∧
    (∀ (a : PermitChange) (p : PermitPatch),
      p = ⟨a.number, a.state.bind PermitState.ofNumber,
        a.dates.bind fun d => (dateOfArg d.1).bind fun x => (dateOfArg d.2).map fun y => (x, y),
        a.zones.map (BitVec.ofNat 16), a.balance⟩ →
      ∀ sound : Prop,
        (sound ↔
          1 ≤ a.number ∧ a.number ≤ 99999999 ∧
            (a.state ≠ none ∨ a.dates ≠ none ∨ a.zones ≠ none ∨ a.balance ≠ none) ∧
            (∀ v, a.state = some v → v ≤ 2) ∧
            (∀ d, a.dates = some d →
              ∃ vf vt, dateOfArg d.1 = some vf ∧ dateOfArg d.2 = some vt ∧ vf.key ≤ vt.key) ∧
            (∀ z, a.zones = some z → 1 ≤ z ∧ z ≤ 65535) ∧ (∀ b, a.balance = some b → b ≤ 65535)) →
        (¬sound →
          exec (.permitUpdate a) s = .next { s with cabinet := s.cabinet.answered Code.badRequest.plain }) ∧
        (sound →
        (s.permits.hold = .interrupted →
          exec (.permitUpdate a) s =
            .next { s with cabinet := s.cabinet.answered Code.holdInterrupted.plain }) ∧
        (s.permits.hold ≠ .interrupted → s.steady →
          exec (.permitUpdate a) s =
            .next { s with
              store := s.store.asking ⟨.permitUpdate p, 5, .cabinet⟩, cabinet := s.cabinet.awaiting }))) ∧
    ∀ n : Nat,
      ((n = 0 ∨ 99999999 < n) →
        exec (.permitDelete n) s = .next { s with cabinet := s.cabinet.answered Code.badRequest.plain } ∧
        exec (.permitRead n) s = .next { s with cabinet := s.cabinet.answered Code.badRequest.plain }) ∧
      (1 ≤ n → n ≤ 99999999 →
        (s.permits.hold = .interrupted →
          exec (.permitDelete n) s =
            .next { s with cabinet := s.cabinet.answered Code.holdInterrupted.plain }) ∧
        (s.permits.hold ≠ .interrupted → s.steady →
          exec (.permitDelete n) s =
            .next { s with
              store := s.store.asking ⟨.permitDelete n, 5, .cabinet⟩, cabinet := s.cabinet.awaiting }) ∧
        (s.steady →
          exec (.permitRead n) s =
            .next { s with
              store := s.store.reading ⟨.permitRead n, 3, .cabinet⟩, cabinet := s.cabinet.awaiting }))

/-- The completions of permit operations (04 R63, R69 to R74; 08 R159), in calm: the table checks refuse or the table
changes with the next order stamp; an insertion keeps the ascending order, an update replaces the fields it carries, a
deletion removes the record, a read returns it, laid out as the arguments of PermitInsert with its balance for a Visitor
(12 R204), its kind and its state numbered in the order of their table (log entry 17); a return adds to a Visitor balance,
saturating at 65535, and finds nothing to add to elsewhere. -/
def Obligations.PermitCompletionsChangeTheTable : Prop :=
  ∀ s : State,
    ∀ refused : Code → State → State,
      (refused = fun c t => { t with cabinet := { t.cabinet with result := .final c.plain } }) →
    ∀ stored : List Permit → State → State,
      (stored = fun table t =>
        { t with
          nv := { t.nv with permits := table, stamp := t.nv.stamp + 1 }
          cabinet := { t.cabinet with result := .final Code.done.plain } }) →
    (∀ (h : Holder) (cls : Nat), s.completing h →
      (∀ p, h.op = ⟨.permitInsert p, cls, .cabinet⟩ →
        (findPermit s.nv.permits p.number ≠ none →
          exec .permitWriteCompletion s = .next (s.whenDone (refused .duplicate))) ∧
        (findPermit s.nv.permits p.number = none →
          (4096 ≤ s.nv.permits.length →
            exec .permitWriteCompletion s = .next (s.whenDone (refused .tableFull))) ∧
          (s.nv.permits.length < 4096 →
            ∃ table, exec .permitWriteCompletion s = .next (s.whenDone (stored table)) ∧
              (∀ x, x ∈ table ↔ x = p ∨ x ∈ s.nv.permits) ∧
              ((s.nv.permits.map Permit.number).Pairwise (· < ·) →
                (table.map Permit.number).Pairwise (· < ·))))) ∧
      (∀ u : PermitPatch, h.op = ⟨.permitUpdate u, cls, .cabinet⟩ →
        (findPermit s.nv.permits u.number = none →
          exec .permitWriteCompletion s = .next (s.whenDone (refused .notFound))) ∧
        ∀ p, findPermit s.nv.permits u.number = some p →
          (u.balance ≠ none → p.kind = .resident →
            exec .permitWriteCompletion s = .next (s.whenDone (refused .wrongKind))) ∧
          ((u.balance = none ∨ p.kind = .visitor) → p.state = .revoked → u.state ≠ none → u.state ≠ some .revoked →
            exec .permitWriteCompletion s = .next (s.whenDone (refused .revoked))) ∧
          ((u.balance = none ∨ p.kind = .visitor) →
            (p.state ≠ .revoked ∨ u.state = none ∨ u.state = some .revoked) →
            exec .permitWriteCompletion s =
              .next (s.whenDone (stored (s.nv.permits.map fun x =>
                if x.number = p.number then
                  { p with
                    state := u.state.getD p.state
                    zones := u.zones.getD p.zones
                    validFrom := (u.dates.getD (p.validFrom, p.validTo)).1
                    validTo := (u.dates.getD (p.validFrom, p.validTo)).2
                    balance := if u.balance = none then p.balance else u.balance }
                else x))))) ∧
      (∀ n : Nat, h.op = ⟨.permitDelete n, cls, .cabinet⟩ →
        (findPermit s.nv.permits n = none →
          exec .permitWriteCompletion s = .next (s.whenDone (refused .notFound))) ∧
        (findPermit s.nv.permits n ≠ none →
          exec .permitWriteCompletion s =
            .next (s.whenDone (stored (s.nv.permits.filter fun x => x.number != n))))) ∧
      ∀ (r : Return) (asker : Requester), h.op = ⟨.giveBack r, cls, asker⟩ →
        (∀ p, findPermit s.nv.permits r.permit = some p → p.kind = .visitor →
          exec .returnCompletion s =
            .next (s.whenDone fun t =>
              { t with
                nv := { t.nv with
                  permits := t.nv.permits.map fun x =>
                    if x.number = r.permit ∧ x.kind = .visitor then
                      { x with balance := x.balance.map fun b => min (b + r.minutes) 65535 }
                    else x
                  stamp := t.nv.stamp + 1 } })) ∧
        ((∀ p, findPermit s.nv.permits r.permit = some p → p.kind = .resident) →
          exec .returnCompletion s = .next (s.whenDone fun t => t))) ∧
    ∀ (n cls : Nat), s.performing ⟨.permitRead n, cls, .cabinet⟩ →
      (findPermit s.nv.permits n = none →
        exec .permitReadCompletion s = .next (s.whenDone (refused .notFound))) ∧
      ∀ p, findPermit s.nv.permits n = some p →
        ∃ record : List Byte,
          record =
            byte4 p.number ++ byte1 (match p.kind with | .resident => 0 | .visitor => 1) ++ byte2 p.zones.toNat ++
              dateBytes (some p.validFrom) ++ dateBytes (some p.validTo) ++
              byte1 (match p.state with | .active => 0 | .suspended => 1 | .revoked => 2) ++
              (match p.balance with
                | none => byte1 0 ++ byte2 0
                | some b => byte1 1 ++ byte2 b) ∧
          record.length = 17 ∧
          exec .permitReadCompletion s =
            .next (s.whenDone fun t =>
              { t with cabinet := { t.cabinet with result := .final ⟨Code.done.byte, record⟩ } })

/-- The bulk-load hold (04 R75, R76, R79, R80; 10 R184), at any backlog, in Running and in Flushing alike where nothing else
follows at the event: a request in Free is granted at once while no permit-table program is in progress and the backlog is
below 3, and else waits for its grant event; a grant records its start, marks the lookups in flight UNVERIFIED and writes
HoldGranted; a release or a time-out, from Granted and from Interrupted, frees the hold and passes the waiting returns to
the store in their order, the time-out with HoldEnded; HOLD_ACTIVE, in Requested, Granted and Interrupted, and NOT_HELD are
the refusals. An event whose condition does not hold changes nothing (log entry 10). -/
def Obligations.HoldIsRequestedGrantedAndEnded : Prop :=
  ∀ s : State,
    ∀ granted : State → State,
      (granted = fun t =>
        { t with
          permits := { t.permits with hold := .granted, holdStart := some t.clock.counter }
          store := unverifyLookups t.store
          notices := (notify (holdGrantedNotice false) t).notices }) →
    ∀ freed : State → State,
      (freed = fun t =>
        { t with
          permits := ⟨.free, none, []⟩
          store := t.permits.waitingReturns.foldl (fun k r => k.asking ⟨.giveBack r, 4, .nobody⟩) t.store }) →
    (s.cabinetReady = true →
      ((s.permits.hold = .requested ∨ s.permits.hold = .granted ∨ s.permits.hold = .interrupted) →
        exec .holdRequest s = .next { s with cabinet := s.cabinet.answered Code.holdActive.plain } ∧
        (s.steady →
          exec .holdRelease s = .next (freed { s with cabinet := s.cabinet.answered Code.done.plain }))) ∧
      (s.permits.hold = .free →
        exec .holdRelease s = .next { s with cabinet := s.cabinet.answered Code.notHeld.plain } ∧
        (s.steady → (s.store.permitProgram = true ∨ 3 ≤ s.store.backlog) →
          exec .holdRequest s =
            .next { s with
              permits := { s.permits with hold := .requested }
              cabinet := s.cabinet.answered Code.done.plain }) ∧
        (s.steady → s.store.permitProgram = false → s.store.backlog < 3 →
          exec .holdRequest s = .next (granted { s with cabinet := s.cabinet.answered Code.done.plain })))) ∧
    (s.permits.hold = .requested → s.store.permitProgram = false → s.store.backlog < 3 →
      exec .holdGrant s = .next (granted s)) ∧
    ((s.permits.hold ≠ .requested ∨ s.store.permitProgram = true ∨ 3 ≤ s.store.backlog) →
      exec .holdGrant s = .next s) ∧
    (∀ start, (s.permits.hold = .granted ∨ s.permits.hold = .interrupted) → s.permits.holdStart = some start →
      (s.steady → s.timers.holdLimit * 60 ≤ (s.clock.counter - start).toNat →
        exec .holdTimeout s = .next { freed s with notices := (notify holdEndedNotice s).notices }) ∧
      ((s.clock.counter - start).toNat < s.timers.holdLimit * 60 → exec .holdTimeout s = .next s))

/-! ## Boxes and drops -/

/-- BoxRemoved (05 R86 to R90, R93, R94, R99), in calm. From Installed a tally with cash, where no drop is held, is
emptied into a drop record with the next number and the next place, the first free one in circular order (log entry 28),
or into the held drop while the ring is full; a Pending entry of the open round becomes BoxOut and the cash joins the
round; the box is Out; one class-2 write records it all and will answer the request. The faults follow in the order of
the steps (log entry 18): CASH_TAMPER raised where the removal is unscheduled, BOX_OUT raised, BOX_NEAR_FULL and
BOX_FULL cleared, DROP_HELD raised for a held drop. From Out the last removal result is answered again, and from a box
Unknown, which no run reaches, as well (log entry 30); a result of none has no code in the manual, and a free value of
the model stands in for it (log entry 8). -/
def Obligations.BoxRemovalEmptiesTheTally : Prop :=
  ∀ (s : State) (line : LineId) (slot : Nat) (m : MachineRecord) (fl : LinkFields),
    s.calm = true → s.hears line slot m fl → m.request = none →
      (∀ (box place : Nat) (takes stored scheduled : Bool) (snap : Snapshot) (number : Nat), m.box = .installed box →
        takes = (decide (0 < m.tally.cash) && m.heldDrop.isNone) →
        stored = (takes && decide (s.cash.placesTaken < 256)) → (stored = true → s.takes place) →
        scheduled = decide (s.openEntry? m.number = some .pending) →
        number = (if 65535 ≤ s.cash.dropCounter then 1 else s.cash.dropCounter + 1) →
        snap = ⟨m.number, if scheduled then s.cash.round.map Round.number else none, box, s.now, m.tally.counts,
          m.tally.cash, m.tally.unitemised, m.tally.sales, m.tally.first, m.tally.last⟩ →
          ∃ (removal : Removal) (round : Option Round) (u v w : State),
            removal = (if stored then .recorded number else if 0 < m.tally.cash then .held else .noDrop) ∧
            round =
              (if scheduled then
                s.cash.round.map fun r =>
                  { r with
                    cash := r.cash + (if takes then m.tally.cash else 0)
                    entries := r.entries.map fun e =>
                      if e.machine = m.number then
                        { e with state := .boxOut, drop := if stored then some number else e.drop }
                      else e }
              else s.cash.round) ∧
            u = ((s.requested line m.number fl .boxRemoved none).onMachine m.number fun x =>
              { x with
                box := .out
                tally := if takes then emptyTally else x.tally
                heldDrop := if takes && !stored then some snap else x.heldDrop
                removal := removal }) ∧
            v = (if scheduled then u else raiseFault m.number .cashTamper u) ∧
            w = clearFault m.number .boxFull .removed
              (clearFault m.number .boxNearFull .removed (raiseFault m.number .boxOut v)) ∧
            exec (.boxRemoved line slot m.number) s =
              .next { (if takes && !stored then raiseFault m.number .dropHeld w else w) with
                cash := { s.cash with
                  nextPlace := if stored then (place + 1) % 256 else s.cash.nextPlace
                  placesTaken := if stored then s.cash.placesTaken + 1 else s.cash.placesTaken
                  dropCounter := if stored then number else s.cash.dropCounter
                  round := round }
                store :=
                  { s.store.taking
                      ⟨.boxWrite
                          { machine := m.number
                            id := s.nextId
                            drop := if stored then some (place, ⟨number, snap⟩) else none
                            snapshot := takes
                            heldMade := if takes && !stored then some snap else none
                            round := if round = s.cash.round then none else round
                            recorded := .out
                            removal := removal
                            answer := some (boxAnswer 0 removal none) },
                        2, .nobody⟩ with
                    dirty := if takes then s.store.dirty.set m.group true else s.store.dirty } }) ∧
      ((∀ box, m.box ≠ .installed box) →
        (m.removal ≠ .nothing →
          exec (.boxRemoved line slot m.number) s =
            .next (s.requested line m.number fl .boxRemoved (some (boxAnswer 0 m.removal none)))) ∧
        (m.removal = .nothing →
          ∃ unstated : Byte,
            exec (.boxRemoved line slot m.number) s =
              .next { s.requested line m.number fl .boxRemoved (some ⟨unstated, [0, 0, 0, 0]⟩) with
                freeCount := s.freeCount + 1 }))

/-- BoxInserted (05 R91, R92, R99, R101), in calm. With the box Out it is Installed and BOX_OUT cleared; an id of 0 or
one Installed in another machine raises BOX_CONFLICT and is answered CONFLICT, others INSTALLED; a BoxOut entry of the
open round becomes Collected, and the round closes with its notice, written last (log entry 18), when every entry has
ended; one class-2 write records it and will answer. The id already Installed is a repeat: answered at once and nothing
recorded. Another id is a removal, with all that BoxRemoved does, and an insertion at one event, with one write and an
answer of both parts; a Pending entry is then Collected. -/
def Obligations.BoxInsertionInstallsTheBox : Prop :=
  ∀ (s : State) (line : LineId) (slot : Nat) (m : MachineRecord) (fl : LinkFields) (box : Nat),
    s.calm = true → s.hears line slot m fl → m.request = none →
      (m.box = .installed box →
        exec (.boxInserted line slot m.number box) s =
          .next (s.requested line m.number fl .boxInserted
            (some (boxAnswer 0 .nothing (some (m.faults.active .boxConflict)))))) ∧
      ∀ conflict : Bool,
        (conflict = true ↔ box = 0 ∨ ∃ x ∈ s.machines, x.number ≠ m.number ∧ x.box = .installed box) →
        (m.box = .out →
          ∀ (joins closes : Bool),
            joins = decide (s.openEntry? m.number = some .boxOut) →
            closes = (joins && s.cash.round.any fun r => r.entries.all fun e =>
              decide (e.machine = m.number ∨ e.state ≠ .pending ∧ e.state ≠ .boxOut)) →
            ∃ (round : Option Round) (u v w : State),
              round =
                (if joins then
                  s.cash.round.map fun r =>
                    { r with
                      isOpen := !closes
                      entries := r.entries.map fun e =>
                        if e.machine = m.number then { e with state := .collected } else e }
                else s.cash.round) ∧
              u = ((s.requested line m.number fl .boxInserted none).onMachine m.number fun x =>
                { x with box := .installed box }) ∧
              v = clearFault m.number .boxOut .inserted u ∧
              w = (if conflict then raiseFault m.number .boxConflict v else v) ∧
              exec (.boxInserted line slot m.number box) s =
                .next { (round.elim w fun r => if closes then notify (roundClosedNotice r) w else w) with
                  cash := { s.cash with round := round }
                  store :=
                    s.store.taking
                      ⟨.boxWrite
                          { machine := m.number
                            id := s.nextId
                            drop := none
                            snapshot := false
                            heldMade := none
                            round := if joins then round else none
                            recorded := .installed box
                            removal := m.removal
                            answer := some (boxAnswer 0 .nothing (some conflict)) },
                        2, .nobody⟩ }) ∧
        ∀ (old place : Nat) (takes stored scheduled closes : Bool) (snap : Snapshot) (number : Nat),
          m.box = .installed old → old ≠ box → s.openEntry? m.number ≠ some .boxOut →
          takes = (decide (0 < m.tally.cash) && m.heldDrop.isNone) →
          stored = (takes && decide (s.cash.placesTaken < 256)) → (stored = true → s.takes place) →
          scheduled = decide (s.openEntry? m.number = some .pending) →
          closes = (scheduled && s.cash.round.any fun r => r.entries.all fun e =>
            decide (e.machine = m.number ∨ e.state ≠ .pending ∧ e.state ≠ .boxOut)) →
          number = (if 65535 ≤ s.cash.dropCounter then 1 else s.cash.dropCounter + 1) →
          snap = ⟨m.number, if scheduled then s.cash.round.map Round.number else none, old, s.now, m.tally.counts,
            m.tally.cash, m.tally.unitemised, m.tally.sales, m.tally.first, m.tally.last⟩ →
            ∃ (removal : Removal) (round : Option Round) (u v w x y : State),
              removal = (if stored then .recorded number else if 0 < m.tally.cash then .held else .noDrop) ∧
              round =
                (if scheduled then
                  s.cash.round.map fun r =>
                    { r with
                      isOpen := !closes
                      cash := r.cash + (if takes then m.tally.cash else 0)
                      entries := r.entries.map fun e =>
                        if e.machine = m.number then
                          { e with state := .collected, drop := if stored then some number else e.drop }
                        else e }
                else s.cash.round) ∧
              u = ((s.requested line m.number fl .boxInserted none).onMachine m.number fun x =>
                { x with
                  box := .installed box
                  tally := if takes then emptyTally else x.tally
                  heldDrop := if takes && !stored then some snap else x.heldDrop
                  removal := removal }) ∧
              v = (if scheduled then u else raiseFault m.number .cashTamper u) ∧
              w = clearFault m.number .boxFull .removed
                (clearFault m.number .boxNearFull .removed (raiseFault m.number .boxOut v)) ∧
              x = clearFault m.number .boxOut .inserted
                (if takes && !stored then raiseFault m.number .dropHeld w else w) ∧
              y = (if conflict then raiseFault m.number .boxConflict x else x) ∧
              exec (.boxInserted line slot m.number box) s =
                .next { (round.elim y fun r => if closes then notify (roundClosedNotice r) y else y) with
                  cash := { s.cash with
                    nextPlace := if stored then (place + 1) % 256 else s.cash.nextPlace
                    placesTaken := if stored then s.cash.placesTaken + 1 else s.cash.placesTaken
                    dropCounter := if stored then number else s.cash.dropCounter
                    round := round }
                  store :=
                    { s.store.taking
                        ⟨.boxWrite
                            { machine := m.number
                              id := s.nextId
                              drop := if stored then some (place, ⟨number, snap⟩) else none
                              snapshot := takes
                              heldMade := if takes && !stored then some snap else none
                              round := if scheduled then round else none
                              recorded := .installed box
                              removal := removal
                              answer := some (boxAnswer 0 removal (some conflict)) },
                          2, .nobody⟩ with
                      dirty := if takes then s.store.dirty.set m.group true else s.store.dirty } }

/-- The write of a box event completes (05 R87, R93, R94; 08 R149, R159), in calm: the machine's box record, the drop's
record in its place, unfetched, and the round record are in the store with the next order stamp, DropRecorded is written
for a drop, and the request is answered; a held drop is recorded unless it has been written meanwhile. The write of a
held drop completes (05 R96): its record is in its place and the box record holds it no longer, the machine neither;
DropRecorded is written, then DROP_HELD is cleared (log entry 18). The place of the next write and the drop counter of
the store do not go back where the write of a drop numbered later has completed first (log entry 28). -/
def Obligations.BoxAndHeldDropWritesComplete : Prop :=
  ∀ (s : State) (h : Holder), s.completing h →
    ∀ withDrop : Nat → DropRecord → NvArray → NvArray,
      (withDrop = fun place record v =>
        { v with
          places := ⟨place, record, false⟩ :: v.places.filter fun x => x.place != place
          nextPlace :=
            if (record.number + 65535 - v.dropCounter) % 65535 < 32768 then (place + 1) % 256 else v.nextPlace
          dropCounter :=
            if (record.number + 65535 - v.dropCounter) % 65535 < 32768 then record.number else v.dropCounter }) →
    ∀ old : Nat → BoxRecord,
      (∀ n, old n = (s.nv.boxes.find? fun b => b.machine == n).getD ⟨n, .nothing, .nothing, none, 0, 0⟩) →
    (∀ w : BoxWork, h.op.work = .boxWrite w →
      ∃ u v : State,
        u = { s with
          store := s.store.ending
          nv := { s.nv with
            stamp := s.nv.stamp + 1
            boxes :=
              ⟨w.machine, w.recorded, w.removal,
                  if w.heldMade ≠ none ∧ (s.machine? w.machine).bind MachineRecord.heldDrop = w.heldMade then w.heldMade
                  else (old w.machine).held,
                  if w.snapshot then s.nv.stamp + 1 else (old w.machine).snapshotStamp, s.nv.stamp + 1⟩ ::
                s.nv.boxes.filter fun b => b.machine != w.machine
            round := if w.round = none then s.nv.round else w.round } } ∧
        v =
          (match w.drop with
            | none => u
            | some (place, record) =>
              notify (dropRecordedNotice record) { u with nv := withDrop place record u.nv }) ∧
        exec .boxWriteCompletion s =
          .next (v.onMachine w.machine fun x =>
            { x with
              recorded := w.recorded
              request :=
                x.request.map fun r =>
                  if r.id = w.id ∧ w.answer ≠ none then { r with reply := w.answer } else r }).arrayFreed) ∧
    ∀ w : HeldWork, h.op.work = .heldWrite w →
      ∃ u : State,
        u = { s.onMachine w.machine fun x => { x with heldDrop := none, heldAsked := none } with
          store := s.store.ending
          nv := withDrop w.place w.record { s.nv with
            stamp := s.nv.stamp + 1
            boxes :=
              { old w.machine with held := none, stamp := s.nv.stamp + 1 } ::
                s.nv.boxes.filter fun b => b.machine != (old w.machine).machine } } ∧
        exec .heldDropWriteCompletion s =
          .next (clearFault w.machine .dropHeld .dropWritten (notify (dropRecordedNotice w.record) u)).arrayFreed

/-- FetchDrop (05 R94 to R96; 10 R184), in calm: EMPTY with no unfetched record; otherwise the class-3 read of the
oldest one is asked and PENDING answered; the oldest is the one whose number was given the longest time ago, which the
model computes and does not hold (log entry 12). The read's completion asks the class-2 marking before the array is
granted again (log entry 9). The marking's completion marks the record fetched, frees its place and gives the record, in
the 45 bytes of 12 R205, as the Result; then the held drop of the lowest-numbered machine that has one whose write has not
been asked is written, in class 2. A total beyond its field is carried by its low-order bytes (log entry 19). -/
def Obligations.FetchDropReadsMarksAndFrees : Prop :=
  ∀ s : State, s.calm = true →
    (s.cabinetReady = true → (∀ p ∈ s.nv.places, p.fetched = true) →
      exec .fetchDrop s = .next { s with cabinet := s.cabinet.answered Code.empty.plain }) ∧
    (∀ p ∈ s.nv.places, s.cabinetReady = true → p.fetched = false →
      (∀ q ∈ s.nv.places, q.fetched = false → q ≠ p →
        (s.cash.dropCounter + 65535 - q.record.number) % 65535 <
          (s.cash.dropCounter + 65535 - p.record.number) % 65535) →
        exec .fetchDrop s =
          .next { s with
            cash := { s.cash with fetching := some p.place }
            store := s.store.reading ⟨.fetchRead p.place, 3, .cabinet⟩
            cabinet := s.cabinet.awaiting }) ∧
    (∀ place, s.performing ⟨.fetchRead place, 3, .cabinet⟩ → s.store.holder ≠ none →
      exec .fetchDropReadCompletion s =
        .next (s.whenDone fun t =>
          { t with store := { t.store with queue := t.store.queue ++ [⟨.fetchMark place, 2, .cabinet⟩] } })) ∧
    ∀ (h : Holder) (p : DropPlace) (u : State) (record : List Byte) (x : Snapshot), s.completing h →
      h.op = ⟨.fetchMark p.place, 2, .cabinet⟩ → s.nv.placeAt? p.place = some p → x = p.record.snapshot →
      record =
        byte2 p.record.number ++ byte2 x.machine ++ byte2 (x.round.getD 0) ++ byte2 x.box ++ momentBytes x.time ++
          [0, 1, 2, 3, 4, 5, 6, 7].flatMap (fun i => byte2 (x.counts.get i)) ++ byte4 x.cash ++ byte4 x.unitemised ++
          byte2 x.sales ++ byte3 (x.first.getD 0) ++ byte3 (x.last.getD 0) →
      u = { s with
        store := s.store.ending
        cash := { s.cash with fetching := none, placesTaken := s.cash.placesTaken - 1 }
        nv := { s.nv with
          places := s.nv.places.map fun x => if x.place = p.place then { x with fetched := true } else x
          stamp := s.nv.stamp + 1 }
        cabinet := { s.cabinet with result := .final ⟨Code.done.byte, record⟩ } } →
        record.length = 45 ∧
        ((∀ m ∈ s.machines, m.heldDrop = none ∨ m.heldAsked ≠ none) →
          exec .fetchDropMarkingCompletion s = .next u.arrayFreed) ∧
        ∀ (m : MachineRecord) (snap : Snapshot) (place : Nat),
          (s.machines.map MachineRecord.number).Pairwise (· < ·) → m ∈ s.machines → m.heldDrop = some snap →
          m.heldAsked = none → (∀ x ∈ s.machines, x.heldDrop ≠ none → x.heldAsked = none → m.number ≤ x.number) →
          s.cash.placesTaken ≤ 256 → s.warning = false → s.restartAsked = false → u.takes place →
            exec .fetchDropMarkingCompletion s =
              .next (u.heldDropAsked m.number snap place 2 .nobody).arrayFreed

/-- SetDenominations, ClearCardTotals and ReadMachine (05 R82, R84, R85; 12 R204), in calm: a value above 50000 or a
machine number outside 1 to 999 is BAD_REQUEST, a change of a denomination with coins on account IN_USE, a machine not
registered NOT_FOUND; otherwise the values take effect and a class-5 write records them; the card totals are returned
and zeroed, the group marked dirty; the machine's state is returned, every field in its place, and nothing changes.
Permitted line, fitted kinds and link state are numbered in the order of their tables and the line is 0 for A and 1 for B
(log entry 17), the last removal result is numbered as at the round port (log entry 65), a total beyond its field is carried
by its low-order bytes (log entry 19), and a fault entry's active byte is 1 or 0 (log entry 62). The entries not fresh
stand in kind-number order (06 R124). -/
def Obligations.CashCommandsAnswer : Prop :=
  ∀ s : State, s.calm = true → s.cabinetReady = true →
    (∀ values : Octet Nat,
      ((∃ i < 8, 50000 < values.get i) →
        exec (.setDenominations values) s = .next { s with cabinet := s.cabinet.answered Code.badRequest.plain }) ∧
      ((∀ i < 8, values.get i ≤ 50000) →
        ∀ held : Nat → Bool,
          (∀ i < 8, held i = true ↔ ∃ m ∈ s.machines, 0 < m.tally.counts.get i ∨
            ∃ d, m.heldDrop = some d ∧ 0 < d.counts.get i) →
          ((∃ i < 8, held i = true ∧ values.get i ≠ s.cash.denominations.get i) →
            exec (.setDenominations values) s = .next { s with cabinet := s.cabinet.answered Code.inUse.plain }) ∧
          ((∀ i < 8, held i = true → values.get i = s.cash.denominations.get i) →
            exec (.setDenominations values) s =
              .next { s with
                cash := { s.cash with denominations := values }
                store := s.store.taking ⟨.table (.denominations values), 5, .cabinet⟩
                cabinet := s.cabinet.awaiting }))) ∧
    ∀ n : Nat,
      ((n = 0 ∨ 999 < n) →
        exec (.clearCardTotals n) s = .next { s with cabinet := s.cabinet.answered Code.badRequest.plain } ∧
        exec (.readMachine n) s = .next { s with cabinet := s.cabinet.answered Code.badRequest.plain }) ∧
      (1 ≤ n → n ≤ 999 → s.machine? n = none →
        exec (.clearCardTotals n) s = .next { s with cabinet := s.cabinet.answered Code.notFound.plain } ∧
        exec (.readMachine n) s = .next { s with cabinet := s.cabinet.answered Code.notFound.plain }) ∧
      ∀ m, 1 ≤ n → n ≤ 999 → s.machine? n = some m →
        exec (.clearCardTotals n) s =
          .next { s.onMachine n fun x => { x with cards := ⟨0, 0⟩ } with
            store := { s.store with dirty := s.store.dirty.set m.group true }
            cabinet :=
              s.cabinet.answered ⟨Code.done.byte, byte4 m.cards.amount ++ byte4 m.cards.sales⟩ } ∧
        ∃ (data : List Byte) (kinds : List FaultKind),
          exec (.readMachine n) s = .next { s with cabinet := s.cabinet.answered ⟨Code.done.byte, data⟩ } ∧
          (∀ k : FaultKind, k ∈ kinds ↔ m.faults.get k ≠ ⟨false, none, none, 0, none⟩) ∧
          (kinds.map FaultKind.number).Pairwise (· < ·) ∧ data.length = 74 + 18 * kinds.length ∧
          data =
            byte2 n ++ byte1 m.reg.zone ++
            byte1 (match m.reg.permitted with | .lineA => 0 | .lineB => 1 | .either => 2) ++
            byte2 m.reg.capacity ++ byte2 m.reg.margin ++
            byte1 (match m.reg.fitted with | .cash => 0 | .card => 1 | .both => 2) ++ byte1 (m.reg.position / 8) ++
            (match m.link with
              | .absent => byte1 0 ++ byte1 255 ++ byte1 0
              | .active f => byte1 1 ++ byte1 (match f.line with | .a => 0 | .b => 1) ++ byte1 f.slot
              | .silent f => byte1 2 ++ byte1 (match f.line with | .a => 0 | .b => 1) ++ byte1 f.slot) ++
            [0, 1, 2, 3, 4, 5, 6, 7].flatMap (fun i => byte2 (m.tally.counts.get i)) ++
            byte4 m.tally.cash ++ byte4 m.tally.unitemised ++ byte2 m.tally.sales ++ byte2 m.tally.coins ++
            byte3 (m.tally.first.getD 0) ++ byte3 (m.tally.last.getD 0) ++
            byte4 m.cards.amount ++ byte4 m.cards.sales ++
            (match m.box with
              | .unknown => byte1 0 ++ byte2 0
              | .installed id => byte1 1 ++ byte2 id
              | .out => byte1 2 ++ byte2 0) ++
            (match m.removal with
              | .nothing => byte1 0 ++ byte2 0
              | .recorded d => byte1 1 ++ byte2 d
              | .held => byte1 2 ++ byte2 0
              | .noDrop => byte1 3 ++ byte2 0) ++
            (match m.heldDrop with
              | none => byte1 0 ++ byte4 0
              | some d => byte1 1 ++ byte4 d.cash) ++
            byte3 (m.accepted.serial.getD 0) ++ byte1 (m.accepted.token.getD 0) ++
            byte1
              (match s.cash.round.bind fun r => r.entries.find? fun e => e.machine == n with
                | none => 0
                | some e => e.state.number) ++
            byte1 m.service.number ++
            byte1
              ((if m.flags.heldOut then 1 else 0) + (if m.flags.forceCardOnly then 2 else 0) +
                (if m.flags.noRound then 4 else 0)) ++
            byte1 kinds.length ++
            kinds.flatMap fun k =>
              byte1 k.number ++ byte1 (if (m.faults.get k).active then 1 else 0) ++ byte1 (m.faults.get k).count ++
              momentBytes (m.faults.get k).firstRaised ++ momentBytes (m.faults.get k).lastRaised ++
              momentBytes (m.faults.get k).lastCleared

/-! ## Rounds -/

/-- RoundOpen at either port (05 R97, R98; 09 R177), in calm: ROUND_OPEN while a round is open; BAD_LIST for a list that
is empty, above 64, repeats a machine or names one not registered; EMPTY at the round port with no machine free of
NO_ROUND; otherwise the round takes the next number, 1 after 65535, its entries Pending with no drop, and one class-2
write records it before the port is answered. -/
def Obligations.RoundsAreOpened : Prop :=
  ∀ (s : State) (p : FromPort) (c : Instr) (machines : List Nat), s.calm = true →
    (p = .cabinet ∧ c = .roundOpen machines ∧ s.cabinetReady = true ∨
      p = .roundPort ∧ (∃ key, c = .roundPortOpen key .carriageReturn ∧ readKey key ≠ .off) ∧ s.typed .o none none ∧
        machines = (s.machines.filter fun m => !m.flags.noRound).map MachineRecord.number) →
      (∀ r, s.cash.round = some r → r.isOpen = true → exec c s = .next (s.refusedAt p .roundOpen)) ∧
      ((∀ r, s.cash.round = some r → r.isOpen = false) →
        (p = .cabinet →
          (machines = [] ∨ 64 < machines.length ∨ (∃ n ∈ machines, s.machine? n = none) ∨ ¬machines.Nodup) →
            exec c s = .next (s.refusedAt p .badList)) ∧
        (p = .roundPort → machines = [] → exec c s = .next (s.refusedAt p .empty)) ∧
        (machines ≠ [] →
          (p = .roundPort ∨ machines.length ≤ 64 ∧ (∀ n ∈ machines, s.machine? n ≠ none) ∧ machines.Nodup) →
            ∀ r : Round,
              r =
                { number :=
                    if 65535 ≤ (s.cash.round.map Round.number).getD 0 then 1
                    else (s.cash.round.map Round.number).getD 0 + 1
                  isOpen := true
                  openedBy := if p = .cabinet then .cabinet else .roundPort
                  openedAt := s.now
                  cash := 0
                  entries := machines.map fun n => ⟨n, .pending, none⟩ } →
              exec c s =
                .next (State.withheldAt p [r.number, machines.length] { s with
                  cash := { s.cash with round := some r }
                  store := s.store.taking ⟨.roundWrite (some r), 2, p.requester⟩ })))

/-- RoundSkip, RoundClose and the forced close at either port (05 R97, R100 to R103; 09 R178, R179), in calm:
ROUND_CLOSED with no open round; a skip of a machine with no entry is NOT_FOUND, of one not Pending ENTRY_STATE, and the
cabinet's number has no other check (log entry 47); a close with a BoxOut entry is ROUND_BUSY, a cabinet close with an
argument above 1 BAD_REQUEST (log entry 23); otherwise entries change, the round closes with its notice once every entry
has ended, and one class-2 write records it before the port is answered. -/
def Obligations.RoundsAreSkippedAndClosed : Prop :=
  ∀ (s : State) (p : FromPort) (c : Instr), s.calm = true →
    (∀ argument : Nat, 1 < argument → s.cabinetReady = true →
      exec (.roundClose argument) s = .next { s with cabinet := s.cabinet.answered Code.badRequest.plain }) ∧
    (∀ n : Nat,
      (p = .cabinet ∧ c = .roundSkip n ∧ s.cabinetReady = true ∨
        p = .roundPort ∧ (∃ key, c = .roundPortSkip key .carriageReturn ∧ readKey key ≠ .off) ∧
          s.typed .s (some n) none ∧ 1 ≤ n ∧ n ≤ 999) →
        ((∀ r, s.cash.round = some r → r.isOpen = false) → exec c s = .next (s.refusedAt p .roundClosed)) ∧
        ∀ r, s.cash.round = some r → r.isOpen = true →
          (r.entry? n = none → exec c s = .next (s.refusedAt p .notFound)) ∧
          (∀ e, r.entry? n = some e → e.state ≠ .pending → exec c s = .next (s.refusedAt p .entryState)) ∧
          ∀ (e : RoundEntry) (r' : Round), r.entry? n = some e → e.state = .pending →
            r'.entries = (r.entries.map fun e => if e.machine = n then { e with state := .skipped } else e) →
            r' = { r with entries := r'.entries, isOpen := r'.entries.any fun e => e.state == .pending || e.state == .boxOut } →
              exec c s =
                .next (State.withheldAt p [n, 4] { s with
                  cash := { s.cash with round := some r' }
                  notices := if r'.isOpen then s.notices else (notify (roundClosedNotice r') s).notices
                  store := s.store.taking ⟨.roundWrite (some r'), 2, p.requester⟩ })) ∧
    ∀ forced : Bool,
      (p = .cabinet ∧ c = (if forced then .roundCloseForced else .roundClose 0) ∧ s.cabinetReady = true ∨
        p = .roundPort ∧
          (∃ key, c = (if forced then .roundPortForcedClose key else .roundPortClose key) ∧ readKey key ≠ .off) ∧
          s.typed .c none none) →
        ((∀ r, s.cash.round = some r → r.isOpen = false) → exec c s = .next (s.refusedAt p .roundClosed)) ∧
        ∀ r, s.cash.round = some r → r.isOpen = true →
          (forced = false → (∃ e ∈ r.entries, e.state = .boxOut) → exec c s = .next (s.refusedAt p .roundBusy)) ∧
          ∀ r' : Round, (forced = true ∨ ∀ e ∈ r.entries, e.state ≠ .boxOut) →
            r' = { r with
              isOpen := false
              entries := r.entries.map fun e =>
                match e.state with
                | .pending => { e with state := .skipped }
                | .boxOut => { e with state := .unfinished }
                | _ => e } →
              exec c s =
                .next (State.withheldAt p
                  [r.number, (r'.entries.filter fun e => e.state == .collected).length,
                    (r'.entries.filter fun e => e.state == .skipped).length,
                    (r'.entries.filter fun e => e.state == .unfinished).length, r.cash]
                  { s with
                    cash := { s.cash with round := some r' }
                    notices := (notify (roundClosedNotice r') s).notices
                    store := s.store.taking ⟨.roundWrite (some r'), 2, p.requester⟩ })

/-! ## Faults, flags, the summary -/

/-- A Status frame (06 R110 to R114, R120): the seven machine-sourced kinds become active as listed; one after another
in kind-number order, a kind newly listed is raised, one no longer listed cleared, with its notice, and every other
entry is left as it was; the service state is derived afresh; a raise is in the district summary; nothing else changes.
-/
def Obligations.StatusFrameSetsTheMachineKinds : Prop :=
  ∀ (s : State) (line : LineId) (slot : Nat) (m : MachineRecord) (fl : LinkFields) (kinds : List Nat),
    s.hears line slot m fl → m.service = deriveService m.reg.fitted m.faults m.flags →
      ∃ (t : State) (m' : MachineRecord),
        exec (.statusFrame line slot m.number kinds) s = .next t ∧
        t = [FaultKind.paperOut, .paperLow, .ticketJam, .coinJam, .cardReader, .doorOpen, .batteryLow].foldl
          (fun u k =>
            if k.number ∈ kinds then if m.faults.active k then u else raiseFault m.number k u
            else if m.faults.active k then clearFault m.number k .report u
            else u)
          (s.heardFrom line m.number fl) ∧
        (∀ n, n ≠ m.number → t.machine? n = s.machine? n) ∧ t.machine? m.number = some m' ∧
        m' = { m with
          link := .active { fl with silence := 0 }
          faults := m'.faults
          service := deriveService m.reg.fitted m'.faults m.flags } ∧
        ∀ k : FaultKind,
          m'.faults.get k =
            (if 7 < k.number then m.faults.get k
            else if k.number ∈ kinds then
              if m.faults.active k then m.faults.get k
              else
                { m.faults.get k with
                  active := true
                  firstRaised := if (m.faults.get k).count = 0 then s.now else (m.faults.get k).firstRaised
                  lastRaised := s.now
                  count := min ((m.faults.get k).count + 1) 255 }
            else if m.faults.active k then { m.faults.get k with active := false, lastCleared := s.now }
            else m.faults.get k) ∧
          (k.number ≤ 7 → k.number ∈ kinds → m.faults.active k = false →
            m.number ∈ t.summary.machines ∧ k.number ∈ t.summary.kinds)

/-- AckFault, SetFlag and ClearFlag at either port (06 R112, R116, R118, R120; 09 R180, R181), in calm: BAD_REQUEST,
NOT_FOUND, NOT_ACKNOWLEDGEABLE and NOT_ACTIVE in that order; an acknowledged kind is cleared with its notice and the
service state derived; a flag already as asked is answered at once; a changed one is recorded by a class-5 write and the
service state derived. -/
def Obligations.FaultsAreAcknowledgedAndFlagsChanged : Prop :=
  ∀ (s : State) (p : FromPort) (c : Instr) (n : Nat), s.calm = true →
    (∀ kind : Nat,
      (p = .cabinet ∧ c = .ackFault n kind ∧ s.cabinetReady = true ∨
        p = .roundPort ∧ (∃ key, c = .roundPortAck key .carriageReturn ∧ readKey key = .service) ∧
          s.typed .a (some n) (some kind)) →
        ((n = 0 ∨ 999 < n ∨ kind = 0 ∨ 15 < kind) → exec c s = .next (s.refusedAt p .badRequest)) ∧
        ∀ k : FaultKind, 1 ≤ n → n ≤ 999 → k.number = kind →
          (s.machine? n = none → exec c s = .next (s.refusedAt p .notFound)) ∧
          ∀ m, s.machine? n = some m →
            (kind ∉ [11, 12, 15] → exec c s = .next (s.refusedAt p .notAcknowledgeable)) ∧
            (kind ∈ [11, 12, 15] → m.faults.active k = false → exec c s = .next (s.refusedAt p .notActive)) ∧
            (kind ∈ [11, 12, 15] → m.faults.active k = true →
              exec c s =
                .next (State.repliedAt p [n, kind] { s with
                  machines :=
                    (s.onMachine n fun x =>
                      { x with
                        faults := x.faults.set k { m.faults.get k with active := false, lastCleared := s.now }
                        service :=
                          deriveService x.reg.fitted
                            (x.faults.set k { m.faults.get k with active := false, lastCleared := s.now })
                            x.flags }).machines
                  notices :=
                    (notify
                      (faultClearedNotice n k (if p = .cabinet then .ackCabinet else .ackRound) s.now)
                      s).notices }))) ∧
    ∀ (flag : Nat) (value : Bool),
      (p = .cabinet ∧ c = (if value then .setFlag n flag else .clearFlag n flag) ∧ s.cabinetReady = true ∨
        p = .roundPort ∧
          (∃ key,
            c = (if value then .roundPortSetFlag key .carriageReturn else .roundPortClearFlag key .carriageReturn) ∧
              readKey key = .service) ∧
          s.typed (if value then .p else .u) (some n) (some flag)) →
        ((n = 0 ∨ 999 < n ∨ flag = 0 ∨ 3 < flag) → exec c s = .next (s.refusedAt p .badRequest)) ∧
        (1 ≤ n → n ≤ 999 → 1 ≤ flag → flag ≤ 3 → s.machine? n = none →
          exec c s = .next (s.refusedAt p .notFound)) ∧
        ∀ (m : MachineRecord) (old new : ServiceFlags), 1 ≤ n → n ≤ 999 → s.machine? n = some m → m.flags = old →
          (flag = 1 ∧ new = { old with heldOut := value } ∨ flag = 2 ∧ new = { old with forceCardOnly := value } ∨
            flag = 3 ∧ new = { old with noRound := value }) →
            (new = old → exec c s = .next (s.repliedAt p [n, flag, if value then 1 else 0])) ∧
            (new ≠ old →
              exec c s =
                .next (State.withheldAt p [n, flag, if value then 1 else 0] { s with
                  machines :=
                    (s.onMachine n fun x =>
                      { x with flags := new, service := deriveService x.reg.fitted x.faults new }).machines
                  store := s.store.taking ⟨.table (.flags n new), 5, p.requester⟩ }))

/-- 06 R122: ReadSummary is answered DONE at once with the summary, which is emptied at the same event; a raise enters
the summary whatever the notice area holds; no command but a read, and no event but a start, takes anything out of it;
an empty summary is two empty sets and severity none. -/
def Obligations.ReadSummaryReturnsEveryRaiseOnce : Prop :=
  (∀ s : State, s.cabinetReady = true →
    exec .readSummary s =
      .next { s with
        summary := ⟨[], [], none⟩, cabinet := s.cabinet.answered ⟨Code.done.byte, s.summary.bytes⟩ }) ∧
  (∀ (s : State) (n : Nat) (k : FaultKind) (a : NoticeArea), s.machine? n ≠ none →
    (raiseFault n k { s with notices := a }).summary = (raiseFault n k s).summary ∧
    (∀ x, x ∈ (raiseFault n k s).summary.machines ↔ x = n ∨ x ∈ s.summary.machines) ∧
    (∀ x, x ∈ (raiseFault n k s).summary.kinds ↔ x = k.number ∨ x ∈ s.summary.kinds) ∧
    ∃ top, (raiseFault n k s).summary.highest = some top ∧ k.severity.number ≤ top.number ∧
      (∀ old, s.summary.highest = some old → old.number ≤ top.number) ∧
      (top = k.severity ∨ s.summary.highest = some top)) ∧
  (∀ (c : Instr) (s t : State), exec c s = .next t → t.power.listens = true →
    (c = .readSummary → s.cabinetReady = false) →
      (∀ x ∈ s.summary.machines, x ∈ t.summary.machines) ∧ (∀ x ∈ s.summary.kinds, x ∈ t.summary.kinds) ∧
        ∀ old, s.summary.highest = some old → ∃ top, t.summary.highest = some top ∧ old.number ≤ top.number) ∧
  (⟨[], [], none⟩ : Summary).bytes = [0, 0, 0, 0, 255]

/-! ## Lines and the directory -/

/-- A Join heard in a call window (07 R141 to R143), in Running and in Flushing alike (11 R195) where nothing else
follows at the event: UNKNOWN_MACHINE changes nothing but the phase; else any slot held is released, request and open
quote with it; WRONG_LINE and LINE_FULL leave the machine Absent; otherwise it is granted the slot it held on that line,
or the lowest enabled slot of the line that holds no machine, becomes Active there, SILENT is cleared and MachineJoined
written. With reconciliation due (05 R104 to R107) the box is as reported: a recorded box that is not the one reported
is removed and a box reported put in, with the round, the drop and the faults of both; the serial and the cash figure
are compared, and the kinds that the state calls for raised; one class-2 write records a change of box, tally or round,
a box state that was Unknown among them (log entry 34), and a changed total marks the group dirty, for which a flush
asks a class-1 checkpoint (08 R164). Which bits of the presence byte count, and which serials, is log entry 22; a
recorded id 0 with 0 reported is no removal (log entry 29); the notices stand in the order of the steps (log entry 18),
TALLY_GAP before the kinds of 05 R107 (log entry 67); the place of a drop is log entry 28; the byte of MachineJoined that
tells a reconciliation is 1 or 0 (log entry 62), and its line 0 or 1 (log entry 17). -/
def Obligations.JoinsAreGrantedOrRefused : Prop :=
  ∀ (s : State) (line : LineId) (f : JoinFrame) (s0 : State), s.steady →
    (s.power = .running → s.store.flush = false → s.store.backlog = 0) → s.stands line 0 → s0 = passPhase line s →
    (s.machine? f.machine = none →
      exec (.join line f) s = .next (setHeard line (.joinRefused f.machine .unknownMachine) s0)) ∧
    ∀ (m : MachineRecord) (free : State), s.machine? f.machine = some m →
      free =
        (if m.link = .absent then s0
        else s0.onMachine f.machine fun x => { x with link := .absent, request := none, openQuote := none }) →
        ((m.reg.permitted = .lineA ∧ line = .b ∨ m.reg.permitted = .lineB ∧ line = .a) →
          exec (.join line f) s = .next (setHeard line (.joinRefused f.machine .wrongLine) free)) ∧
        ((m.reg.permitted = .either ∨ m.reg.permitted = .lineA ∧ line = .a ∨ m.reg.permitted = .lineB ∧ line = .b) →
          ((∀ old, m.link.fields? = some old → old.line ≠ line) →
            (∀ slot, 1 ≤ slot → slot ≤ 32 → (s.line line).slotEnabled slot = true → free.holder? line slot ≠ none) →
              exec (.join line f) s = .next (setHeard line (.joinRefused f.machine .lineFull) free)) ∧
          ∀ (slot : Nat) (joined : State),
            (m.link.fields?.map LinkFields.line = some line ∧ m.link.fields?.map LinkFields.slot = some slot ∨
              m.link.fields?.map LinkFields.line ≠ some line ∧ 1 ≤ slot ∧ slot ≤ 32 ∧
                (s.line line).slotEnabled slot = true ∧ free.holder? line slot = none ∧
                ∀ lower, 1 ≤ lower → lower < slot →
                  (s.line line).slotEnabled lower = false ∨ free.holder? line lower ≠ none) →
            joined = clearFault f.machine .silent .heard (setHeard line (.joined f.machine slot)
              (free.onMachine f.machine fun x => { x with link := .active ⟨line, slot, 0⟩, request := none })) →
              (m.reconcileDue = false →
                exec (.join line f) s = .next (notify (machineJoinedNotice f.machine line slot false) joined)) ∧
              ∀ (report removed own : Option Nat) (box : BoxState) (place number : Nat) (snap : Snapshot)
                (takes stored scheduled joins closes conflict gap : Bool) (left tally : Tally)
                (accepted : Accepted) (cash : Nat),
                m.reconcileDue = true → (m.recorded = .out → m.box = .out) →
                (s.machines.map MachineRecord.number).Nodup →
                report = (if f.presence / 2 % 2 = 1 then some f.box else none) →
                own = (if f.presence % 2 = 1 ∧ 1 ≤ f.serial ∧ f.serial ≤ 999999 then some f.serial else none) →
                removed =
                  (match m.recorded with
                    | .installed old => if report = some old then none else some old
                    | _ => none) →
                box = (match report with | some b => .installed b | none => .out) →
                takes = (removed.isSome && decide (0 < m.tally.cash) && m.heldDrop.isNone) →
                stored = (takes && decide (s.cash.placesTaken < 256)) → (stored = true → s.takes place) →
                number = (if 65535 ≤ s.cash.dropCounter then 1 else s.cash.dropCounter + 1) →
                scheduled = (removed.isSome && decide (s.openEntry? f.machine = some .pending)) →
                joins =
                  (report.isSome && (removed.isSome || decide (m.recorded = .out)) &&
                    (scheduled || decide (s.openEntry? f.machine = some .boxOut))) →
                closes = (joins && s.cash.round.any fun r => r.entries.all fun e =>
                  decide (e.machine = f.machine ∨ e.state ≠ .pending ∧ e.state ≠ .boxOut)) →
                (conflict = true ↔
                  ∃ b, report = some b ∧
                    (b = 0 ∨ ∃ x ∈ s.machines, x.number ≠ f.machine ∧ x.box = .installed b)) →
                snap = ⟨f.machine, if scheduled then s.cash.round.map Round.number else none, removed.getD 0, s.now,
                  m.tally.counts, m.tally.cash, m.tally.unitemised, m.tally.sales, m.tally.first, m.tally.last⟩ →
                left = (if takes then emptyTally else m.tally) →
                (match m.accepted.serial, own with
                  | some last, some own =>
                    if (own + 999999 - last) % 999999 = 0 then
                      accepted = m.accepted ∧ cash = left.cash ∧ gap = decide (left.cash ≠ f.cash)
                    else
                      accepted = ⟨some own, none⟩ ∧ gap = true ∧
                        cash = if (own + 999999 - last) % 999999 ≤ 1000 then max left.cash f.cash else left.cash
                  | some _, none => accepted = ⟨none, none⟩ ∧ gap = true ∧ cash = left.cash
                  | none, some own =>
                    accepted = ⟨some own, m.accepted.token⟩ ∧ gap = false ∧ cash = max left.cash f.cash
                  | none, none => accepted = m.accepted ∧ gap = false ∧ cash = left.cash) →
                tally = { left with cash := cash, unitemised := left.unitemised + (cash - left.cash) } →
                ∃ (removal : Removal) (held : Option Snapshot) (round : Option Round) (u v w x y z : State)
                  (a b c : State),
                  removal =
                    (if removed = none then m.removal
                    else if stored then .recorded number
                    else if 0 < m.tally.cash then .held else .noDrop) ∧
                  held = (if takes && !stored then some snap else m.heldDrop) ∧
                  round =
                    (if scheduled || joins then
                      s.cash.round.map fun r =>
                        { r with
                          isOpen := !closes
                          cash := r.cash + (if scheduled && takes then m.tally.cash else 0)
                          entries := r.entries.map fun e =>
                            if e.machine = f.machine then
                              { e with
                                state := if joins then .collected else .boxOut
                                drop := if scheduled && stored then some number else e.drop }
                            else e }
                    else s.cash.round) ∧
                  u = (joined.onMachine f.machine fun x =>
                    { x with
                      box := box
                      tally := tally
                      accepted := accepted
                      removal := removal
                      heldDrop := held
                      reconcileDue := false }) ∧
                  v = (if removed ≠ none ∧ scheduled = false then raiseFault f.machine .cashTamper u else u) ∧
                  w =
                    (if removed ≠ none then
                      clearFault f.machine .boxFull .removed
                        (clearFault f.machine .boxNearFull .removed (raiseFault f.machine .boxOut v))
                    else if report = none then raiseFault f.machine .boxOut v
                    else v) ∧
                  x = (if takes && !stored then raiseFault f.machine .dropHeld w else w) ∧
                  y = (if report = none then x else clearFault f.machine .boxOut .inserted x) ∧
                  z = (if conflict then raiseFault f.machine .boxConflict y else y) ∧
                  a = (round.elim z fun r => if closes then notify (roundClosedNotice r) z else z) ∧
                  b = (if gap then raiseFault f.machine .tallyGap a else a) ∧
                  c =
                    (if m.heldDrop ≠ none ∧ m.faults.active .dropHeld = false then
                      raiseFault f.machine .dropHeld b
                    else b) ∧
                  ∃ (d e : State) (written : StoreControl),
                    d =
                      (if m.reg.capacity ≤ tally.coins + m.reg.margin ∧
                          (removed ≠ none ∨ m.faults.active .boxNearFull = false) then
                        raiseFault f.machine .boxNearFull c
                      else c) ∧
                    e =
                      (if m.reg.capacity ≤ tally.coins ∧ (removed ≠ none ∨ m.faults.active .boxFull = false) then
                        raiseFault f.machine .boxFull d
                      else d) ∧
                    written =
                      (if box ≠ m.box ∨ left ≠ m.tally ∨ round ≠ s.cash.round then
                        s.store.taking
                          ⟨.boxWrite
                              { machine := f.machine
                                id := 0
                                drop := if stored then some (place, ⟨number, snap⟩) else none
                                snapshot := takes
                                heldMade := if takes && !stored then some snap else none
                                round := if round = s.cash.round then none else round
                                recorded := match report with | some b => .installed b | none => .out
                                removal := removal
                                answer := none },
                            2, .nobody⟩
                      else s.store) ∧
                    exec (.join line f) s =
                      .next { notify (machineJoinedNotice f.machine line slot true) e with
                        cash := { s.cash with
                          nextPlace := if stored then (place + 1) % 256 else s.cash.nextPlace
                          placesTaken := if stored then s.cash.placesTaken + 1 else s.cash.placesTaken
                          dropCounter := if stored then number else s.cash.dropCounter
                          round := round }
                        store :=
                          if takes = true ∨ accepted ≠ m.accepted ∨ tally ≠ left then
                            State.groupMarked { e with store := written } m.group
                          else written })

/-- Leave and the phases in which nothing is heard (07 R128, R135, R136, R139): a Leave releases the slot, with request
and open quote, and its downlink will answer LEFT. Nothing heard raises the silence count; an Active machine at the
silence limit becomes Silent, SILENT raised and its request and open quote discarded; a Silent one at the release limit
is released. The two limit rows are those phases; one whose count does not reach its limit changes nothing (log entry
10). A frame heard from a Silent machine makes its link Active and clears SILENT, and is then taken (R137). Each phase
of a cycle is run once and in its order (R125): before a row of a later phase the present phase is run with nothing
heard in it, and before the next tick the phases that are left are, line A's before line B's; a row of a phase that is
over, or in no cycle, changes nothing (log entry 13). -/
def Obligations.SlotsAreLeftAndSilenceCounted : Prop :=
  (∀ (s : State) (line : LineId) (slot : Nat) (m : MachineRecord),
    s.stands line (2 * slot) → s.holder? line slot = some m → s.machine? m.number = some m →
    ∀ quiet : State, quiet = passPhase line s →
      (∀ f, m.link = .active f →
        exec (.leave line slot m.number) s =
          .next (setHeard line (.left slot m.number)
            (quiet.onMachine m.number fun x => { x with link := .absent, request := none, openQuote := none })) ∧
        (f.silence + 1 < s.timers.silence →
          exec (.nothingHeard line slot) s =
            .next (quiet.onMachine m.number fun x => { x with link := .active { f with silence := f.silence + 1 } }) ∧
          exec (.silenceLimitReached line slot) s = .next s) ∧
        (s.timers.silence ≤ f.silence + 1 →
          ∀ u : State,
            u = raiseFault m.number .silent (quiet.onMachine m.number fun x =>
              { x with link := .silent { f with silence := f.silence + 1 }, request := none, openQuote := none }) →
            exec (.nothingHeard line slot) s = .next u ∧ exec (.silenceLimitReached line slot) s = .next u) ∧
        exec (.releaseLimitReached line slot) s = .next s) ∧
      ∀ f, m.link = .silent f →
        (f.silence + 1 < s.timers.release →
          exec (.nothingHeard line slot) s =
            .next (quiet.onMachine m.number fun x => { x with link := .silent { f with silence := f.silence + 1 } }) ∧
          exec (.releaseLimitReached line slot) s = .next s) ∧
        (s.timers.release ≤ f.silence + 1 →
          ∀ u : State,
            u = (quiet.onMachine m.number fun x => { x with link := .absent, request := none, openQuote := none }) →
            exec (.nothingHeard line slot) s = .next u ∧ exec (.releaseLimitReached line slot) s = .next u) ∧
        exec (.silenceLimitReached line slot) s = .next s ∧
        ∀ c : Instr, heardIn c = some (line, slot, m.number) →
          exec c s =
            exec c (clearFault m.number .silent .heard
              (s.onMachine m.number fun x => { x with link := .active { f with silence := 0 } }))) ∧
  ∀ (s : State) (line : LineId) (k : Nat),
    (∀ u : State, s.stands line k →
      exec (if k % 2 = 0 then .nothingHeard line (k / 2) else .downlinkPhase line (k / 2)) s = .next u →
        (u.line line).phase = k + 1 ∧
        (∀ (c : Instr) (j : Nat), phaseOf c = some (line, j) → k < j → j < 66 →
          exec c s = exec c u ∨
            (∃ slot, c = .silenceLimitReached line slot ∨ c = .releaseLimitReached line slot) ∧
              exec c s = .next s ∧ exec c u = .next u) ∧
        (s.power ≠ .off → (line = .b → s.lineA.cycleOpen = true → 66 ≤ s.lineA.phase) →
          exec .secondTick s = exec .secondTick u)) ∧
    ∀ (c : Instr) (j : Nat), phaseOf c = some (line, j) →
      ((s.line line).cycleOpen = false ∨ j < (s.line line).phase ∨ 66 ≤ j) → exec c s = .next s

/-- A second request while one is pending is answered BUSY in the refusal note, and while Flushing any but a
QuoteRequest WAIT, with no other effect than that the machine was heard (07 R129, R130, R132; 11 R196). A downlink phase
(07 R131) sends the service state with IDLE, WAIT or the ready reply, which ends the request, and the note of its
window; nothing to a slot with no Active machine; LEFT in the window of a Leave (R139), but nothing where the machine
that left has been deregistered since (log entry 54); in the call window JoinGranted or JoinRefused, and nothing where
no Join was heard. The bytes of the frames sent and of the answers that carry data are those of 12 R203: PERMIT_REFUSED
carries the number of the result code of its cause (log entry 17), a downlink with no note 0 as the note's code (log entry
61), and a box answer with no result of either kind a free value as its code (log entry 8). -/
def Obligations.DownlinksCarryAnswersAndNotes : Prop :=
  (∀ (q : OpenQuote) (unverified clamped minApplied : Bool) (stop : StopReason),
    quotedAnswer q unverified clamped minApplied stop =
      ⟨53#8,
        byte1 q.token ++ momentBytes (some q.expiry) ++ byte2 q.minutes ++
          byte4 (match q.price with | .byMoney _ useful => useful | .byTime cost => cost) ++
          byte1 ((if unverified then 1 else 0) + (if clamped then 2 else 0) + (if minApplied then 4 else 0)) ++
          byte1 (match stop with
            | .maxStay => 0
            | .balance => 1
            | .credit => 2
            | .timeReached => 3
            | .ban => 4
            | .horizon => 5)⟩ ∧
    (quotedAnswer q unverified clamped minApplied stop).data.length = 14) ∧
  (∀ (validUntil : Moment) (unverified : Bool),
    freeAnswer validUntil unverified = ⟨54#8, momentBytes (some validUntil) ++ byte1 (if unverified then 1 else 0)⟩) ∧
  (∀ token serial : Nat, acceptedAnswer token serial = ⟨55#8, byte1 token ++ byte3 serial⟩) ∧
  (∀ cause : PermitCause,
    permitRefusedAnswer cause =
      ⟨19#8, byte1 (match cause with
        | .notFound => 7
        | .wrongKind => 32
        | .revoked => 33
        | .suspended => 49
        | .notCurrent => 50
        | .wrongZone => 51)⟩) ∧
  (∀ (unstated : Byte) (removal : Removal) (insertion : Option Bool) (r i : Nat),
    r = (match removal with
      | .nothing => 0
      | .recorded _ => 58
      | .held => 59
      | .noDrop => 60) →
    i = (match insertion with
      | none => 0
      | some false => 61
      | some true => 62) →
      boxAnswer unstated removal insertion =
        ⟨if removal ≠ .nothing then BitVec.ofNat 8 r else if insertion ≠ none then BitVec.ofNat 8 i else unstated,
          byte1 r ++ byte2 (match removal with | .recorded n => n | _ => 0) ++ byte1 i⟩) ∧
  (∀ (service : ServiceState) (answer : Answer) (note : Option (RequestKind × Code)),
    (LineSent.slot service answer note).bytes =
      lineFrame (byte1 17 ++
        byte1 (match service with | .inService => 0 | .cashOnly => 1 | .cardOnly => 2 | .outOfService => 3) ++
        answer.code :: answer.data ++
        (match note with
          | none => byte1 0 ++ byte1 0
          | some (kind, code) =>
            byte1 (match kind with
              | .quoteRequest => 4
              | .saleCommit => 5
              | .boxRemoved => 6
              | .boxInserted => 7) ++ byte1 code.number))) ∧
  (∀ (n slot : Nat) (code : Code),
    (LineSent.call n slot none).bytes = lineFrame (byte1 18 ++ byte2 n ++ byte1 slot ++ byte1 0) ∧
    (LineSent.call n 0 (some code)).bytes = lineFrame (byte1 18 ++ byte2 n ++ byte1 0 ++ byte1 code.number)) ∧
  (∀ (t : ClockTime) (n : Nat),
    (LineSent.cycle (some t) n).bytes =
      lineFrame (byte1 16 ++ byte1 0 ++ dateBytes (some t.date) ++ byte2 t.minute ++ byte1 t.second ++ byte1 n) ∧
    (LineSent.cycle none n).bytes = lineFrame (byte1 16 ++ byte1 1 ++ [255, 0, 0] ++ byte2 0 ++ byte1 0 ++ byte1 n)) ∧
  LineSent.nothing.bytes = [] ∧
  ∀ (s : State) (line : LineId),
    (∀ (slot : Nat) (m : MachineRecord) (fl : LinkFields) (c : Instr) (kind : RequestKind) (code : Code),
      s.hears line slot m fl →
      ((∃ f : QuoteFrame, f.machine = m.number ∧ c = .quoteRequest line slot f ∧ kind = .quoteRequest) ∨
        (∃ f : SaleFrame, f.machine = m.number ∧ c = .saleCommit line slot f ∧ kind = .saleCommit) ∨
        (c = .boxRemoved line slot m.number ∧ kind = .boxRemoved) ∨
        ∃ box, c = .boxInserted line slot m.number box ∧ kind = .boxInserted) →
      (code = .busy ∧ m.request ≠ none ∨
        code = .wait ∧ m.request = none ∧ s.power = .flushing ∧ kind ≠ .quoteRequest) →
        exec c s = .next (setHeard line (.note slot kind code) (s.heardFrom line m.number fl))) ∧
    ((s.machines.map MachineRecord.number).Nodup →
      ∀ send : LineSent → State → State,
        (send = fun frame t => t.onLine line fun l => { l with phase := l.phase + 1, heard := .nothing, sent := frame }) →
        (∀ (slot : Nat) (m : MachineRecord) (f : LinkFields), slot ≠ 0 → s.stands line (2 * slot + 1) → s.holder? line slot = some m →
          m.link = .active f → (∀ n, (s.line line).heard ≠ .left slot n) →
            ∀ note : Option (RequestKind × Code),
              (∀ kind code, note = some (kind, code) ↔ (s.line line).heard = .note slot kind code) →
                (m.request = none →
                  exec (.downlinkPhase line slot) s = .next (send (.slot m.service Code.idle.plain note) s)) ∧
                (∀ r, m.request = some r → r.reply = none →
                  exec (.downlinkPhase line slot) s = .next (send (.slot m.service Code.wait.plain note) s)) ∧
                (∀ r a, m.request = some r → r.reply = some a →
                  exec (.downlinkPhase line slot) s =
                    .next (send (.slot m.service a note)
                      (s.onMachine m.number fun x => { x with request := none })))) ∧
        (∀ (slot : Nat) (n : Nat) (m : MachineRecord), slot ≠ 0 → s.stands line (2 * slot + 1) →
          (s.line line).heard = .left slot n →
          s.machine? n = some m →
            exec (.downlinkPhase line slot) s = .next (send (.slot m.service Code.left.plain none) s)) ∧
        (∀ slot : Nat, slot ≠ 0 → s.stands line (2 * slot + 1) → (∀ m f, s.holder? line slot = some m → m.link ≠ .active f) →
          (∀ n, (s.line line).heard ≠ .left slot n) →
          exec (.downlinkPhase line slot) s = .next (send .nothing s)) ∧
        (∀ n slot, s.stands line 1 → (s.line line).heard = .joined n slot →
          exec (.downlinkPhase line 0) s = .next (send (.call n slot none) s)) ∧
        (∀ n code, s.stands line 1 → (s.line line).heard = .joinRefused n code →
          exec (.downlinkPhase line 0) s = .next (send (.call n 0 (some code)) s)) ∧
        (s.stands line 1 → (∀ n slot, (s.line line).heard ≠ .joined n slot) →
          (∀ n code, (s.line line).heard ≠ .joinRefused n code) →
            exec (.downlinkPhase line 0) s = .next (send .nothing s)) ∧
        ∀ slot n : Nat, slot ≠ 0 → s.stands line (2 * slot + 1) → (s.line line).heard = .left slot n →
          s.machine? n = none → s.holder? line slot = none →
            exec (.downlinkPhase line slot) s = .next (send .nothing s))

/-- SetSlotEnable, RegisterMachine and DeregisterMachine (07 R144, R146 to R148), in calm: what is out of range is
BAD_REQUEST. A slot disabled releases its machine. A new machine is registered fresh at the lowest free position, its
group dirty, unless 64 are registered; a registered one keeps its position and takes the new fields, a changed zone
discards its open quote, a line no longer permitted its slot. A machine is removed unless it holds a slot, cash, a held
drop or an entry of the open round. Each change is recorded by a class-5 write and answered PENDING. Line, permitted line
and fitted kinds are numbered in the order of their tables (log entry 17). -/
def Obligations.SlotsAndRegistrationsAreChanged : Prop :=
  ∀ s : State, s.calm = true → s.cabinetReady = true →
    (∀ (lineField enables : Nat),
      (1 < lineField →
        exec (.setSlotEnable lineField enables) s =
          .next { s with cabinet := s.cabinet.answered Code.badRequest.plain }) ∧
      ∀ line : LineId, lineNumber line = lineField →
        exec (.setSlotEnable lineField enables) s =
          .next { s.onLine line (fun l => { l with enable := BitVec.ofNat 32 enables }) with
            machines :=
              s.machines.map fun m =>
                match m.link.fields? with
                | some f =>
                  if f.line = line ∧ (BitVec.ofNat 32 enables).getLsbD (32 - f.slot) = false then
                    { m with link := .absent, request := none, openQuote := none }
                  else m
                | none => m
            store := s.store.taking ⟨.table (.slotEnable line (BitVec.ofNat 32 enables)), 5, .cabinet⟩
            cabinet := s.cabinet.awaiting }) ∧
    (∀ a : RegisterArgs,
      ((a.machine = 0 ∨ 999 < a.machine ∨ 15 < a.zone ∨ a.capacity < 100 ∨ 4000 < a.capacity ∨ 500 < a.margin ∨
          2 < a.permitted ∨ 2 < a.fitted) →
        exec (.registerMachine a) s = .next { s with cabinet := s.cabinet.answered Code.badRequest.plain }) ∧
      ∀ (permitted : PermittedLine) (fitted : Fitted), 1 ≤ a.machine → a.machine ≤ 999 → a.zone ≤ 15 →
        100 ≤ a.capacity → a.capacity ≤ 4000 → a.margin ≤ 500 → PermittedLine.ofNumber a.permitted = some permitted →
        Fitted.ofNumber a.fitted = some fitted →
          (s.machine? a.machine = none → 64 ≤ s.machines.length →
            exec (.registerMachine a) s =
              .next { s with cabinet := s.cabinet.answered Code.directoryFull.plain }) ∧
          (s.machine? a.machine = none → s.machines.length < 64 →
            ∃ (position : Nat) (machines : List MachineRecord),
              position < 64 ∧ (∀ m ∈ s.machines, m.reg.position ≠ position) ∧
              (∀ p < position, ∃ m ∈ s.machines, m.reg.position = p) ∧
              (∀ m, m ∈ machines ↔
                m = freshMachine a.machine ⟨position, a.zone, permitted, a.capacity, a.margin, fitted⟩ ∨
                  m ∈ s.machines) ∧
              ((s.machines.map MachineRecord.number).Pairwise (· < ·) →
                (machines.map MachineRecord.number).Pairwise (· < ·)) ∧
              exec (.registerMachine a) s =
                .next { s with
                  machines := machines
                  store :=
                    { s.store.taking
                        ⟨.table (.registration a.machine
                            ⟨position, a.zone, permitted, a.capacity, a.margin, fitted⟩ true),
                          5, .cabinet⟩ with
                      dirty := s.store.dirty.set (position / 8) true }
                  cabinet := s.cabinet.awaiting }) ∧
          ∀ (m : MachineRecord) (reg : Registration), s.machine? a.machine = some m →
            reg = ⟨m.reg.position, a.zone, permitted, a.capacity, a.margin, fitted⟩ →
              ∃ (t : State) (m' : MachineRecord), exec (.registerMachine a) s = .next t ∧
                t = { s with
                  machines := t.machines
                  store := s.store.taking ⟨.table (.registration a.machine reg false), 5, .cabinet⟩
                  cabinet := s.cabinet.awaiting } ∧
                (∀ n, n ≠ a.machine → t.machine? n = s.machine? n) ∧ t.machine? a.machine = some m' ∧
                ∀ lost : Bool,
                  (lost = true ↔ ∃ f, m.link.fields? = some f ∧
                    (permitted = .lineA ∧ f.line = .b ∨ permitted = .lineB ∧ f.line = .a)) →
                  m' = { m with
                    reg := reg
                    service := deriveService fitted m.faults m.flags
                    openQuote := if a.zone ≠ m.reg.zone ∨ lost = true then none else m.openQuote
                    link := if lost then .absent else m.link
                    request :=
                      if lost then none
                      else if a.zone ≠ m.reg.zone then m.request.map fun r => { r with zoneChanged := true }
                      else m.request }) ∧
    ∀ n : Nat,
      ((n = 0 ∨ 999 < n) →
        exec (.deregisterMachine n) s = .next { s with cabinet := s.cabinet.answered Code.badRequest.plain }) ∧
      (1 ≤ n → n ≤ 999 → s.machine? n = none →
        exec (.deregisterMachine n) s = .next { s with cabinet := s.cabinet.answered Code.notFound.plain }) ∧
      ∀ m, 1 ≤ n → n ≤ 999 → s.machine? n = some m →
        ((m.link ≠ .absent ∨ 0 < m.tally.cash ∨ m.heldDrop ≠ none ∨ s.openEntry? n ≠ none) →
          exec (.deregisterMachine n) s = .next { s with cabinet := s.cabinet.answered Code.inUse.plain }) ∧
        (m.link = .absent → m.tally.cash = 0 → m.heldDrop = none → s.openEntry? n = none →
          exec (.deregisterMachine n) s =
            .next { s with
              machines := s.machines.filter fun x => x.number != n
              store :=
                { s.store.taking ⟨.table (.deregistration n), 5, .cabinet⟩ with
                  dirty := s.store.dirty.set m.group true }
              cabinet := s.cabinet.awaiting })

/-! ## The store -/

/-- A class-5 table write, or a write of the round record alone, completes (01 R11; 05 R97; 08 R149, R159; 09 R172; 10
R185), in calm: its region holds what it recorded, with the next order stamp, and every other region stays; the
cabinet's Result is DONE, or the reply withheld at the round port is sent. A deregistration's write removes the box
record too, so that a machine registered later starts with none (log entry 33); a registration's write leaves a box
record that stands (log entry 53). Then the array frees (R153): a Requested hold is granted if it may be (04 R76); the
oldest operation of the lowest-numbered class that has one waiting is granted, but for classes 4 to 6 while they are
held back, a decrement deciding and a checkpoint taking its image at its grant; a decrement or return that would be
granted while the hold is closed ends without the array (04 R68, R69), the decrement's quote returned to open unless its
lifetime has run out or the machine has opened another meanwhile (03 R60), and the next is granted. When a read that was
served in a suspension completes (R154), the next waiting read is served, or the operation goes on; one no longer
suspendable goes on whatever reads wait (R162, R165). -/
def Obligations.TableAndRoundWritesComplete : Prop :=
  (∀ s : State, s.store.holder = none →
    (s.permits.hold = .requested → s.store.backlog < 3 →
      s.arrayFreed =
        State.arrayFreed { s with
          permits := { s.permits with hold := .granted, holdStart := some s.clock.counter }
          store := unverifyLookups s.store
          notices := (notify (holdGrantedNotice false) s).notices }) ∧
    ((s.permits.hold ≠ .requested ∨ 3 ≤ s.store.backlog) →
      ((∀ o ∈ s.store.queue, s.store.holdBack = true ∧ 4 ≤ o.cls ∨ o.cls = 0 ∨ 6 < o.cls) →
        s.arrayFreed = { s with store := { s.store with freeing := false } }) ∧
      ∀ (before after : List StoreOp) (op : StoreOp) (rest : State),
        s.store.queue = before ++ op :: after → 1 ≤ op.cls → op.cls ≤ 6 → (op.cls ≤ 3 ∨ s.store.holdBack = false) →
        (∀ o ∈ before, op.cls < o.cls) → (∀ o ∈ after, op.cls ≤ o.cls) →
        rest = { s with store := { s.store with freeing := false, queue := before ++ after } } →
        ∀ granted : GrantData → StoreControl → State,
          (granted = fun data c =>
            { rest with
              store := { c with holder := some ⟨op, 0, !op.work.isRead && decide (4 ≤ op.cls), data⟩ } }) →
          (∀ w, op.work = .decrement w →
            (s.permits.hold.closed = false →
              s.arrayFreed = granted (.decision (decideDecrement w s)) rest.store) ∧
            ∀ m c, s.permits.hold.closed = true → s.machine? w.machine = some m → m.commit = some c → c.id = w.id →
              s.arrayFreed =
                State.arrayFreed (rest.onMachine w.machine fun x =>
                  { x with
                    commit := none
                    openQuote :=
                      if s.timers.lifetime ≤ (s.clock.counter - c.quote.issued).toNat ∨ c.superseded = true then
                        x.openQuote
                      else some c.quote
                    request :=
                      x.request.map fun r =>
                        if r.id = w.id then { r with reply := some Code.permitUnavailable.plain } else r })) ∧
          (∀ r, op.work = .giveBack r →
            (s.permits.hold.closed = false → s.arrayFreed = granted .nothing rest.store) ∧
            (s.permits.hold.closed = true →
              s.arrayFreed =
                State.arrayFreed { rest with
                  permits := { s.permits with waitingReturns := s.permits.waitingReturns ++ [r] } })) ∧
          (∀ g, op.work = .checkpoint g →
            s.arrayFreed =
              granted
                (.image ((s.machines.filter fun m => m.reg.position / 8 == g).map fun m =>
                  ⟨m.number, m.reg.position, m.tally, m.cards, m.accepted⟩))
                { rest.store with dirty := s.store.dirty.set g false, pointer := (g + 1) % 8 }) ∧
          ((∀ w, op.work ≠ .decrement w) → (∀ r, op.work ≠ .giveBack r) → (∀ g, op.work ≠ .checkpoint g) →
            s.arrayFreed = granted .nothing rest.store))) ∧
  (∀ (s : State) (r : StoreOp) (h : Holder), s.store.serving = some r → s.store.holder = some h →
    (∀ before o after, h.suspendable = true → s.store.queue = before ++ o :: after → o.work.isRead = true →
      (∀ x ∈ before, x.work.isRead = false) →
        endServing s = { s with store := { s.store with serving := some o, queue := before ++ after } }) ∧
    ((h.suspendable = false ∨ ∀ o ∈ s.store.queue, o.work.isRead = false) →
      endServing s = { s with store := { s.store with serving := none } })) ∧
  ∀ (s : State) (h : Holder) (cls : Nat) (asker : Requester), s.completing h →
    ∀ told : State → State,
      (told = fun t =>
        match asker, t.roundPort.state with
        | .cabinet, _ => { t with cabinet := { t.cabinet with result := .final Code.done.plain } }
        | .roundPort, .awaiting line =>
          { t with roundPort := { t.roundPort with state := .ready, sent := [.line line, .prompt] } }
        | _, _ => t) →
      (∀ r, h.op = ⟨.roundWrite r, cls, asker⟩ →
        exec .roundWriteCompletion s =
          .next (s.whenDone fun t =>
            told { t with nv := { t.nv with round := r, stamp := t.nv.stamp + 1 } })) ∧
      ∀ w : TableWrite, h.op = ⟨.table w, cls, asker⟩ →
        ∃ v : NvArray,
          exec .writeCompletion s = .next (s.whenDone fun t => told { t with nv := v }) ∧
          v.stamp = s.nv.stamp + 1 ∧
          match w with
          | .specialDays dates => v = { s.nv with stamp := v.stamp, specialDays := dates }
          | .pendingSet contents => v = { s.nv with stamp := v.stamp, pendingSet := contents }
          | .guardWord word => v = { s.nv with stamp := v.stamp, guardWord := some word }
          | .denominations values => v = { s.nv with stamp := v.stamp, denominations := some values }
          | .slotEnable .a set => v = { s.nv with stamp := v.stamp, enableA := some set }
          | .slotEnable .b set => v = { s.nv with stamp := v.stamp, enableB := some set }
          | .timers a =>
            v = { s.nv with stamp := v.stamp, timers := v.timers } ∧
              v.timers.lifetime = (a.lifetime <|> s.nv.timers.lifetime) ∧
              v.timers.holdLimit = (a.holdLimit <|> s.nv.timers.holdLimit) ∧
              v.timers.silence = (a.silence <|> s.nv.timers.silence) ∧
              v.timers.release = (a.release <|> s.nv.timers.release) ∧
              v.timers.period = (a.period <|> s.nv.timers.period) ∧
              v.timers.threshold = (a.threshold <|> s.nv.timers.threshold) ∧
              v.timers.timeout = (a.timeout <|> s.nv.timers.timeout)
          | .activation tariffs =>
            v = { s.nv with stamp := v.stamp, pendingSet := none, tariffs := v.tariffs } ∧
              ((tariffs.map Prod.fst).Nodup →
                (∀ x ∈ tariffs, v.tariffs.find? (fun y => y.1 == x.1) = some x) ∧
                ∀ z, (∀ x ∈ tariffs, x.1 ≠ z) →
                  v.tariffs.find? (fun y => y.1 == z) = s.nv.tariffs.find? (fun y => y.1 == z))
          | .registration n reg isNew =>
            v = { s.nv with stamp := v.stamp, directory := v.directory } ∧
              (∀ k, k ≠ n → v.entry? k = s.nv.entry? k) ∧
              (isNew = true → v.entry? n = some ⟨n, reg, ⟨false, false, false⟩, v.stamp, v.stamp⟩) ∧
              ∀ e, isNew = false → s.nv.entry? n = some e →
                v.entry? n = some ⟨n, reg, e.flags, v.stamp, e.registered⟩
          | .deregistration n =>
            v =
              { s.nv with
                stamp := v.stamp
                directory := s.nv.directory.filter fun e => e.machine != n
                boxes := s.nv.boxes.filter fun b => b.machine != n }
          | .flags n flags =>
            v =
              { s.nv with
                stamp := v.stamp
                directory :=
                  s.nv.directory.map fun e => if e.machine = n then { e with flags := flags, stamp := v.stamp } else e }

/-- The checkpoint period, trickle checkpoints and their completions (08 R158 to R162; 04 R78), in Running with no flush
in progress: an expiry raises the backlog while a group is dirty or a checkpoint waits or is in progress, and sets it to
0 otherwise; while it is above 0 with a dirty group, no checkpoint waiting or in progress and nothing of classes 1 to 5
waiting, the next dirty group in circular order is asked as class 6, its image taken and its mark cleared at its grant.
A rise to 3 interrupts a Granted hold and asks a class-1 checkpoint, granted at once on a Free array, two more to
follow; below that, with operations of classes 1 to 5 waiting, an expiry raises the backlog alone. A completion puts the
image in its region and lowers the backlog, or clears it with no group dirty; while the urgent count is above 0 it asks
a further class-1 checkpoint, before the array is granted again, and so is a hold resumed there (log entry 9). A
checkpoint waiting or in progress at the rise takes class 1 and is no longer suspendable. The backlog stays at 3 at an
expiry there. The third byte of HoldInterrupted has no value in the manual, and a free value of the model stands in for
it (log entry 8). An expiry row before the period has run changes nothing (log entry 14), nor does a trickle row whose
condition does not hold (log entry 10). -/
def Obligations.CheckpointsRunByPeriodAndTrickle : Prop :=
  ∀ s : State, s.power = .running → s.store.flush = false → s.store.holdBack = false → s.store.freeing = false →
    ((s.clock.counter - s.store.lastExpiry).toNat < s.timers.period → exec .checkpointPeriodExpiry s = .next s) ∧
    (s.timers.period ≤ (s.clock.counter - s.store.lastExpiry).toNat →
      (s.store.backlog = 0 → (∀ i < 8, s.store.dirty.get i = false) →
        s.store.checkpointWaits = false → s.store.checkpointHeld = false →
          exec .checkpointPeriodExpiry s =
            .next { s with store := { s.store with lastExpiry := s.clock.counter } }) ∧
      (s.store.backlog ≤ 1 →
        (s.store.checkpointWaits = true ∨ s.store.checkpointHeld = true ∨
          (∃ i < 8, s.store.dirty.get i = true) ∧ ∃ o ∈ s.store.queue, o.cls ≤ 5) →
        exec .checkpointPeriodExpiry s =
          .next { s with
            store := { s.store with lastExpiry := s.clock.counter, backlog := s.store.backlog + 1 } }) ∧
      (s.store.backlog ≤ 1 → (∃ i < 8, s.store.dirty.get i = true) →
        s.store.checkpointWaits = false → s.store.checkpointHeld = false → (∀ o ∈ s.store.queue, 5 < o.cls) →
          ∃ u : State, u = { s with
              store := { s.store with lastExpiry := s.clock.counter, backlog := s.store.backlog + 1 } } ∧
            exec .checkpointPeriodExpiry s = exec .trickleCheckpointRequest u) ∧
      (∀ (h : Holder) (g : Nat), s.store.backlog = 2 → s.store.holder = some h →
        s.store.checkpointWaits = false → s.store.checkpointHeld = false → s.store.nextDirty = some g →
          ∃ t : State, exec .checkpointPeriodExpiry s = .next t ∧
            t = { s with
              freeCount := t.freeCount
              permits := t.permits
              notices := t.notices
              store :=
                { s.store with
                  lastExpiry := s.clock.counter
                  backlog := 3
                  urgent := 2
                  queue := s.store.queue ++ [⟨.checkpoint g, 1, .nobody⟩] } } ∧
            (s.permits.hold = .granted → t.permits = { s.permits with hold := .interrupted } ∧
              ∃ unstated : Byte, t.notices = (notify [7, 3, unstated] s).notices) ∧
            (s.permits.hold ≠ .granted → t.permits = s.permits ∧ t.notices = s.notices)) ∧
      (∀ g : Nat, s.store.backlog = 2 → s.store.holder = none → s.store.checkpointWaits = false →
        s.store.nextDirty = some g →
          ∃ t : State, exec .checkpointPeriodExpiry s = .next t ∧
            t = { s with
              freeCount := t.freeCount
              permits := t.permits
              notices := t.notices
              store :=
                { s.store with
                  lastExpiry := s.clock.counter
                  backlog := 3
                  urgent := 2
                  dirty := s.store.dirty.set g false
                  pointer := (g + 1) % 8
                  holder := some ⟨⟨.checkpoint g, 1, .nobody⟩, 0, false,
                    .image ((s.machines.filter fun m => m.reg.position / 8 == g).map fun m =>
                      ⟨m.number, m.reg.position, m.tally, m.cards, m.accepted⟩)⟩ } } ∧
            (s.permits.hold = .granted → t.permits = { s.permits with hold := .interrupted } ∧
              ∃ unstated : Byte, t.notices = (notify [7, 3, unstated] s).notices) ∧
            (s.permits.hold ≠ .granted → t.permits = s.permits ∧ t.notices = s.notices)) ∧
      (∀ h : Holder, s.store.backlog = 2 → s.store.holder = some h →
        (s.store.checkpointWaits = true ∨ s.store.checkpointHeld = true) →
          ∃ t : State, exec .checkpointPeriodExpiry s = .next t ∧
            t = { s with
              freeCount := t.freeCount
              permits := t.permits
              notices := t.notices
              store :=
                { s.store with
                  lastExpiry := s.clock.counter
                  backlog := 3
                  urgent := 2
                  queue := s.store.queue.map fun o => if o.work.isCheckpoint then { o with cls := 1 } else o
                  holder :=
                    some
                      (if h.op.work.isCheckpoint then
                        { h with op := { h.op with cls := 1 }, suspendable := false }
                      else h) } } ∧
            (s.permits.hold = .granted → t.permits = { s.permits with hold := .interrupted } ∧
              ∃ unstated : Byte, t.notices = (notify [7, 3, unstated] s).notices) ∧
            (s.permits.hold ≠ .granted → t.permits = s.permits ∧ t.notices = s.notices)) ∧
      (s.store.backlog = 3 →
        (((∃ i < 8, s.store.dirty.get i = true) ∨ s.store.checkpointWaits = true ∨ s.store.checkpointHeld = true) →
          exec .checkpointPeriodExpiry s =
            exec .trickleCheckpointRequest { s with store := { s.store with lastExpiry := s.clock.counter } }) ∧
        ((∀ i < 8, s.store.dirty.get i = false) → s.store.checkpointWaits = false → s.store.checkpointHeld = false →
          s.permits.hold = .free →
            exec .checkpointPeriodExpiry s =
              .next { s with store := { s.store with lastExpiry := s.clock.counter, backlog := 0 } }))) ∧
    (∀ g : Nat, g < 8 → s.store.dirty.get g = true → 0 < s.store.backlog → s.store.pointer < 8 →
      (∀ i < (g + 8 - s.store.pointer) % 8, s.store.dirty.get ((s.store.pointer + i) % 8) = false) →
      s.store.checkpointWaits = false → s.store.checkpointHeld = false → (∀ o ∈ s.store.queue, 5 < o.cls) →
        (s.store.holder = none →
          exec .trickleCheckpointRequest s =
            .next { s with
              store :=
                { s.store with
                  dirty := s.store.dirty.set g false
                  pointer := (g + 1) % 8
                  holder := some ⟨⟨.checkpoint g, 6, .nobody⟩, 0, true,
                    .image ((s.machines.filter fun m => m.reg.position / 8 == g).map fun m =>
                      ⟨m.number, m.reg.position, m.tally, m.cards, m.accepted⟩)⟩ } }) ∧
        (s.store.holder ≠ none →
          exec .trickleCheckpointRequest s =
            .next { s with
              store := { s.store with queue := s.store.queue ++ [⟨.checkpoint g, 6, .nobody⟩] } })) ∧
    ((s.store.backlog = 0 ∨ (∀ i < 8, s.store.dirty.get i = false) ∨ s.store.checkpointWaits = true ∨
        s.store.checkpointHeld = true ∨ ∃ o ∈ s.store.queue, o.cls ≤ 5) →
      exec .trickleCheckpointRequest s = .next s) ∧
    ∀ (h : Holder) (g : Nat) (entries : List ImageEntry) (v : NvArray), s.store.serving = none →
      s.store.holder = some h → h.op.work = .checkpoint g → h.data = .image entries →
      v = { s.nv with
        stamp := s.nv.stamp + 1
        images := s.nv.images.set g ⟨some ⟨s.nv.stamp + 1, entries⟩, (s.nv.images.get g).current⟩ } →
        (∀ resumed : State,
          resumed =
            (if s.store.backlog = 3 ∧ s.permits.hold = .interrupted then
              { s with
                permits := { s.permits with hold := .granted }
                notices := (notify (holdGrantedNotice true) s).notices }
            else s) → s.store.backlog ≤ 3 → 1 ≤ s.store.urgent →
            (∀ next, s.store.nextDirty = some next → s.store.checkpointWaits = false →
              exec .checkpointCompletion s =
                .next (State.arrayFreed { resumed with
                  nv := v
                  store :=
                    { s.store.ending with
                      backlog := s.store.backlog - 1
                      urgent := s.store.urgent - 1
                      queue := s.store.queue ++ [⟨.checkpoint next, 1, .nobody⟩] } })) ∧
            (s.store.nextDirty = none →
              exec .checkpointCompletion s =
                .next (State.arrayFreed { resumed with
                  nv := v, store := { s.store.ending with backlog := 0, urgent := 0 } }))) ∧
        (s.store.urgent = 0 →
        (s.store.backlog ≤ 2 → (∀ i < 8, s.store.dirty.get i = false) →
          exec .checkpointCompletion s =
            .next (State.arrayFreed { s with nv := v, store := { s.store.ending with backlog := 0 } })) ∧
        (s.store.backlog ≤ 2 → (∃ i < 8, s.store.dirty.get i = true) →
          exec .checkpointCompletion s =
            exec .trickleCheckpointRequest
              (State.arrayFreed { s with nv := v, store := { s.store.ending with backlog := s.store.backlog - 1 } })) ∧
        (s.store.backlog = 3 → s.permits.hold = .interrupted →
          ∃ t, exec .checkpointCompletion s = .next t ∧ t.permits.hold = .granted ∧ t.nv = v ∧
            t.notices = (notify (holdGrantedNotice true) s).notices))

/-! ## The cabinet port and the notices -/

/-- A notice occupies an even span, its length or one more with a fill byte; where the span is at most the free space it is
laid from the write position onward around the ring, the write position and the unread bytes advance by it and the index
takes its start, span and time; otherwise it is not written and the overflow flag is set. The event that asked for it is
made in full all the same, and the index never holds more than 1024 entries (10 R189). Each notice has the bytes of 12 R205,
in the fields of 12 R202, high byte first: lines, severities, causes of a clear, causes of a start, clock and battery states
are numbered in the order of their tables (log entry 17), the frozen latch and a join's reconciliation 1 or 0 (log entry
62), totals beyond a field carried by their low-order bytes (log entry 19), a pending set's zones as the model keeps them,
in ascending order (log entry 55), and the third byte of HoldInterrupted is a free value (log entry 8). -/
def Obligations.NoticesAreWrittenWhereTheyFit : Prop :=
  (∀ (a : NoticeArea) (bytes : List Byte) (counter : Seconds) (span : Nat), a.sound = true → 3 ≤ bytes.length →
    span = (if bytes.length % 2 = 0 then bytes.length else bytes.length + 1) →
      a.writePos % 2 = 0 ∧ span % 2 = 0 ∧ a.index.length ≤ 1024 ∧
      (span ≤ 4096 - a.unread →
        ∃ ring : List Host.Cell,
          a.write bytes counter =
            { a with
              ring := ring
              writePos := (a.writePos + span) % 4096
              unread := a.unread + span
              index := a.index ++ [⟨a.writePos, span, counter⟩] } ∧
          readRing ring a.writePos bytes.length = bytes ∧
          ∀ x < 4096, span ≤ (x + 4096 - a.writePos) % 4096 → readCell ring x = readCell a.ring x) ∧
      (4096 - a.unread < span → a.write bytes counter = { a with overflow := true })) ∧
  (∀ (s : State) (bytes : List Byte),
    ∃ output : Bool,
      notify bytes s = { s with notices := { s.notices.write bytes s.clock.counter with output := output } }) ∧
  (∀ n : Nat,
    byte1 n = [BitVec.ofNat 8 n] ∧ byte2 n = [BitVec.ofNat 8 (n / 256), BitVec.ofNat 8 n] ∧
    byte3 n = [BitVec.ofNat 8 (n / 65536), BitVec.ofNat 8 (n / 256), BitVec.ofNat 8 n] ∧
    byte4 n =
      [BitVec.ofNat 8 (n / 16777216), BitVec.ofNat 8 (n / 65536), BitVec.ofNat 8 (n / 256), BitVec.ofNat 8 n]) ∧
  (∀ (d : Date) (minute : Nat),
    dateBytes (some d) = [BitVec.ofNat 8 (d.year - 2000), BitVec.ofNat 8 d.month, BitVec.ofNat 8 d.day] ∧
    momentBytes (some ⟨d, minute⟩) = dateBytes (some d) ++ byte2 minute ∧
    dateBytes none = [255, 0, 0] ∧ momentBytes none = [255, 0, 0, 0, 0]) ∧
  (∀ (i : Nat) (k : FaultKind),
    [FaultKind.paperOut, .paperLow, .ticketJam, .coinJam, .cardReader, .doorOpen, .batteryLow, .boxOut, .boxNearFull,
        .boxFull, .boxConflict, .cashTamper, .dropHeld, .silent, .tallyGap][i]? = some k → k.number = i + 1) ∧
  (∀ (n count : Nat) (k : FaultKind) (severity : Severity) (again : Bool) (time : Option Moment),
    faultRaisedNotice n k severity again count time =
      byte1 0 ++ byte1 13 ++ byte2 n ++ byte1 k.number ++
        byte1 (match severity with | .warning => 0 | .fault => 1 | .alarm => 2) ++ byte1 (if again then 1 else 0) ++
        byte1 count ++ momentBytes time) ∧
  (∀ (n : Nat) (k : FaultKind) (cause : ClearCause) (time : Option Moment),
    faultClearedNotice n k cause time =
      byte1 1 ++ byte1 11 ++ byte2 n ++ byte1 k.number ++
        byte1 (match cause with
          | .report => 0
          | .inserted => 1
          | .removed => 2
          | .dropWritten => 3
          | .heard => 4
          | .ackCabinet => 5
          | .ackRound => 6) ++ momentBytes time) ∧
  (∀ r : DropRecord,
    dropRecordedNotice r =
      byte1 2 ++ byte1 12 ++ byte2 r.number ++ byte2 r.snapshot.machine ++ byte2 (r.snapshot.round.getD 0) ++
        byte4 r.snapshot.cash) ∧
  (∀ (r : Round) (count : EntryState → Nat),
    (∀ state, count state = (r.entries.filter fun e => decide (e.state = state)).length) →
      roundClosedNotice r =
        byte1 3 ++ byte1 17 ++ byte2 r.number ++ byte1 (count .collected) ++ byte1 (count .skipped) ++
          byte1 (count .unfinished) ++ byte4 r.cash ++
          byte1 (match r.openedBy with | .cabinet => 0 | .roundPort => 1) ++ momentBytes r.openedAt) ∧
  (∀ covered : List (Nat × Nat),
    tariffActivatedNotice covered =
      byte1 4 ++ byte1 (3 + 2 * covered.length) ++ byte1 covered.length ++
        covered.flatMap fun x => byte1 x.1 ++ byte1 x.2) ∧
  (∀ p : PendingSet,
    pendingAbandonedNotice p =
      byte1 5 ++ byte1 (8 + p.zones.length) ++ dateBytes (some p.activation.date) ++ byte2 p.activation.minute ++
        byte1 p.zones.length ++ p.zones.flatMap fun z => byte1 z.zone) ∧
  holdGrantedNotice false = [6, 3, 0] ∧ holdGrantedNotice true = [6, 3, 1] ∧
  (∀ unstated : Byte, holdInterruptedNotice unstated = [7, 3, unstated]) ∧ holdEndedNotice = [8, 3, 0] ∧
  (∀ (n slot : Nat) (line : LineId) (reconciled : Bool),
    machineJoinedNotice n line slot reconciled =
      byte1 9 ++ byte1 7 ++ byte2 n ++ byte1 (match line with | .a => 0 | .b => 1) ++ byte1 slot ++
        byte1 (if reconciled then 1 else 0)) ∧
  ∀ (cause : StartCause) (clockSet latch : Bool) (battery : Battery) (machines held unfetched : Nat),
    restartCompleteNotice cause clockSet battery latch machines held unfetched =
      byte1 10 ++ byte1 12 ++ byte1 (match cause with | .powerOn => 0 | .resetInput => 1 | .orderlyRestart => 2) ++
        byte1 (if clockSet then 0 else 1) ++ byte1 (match battery with | .held => 0 | .lost => 1) ++
        byte1 (if latch then 1 else 0) ++ byte2 machines ++ byte2 held ++ byte2 unfetched

/-- Status, Result, ReadNotices, AdvanceNotices, a rejected frame and the notice time-out (10 R182 to R186, R191 to
R194; 12 R204): Status returns its fields and clears the overflow flag; Result is EMPTY, PENDING, or the Final answer,
which ends the command outstanding; ReadNotices returns the bytes from the first unread; AdvanceNotices frees up to a
notice's start or the write position and refuses any other BAD_POINTER; a frame that fails its check is REJECTED, which is
the case exactly where it does not end on a byte, has fewer than two bytes, names no command, has an L that is not the one
of the table, of the mask or of the count carried, or fewer than L bytes behind it (R183; log entries 24, 59 and 60), and
bytes that pass it are not this event (log entry 10); the notice output takes its level. The result codes have the numbers
of their table. Hold, pending-set, clock, battery, key and result states are numbered from 0 in the order
of the table of R186 (12 R202; log entry 17), but the overflow flag is 1 when set and 0 when clear (log entry 62). -/
def Obligations.CabinetReadsAndNoticeCommands : Prop :=
  (∀ (i : Nat) (c : Code),
    [Code.done, .pending, .rejected, .busy, .wait, .empty, .badRequest, .notFound, .inUse, .clockUnset,
        .badTariff, .guarded, .notLoading, .tooLate, .listFull, .guardFrozen, .keyRequired, .kindNotAllowed,
        .paymentBlocked, .permitRefused,
        .balanceExhausted, .zoneChanged, .noParking, .belowMinimum, .noQuote, .quoteStale, .serialOld, .saleMismatch,
        .permitUnavailable, .balanceChanged,
        .duplicate, .tableFull, .wrongKind, .revoked, .holdInterrupted, .holdActive, .notHeld, .directoryFull, .roundOpen,
        .badList,
        .roundClosed, .entryState, .roundBusy, .notAcknowledgeable, .notActive, .badPointer, .unknownMachine, .wrongLine,
        .lineFull, .suspended,
        .notCurrent, .wrongZone, .unverified, .quoted, .free, .accepted, .idle, .left, .recorded, .held,
        .noDrop, .installed, .conflict][i]? = some c →
      c.number = i ∧ c.plain = ⟨BitVec.ofNat 8 i, []⟩) ∧
  (∀ a : Answer, answerBytes none = [] ∧ answerBytes (some a) = a.code :: byte2 a.data.length ++ a.data) ∧
  ∀ s : State, exec .noticeTimeout s =
      .next { s with
        notices := { s.notices with output := noticeLevel s.notices s.timers s.clock.counter } } ∧
    (s.power.listens = true →
      ∀ given : Answer → State → State,
        (given = fun a t =>
          { t with cabinet := { t.cabinet with answer := some a, shifted := s.cabinet.answer } }) →
        (∀ key : KeyInput,
          exec (.status key) s =
            .next { given
              ⟨Code.done.byte,
                byte1 (match s.permits.hold with
                  | .free => 0
                  | .requested => 1
                  | .granted => 2
                  | .interrupted => 3) ++
                byte1 (match s.tariff.pendingSet with
                  | none => 0
                  | some p => if p.isSealed then 2 else 1) ++
                byte1 s.store.backlog ++ byte1 (if s.clock.time = none then 1 else 0) ++
                byte1 (if s.clock.battery = .held then 0 else 1) ++
                byte1 (match key with
                  | .collect => 1
                  | .service => 2
                  | _ => 0) ++
                byte1 (if s.notices.overflow then 1 else 0) ++ byte2 s.notices.unread ++
                byte1 (match s.cabinet.result with
                  | .nothing => 0
                  | .waiting => 1
                  | .final _ => 2)⟩ s with
              notices := { s.notices with
                overflow := false
                output := noticeLevel { s.notices with overflow := false } s.timers s.clock.counter } }) ∧
        (s.cabinet.result = .nothing → exec .result s = .next (given Code.empty.plain s)) ∧
        (s.cabinet.result = .waiting → exec .result s = .next (given Code.pending.plain s)) ∧
        (∀ a, s.cabinet.result = .final a →
          exec .result s =
            .next (given a { s with cabinet := { s.cabinet with outstanding := false } })) ∧
        (∀ n : Nat,
          ((n = 0 ∨ n % 2 = 1 ∨ 256 < n) → exec (.readNotices n) s = .next (given Code.badRequest.plain s)) ∧
          (1 ≤ n → n % 2 = 0 → n ≤ 256 →
            exec (.readNotices n) s =
              .next (given
                ⟨Code.done.byte,
                  byte2 s.notices.firstUnread ++ byte2 (min n s.notices.unread) ++
                    readRing s.notices.ring s.notices.firstUnread (min n s.notices.unread)⟩
                s))) ∧
        (∀ (position : Nat) (freed : NoticeArea),
          (position ≠ s.notices.writePos → (∀ n ∈ s.notices.index, n.start ≠ position) →
            exec (.advanceNotices position) s = .next (given Code.badPointer.plain s)) ∧
          ((position = s.notices.writePos ∧
              freed = { s.notices with index := [], unread := 0, firstUnread := position } ∨
            position ≠ s.notices.writePos ∧
              (∃ before n after, s.notices.index = before ++ n :: after ∧ n.start = position ∧
                (∀ x ∈ before, x.start ≠ position) ∧ s.notices.unread = spanOf s.notices.index ∧
                freed = { s.notices with
                  index := n :: after, unread := spanOf (n :: after), firstUnread := position })) →
            exec (.advanceNotices position) s =
              .next { given Code.done.plain s with
                notices := { freed with output := noticeLevel freed s.timers s.clock.counter } })) ∧
        ∀ (edges : Nat) (bytes : List Byte),
          (frameRejected edges bytes →
            exec (.cabinetFrameRejected edges bytes) s = .next (given Code.rejected.plain s)) ∧
          (¬frameRejected edges bytes → exec (.cabinetFrameRejected edges bytes) s = .next s))

/-- SetTimers (10 R187; 03 R56; 04 R80; 07 R138): BAD_REQUEST when nothing is carried, a value is out of range or the
silence limit would exceed the release limit; otherwise, in calm and in Running at a backlog of 3, where a hold may be
Interrupted, the values carried take effect, a class-5 write records them and PENDING is answered; open quotes older than a
new lifetime are discarded, a hold older than a new limit ends with HoldEnded and its waiting returns passed to the store,
and the notice output takes its level. A period already run out counts as its expiry at once: the backlog rises by one, to
3 at most, while a group is dirty or a checkpoint waits or is in progress (08 R160). That the returns are asked before the
class-5 write, and after it the trickle checkpoint that such an expiry occasions (08 R161), is the model's choice (log
entry 43). -/
def Obligations.SetTimersTakesEffectAtOnce : Prop :=
  ∀ (s : State) (a : TimerArgs) (new : Timers), s.cabinetReady = true →
    new = ⟨a.lifetime.getD s.timers.lifetime, a.holdLimit.getD s.timers.holdLimit, a.silence.getD s.timers.silence,
      a.release.getD s.timers.release, a.period.getD s.timers.period, a.threshold.getD s.timers.threshold,
      a.timeout.getD s.timers.timeout⟩ →
    ∀ sound : Prop,
      (sound ↔
        a ≠ ⟨none, none, none, none, none, none, none⟩ ∧
          (∀ v, a.lifetime = some v → 30 ≤ v ∧ v ≤ 600) ∧ (∀ v, a.holdLimit = some v → 1 ≤ v ∧ v ≤ 60) ∧
          (∀ v, a.silence = some v → 2 ≤ v ∧ v ≤ 30) ∧ (∀ v, a.release = some v → 10 ≤ v ∧ v ≤ 255) ∧
          (∀ v, a.period = some v → 5 ≤ v ∧ v ≤ 255) ∧
          (∀ v, a.threshold = some v → 16 ≤ v ∧ v ≤ 4080 ∧ v % 2 = 0) ∧
          (∀ v, a.timeout = some v → 1 ≤ v ∧ v ≤ 255) ∧ new.silence ≤ new.release) →
      (¬sound → exec (.setTimers a) s = .next { s with cabinet := s.cabinet.answered Code.badRequest.plain }) ∧
      (sound → (s.calm = true ∨ s.backlogged = true) →
        ∀ (overdue : Prop) (quiet u : State) (counted k : StoreControl),
          (overdue ↔
            a.holdLimit ≠ none ∧ (s.permits.hold = .granted ∨ s.permits.hold = .interrupted) ∧
              ∃ start, s.permits.holdStart = some start ∧
                new.holdLimit * 60 ≤ (s.clock.counter - start).toNat) →
          quiet = { s with
            timers := new
            machines :=
              s.machines.map fun m =>
                match m.openQuote with
                | some q =>
                  if a.lifetime ≠ none ∧ new.lifetime ≤ (s.clock.counter - q.issued).toNat then
                    { m with openQuote := none }
                  else m
                | none => m
            notices := { s.notices with output := noticeLevel s.notices new s.clock.counter }
            cabinet := s.cabinet.awaiting } →
          (¬overdue → u = quiet) →
          (overdue →
            u = { quiet with
              permits := ⟨.free, none, []⟩
              store := s.permits.waitingReturns.foldl (fun c r => c.taking ⟨.giveBack r, 4, .nobody⟩) s.store
              notices := (notify holdEndedNotice quiet).notices }) →
          counted =
            (if a.period ≠ none ∧ new.period ≤ (s.clock.counter - s.store.lastExpiry).toNat then
              { u.store with
                lastExpiry := s.clock.counter
                backlog :=
                  if (∃ i ∈ List.range 8, s.store.dirty.get i = true) ∨ u.store.checkpointWaits = true ∨
                    u.store.checkpointHeld = true then min (s.store.backlog + 1) 3 else 0 }
            else u.store) →
          k = counted.taking ⟨.table (.timers a), 5, .cabinet⟩ →
            ((k.backlog = 0 ∨ (∀ i < 8, k.dirty.get i = false) ∨ k.checkpointWaits = true ∨
                k.checkpointHeld = true ∨ ∃ o ∈ k.queue, o.cls ≤ 5) →
              exec (.setTimers a) s = .next { u with store := k }) ∧
            ∀ g : Nat, g < 8 → k.dirty.get g = true → 0 < k.backlog → k.pointer < 8 →
              (∀ i < (g + 8 - k.pointer) % 8, k.dirty.get ((k.pointer + i) % 8) = false) →
              k.checkpointWaits = false → k.checkpointHeld = false → (∀ o ∈ k.queue, 5 < o.cls) →
                exec (.setTimers a) s =
                  .next { u with store := { k with queue := k.queue ++ [⟨.checkpoint g, 6, .nobody⟩] } })

/-! ## The round port -/

/-- 09 R169: a digit makes its argument ten times its former value plus the digit, modulo 1,000,000, an absent one
counting as 0; each argument thus keeps the last six digits typed; leading zeros have no value; a range is checked when
the command is executed. It is said of any characters that the port takes for the ten digits and for the comma, whatever
their codes (which are log entry 64). -/
def Obligations.ArgumentsKeepTheLastSixDigits : Prop :=
  ∀ (code : Nat → Byte) (comma : Byte),
  (∀ d ≤ 9, PortChar.kind (.char (code d)) = .digit d) → PortChar.kind (.char comma) = .comma →
  (∀ (s : State) (key : KeyInput) (l : Letter) (first second : Option Nat) (d : Nat), d ≤ 9 →
    s.power.listens = true →
      (s.roundPort.state = .entering l first second false →
        exec (.roundPortCharacter key (.char (code d))) s =
          .next { s with
            roundPort := { s.roundPort with
              state := .entering l (some ((first.getD 0 * 10 + d) % 1000000)) second false } }) ∧
      (s.roundPort.state = .entering l first second true →
        exec (.roundPortCharacter key (.char (code d))) s =
          .next { s with
            roundPort := { s.roundPort with
              state := .entering l first (some ((second.getD 0 * 10 + d) % 1000000)) true } })) ∧
  (∀ (s : State) (key : KeyInput) (l : Letter) (digits : List Nat), digits ≠ [] → (∀ d ∈ digits, d ≤ 9) →
    s.power.listens = true → s.roundPort.state = .entering l none none false →
      typeAll key (digits.map code) s =
        { s with
          roundPort := { s.roundPort with
            state := .entering l (some (digits.foldl (fun x d => 10 * x + d) 0 % 1000000)) none false } }) ∧
  (∀ (s : State) (key : KeyInput), s.power.listens = true →
    (s.roundPort.state = .entering .t none none false →
      (typeAll key ([0, 0, 0, 0, 2, 1, 4].map code) s).roundPort.state = .entering .t (some 214) none false ∧
      (typeAll key ([1, 0, 0, 0, 2, 1, 4].map code) s).roundPort.state = .entering .t (some 214) none false ∧
      (typeAll key ([2, 1, 4, 0, 0, 0, 0, 0].map code) s).roundPort.state = .entering .t (some 400000) none false) ∧
    (s.roundPort.state = .entering .p none none false →
      (typeAll key ([0, 5, 2].map code ++ [comma, code 2]) s).roundPort.state =
        .entering .p (some 52) (some 2) true)) ∧
  ∀ (s : State) (key : KeyInput) (n : Nat), s.typed .t (some n) none → (n = 0 ∨ 999 < n) →
    exec (.tallyReadout key .carriageReturn) s = .next (s.refusedAt .roundPort .badRequest)

/-- Execution at the round port (09 R167, R171, R174 to R176; 06 R124): the terminator typed is the command's row; a key
that does not allow it is answered K, a wrong form BAD_REQUEST, and any command but N ends the readout held; an N
refused for its form or its key keeps it (log entry 42), and an argument is present from its first digit on, so that a
comma alone makes no second one (R169; log entry 41). T and F take a readout of a registered machine, the sixteen lines
of R174 or a line for each fault entry that is not fresh in kind-number order (R175), and send its first line, N the
next line, and EMPTY when there is none. The characters that are no digit and end no command (R168, R170, R173): a
command letter, small or capital, opens a command in Ready and is Error in Entering; a comma is taken once; a space is
disregarded; Return in Ready, and Escape, send the prompt; any other character is Error, which sends E and takes Return
or Escape alone; while Awaiting everything is discarded. The rules name the characters and give them no codes: those here,
with 48 to 57 for the digits, are the codes of ASCII, which is the model's choice (log entry 64). -/
def Obligations.PortCommandsExecuteAndReadOut : Prop :=
  (∀ d ≤ 9, PortChar.kind (.char (BitVec.ofNat 8 (48 + d))) = .digit d) ∧ PortChar.kind (.char 0x2C) = .comma ∧
  (∀ (s : State) (key : KeyInput) (put : PortState → List PortSent → State), s.power.listens = true →
    (put = fun state sent => { s with roundPort := { s.roundPort with state := state, sent := sent } }) →
    ∀ letters : List (Letter × Nat),
      letters = [(.t, 84), (.f, 70), (.n, 78), (.o, 79), (.s, 83), (.c, 67), (.a, 65), (.p, 80), (.u, 85)] →
      (s.roundPort.state = .ready →
        (∀ x ∈ letters, ∀ code : Nat, (code = x.2 ∨ code = x.2 + 32) →
          exec (.roundPortCharacter key (.char (BitVec.ofNat 8 code))) s =
            .next (put (.entering x.1 none none false) s.roundPort.sent)) ∧
        exec (.roundPortCharacter key (.char 0x20)) s = .next s ∧
        exec (.roundPortCharacter key (.char 0x0D)) s = .next (put .ready [.prompt]) ∧
        exec (.roundPortCharacter key (.char 0x1B)) s = .next (put .ready [.prompt]) ∧
        exec (.roundPortCharacter key .broken) s = .next (put .error [.errorChar]) ∧
        ∀ b : Byte, b ∉ [0x20, 0x0D, 0x1B] → (∀ x ∈ letters, b.toNat ≠ x.2 ∧ b.toNat ≠ x.2 + 32) →
          exec (.roundPortCharacter key (.char b)) s = .next (put .error [.errorChar])) ∧
      (∀ (l : Letter) (first second : Option Nat) (comma : Bool),
        s.roundPort.state = .entering l first second comma →
          exec (.roundPortCharacter key (.char 0x2C)) s =
            .next (if comma then put .error [.errorChar]
              else put (.entering l first second true) s.roundPort.sent) ∧
          exec (.roundPortCharacter key (.char 0x20)) s = .next s ∧
          exec (.roundPortCharacter key (.char 0x1B)) s = .next (put .ready [.lineEnd, .prompt]) ∧
          exec (.roundPortCharacter key .broken) s = .next (put .error [.errorChar]) ∧
          ∀ b : Byte, b ∉ [0x20, 0x2C, 0x0D, 0x21, 0x1B] → (b.toNat < 48 ∨ 57 < b.toNat) →
            exec (.roundPortCharacter key (.char b)) s = .next (put .error [.errorChar])) ∧
      (s.roundPort.state = .error → ∀ c : PortChar,
        exec (.roundPortCharacter key c) s =
          .next (if c = .char 0x0D ∨ c = .char 0x1B then put .ready [.lineEnd, .prompt] else s)) ∧
      ∀ line, s.roundPort.state = .awaiting line → ∀ c : PortChar,
        exec (.roundPortCharacter key c) s = .next s) ∧
  ∀ (s : State) (key : KeyInput) (l : Letter) (ended : Terminator) (first second : Option Nat),
    s.typed l first second →
      exec (.roundPortCharacter key (.char (if ended = .carriageReturn then 0x0D else 0x21))) s =
        exec (l.row key ended) s ∧
      ∀ held : Option Readout, held = (if l = .n then s.roundPort.readout else none) →
        ((l ∈ [.o, .s, .c] ∧ readKey key = .off ∨ l ∈ [.a, .p, .u] ∧ readKey key ≠ .service) →
          exec (l.row key ended) s = .next { s with roundPort := ⟨.ready, held, [.keyRefused, .prompt]⟩ }) ∧
        (¬(l ∈ [.o, .s, .c] ∧ readKey key = .off ∨ l ∈ [.a, .p, .u] ∧ readKey key ≠ .service) →
          ((ended = .exclamation ∧ l ≠ .c ∨ l ∈ [.n, .o, .c] ∧ (first ≠ none ∨ second ≠ none) ∨
              l ∈ [.t, .f, .s] ∧ (first = none ∨ second ≠ none) ∨
              l ∈ [.a, .p, .u] ∧ (first = none ∨ second = none)) →
            exec (l.row key ended) s =
              .next { s with roundPort := ⟨.ready, held, [.refusal .badRequest, .prompt]⟩ })) ∧
        (ended = .carriageReturn →
          (∀ n : Nat, (l = .t ∨ l = .f) → first = some n → second = none → 1 ≤ n → n ≤ 999 →
            (s.machine? n = none →
              exec (l.row key ended) s =
                .next { s with roundPort := ⟨.ready, none, [.refusal .notFound, .prompt]⟩ }) ∧
            ∀ m, s.machine? n = some m →
              ∃ lines : List (List Nat),
                exec (l.row key ended) s =
                  .next { s with
                    roundPort := ⟨.ready, some ⟨lines, 2⟩, [.line (lines.headD []), .prompt]⟩ } ∧
                (l = .t →
                  lines.length = 16 ∧
                  lines.take 3 =
                    [[n, m.box.number, m.box.idField, m.service.number],
                      [m.tally.cash, m.tally.unitemised, m.tally.sales, m.tally.coins],
                      [m.tally.first.getD 0, m.tally.last.getD 0]] ∧
                  (∀ i < 8,
                    lines[3 + i]? = some [i, s.cash.denominations.get i, m.tally.counts.get i]) ∧
                  lines[11]? = some [m.cards.amount, m.cards.sales] ∧
                  lines[12]? = some [m.accepted.serial.getD 0, m.accepted.token.getD 0] ∧
                  lines[13]? =
                    some (match m.heldDrop with
                      | none => [0, 0]
                      | some held => [1, held.cash]) ∧
                  lines[14]? = some [m.removal.number, m.removal.dropField] ∧
                  lines[15]? =
                    some (match s.cash.round with
                      | none => [0, 0, 0]
                      | some round =>
                        match round.entries.find? fun e => e.machine == n with
                        | none => [round.number, 0, 0]
                        | some e => [round.number, e.state.number, e.drop.getD 0])) ∧
                (l = .f →
                  (∀ k : FaultKind, k ∈ m.faults.raisedKinds ↔ m.faults.get k ≠ ⟨false, none, none, 0, none⟩) ∧
                  (m.faults.raisedKinds.map FaultKind.number).Pairwise (· < ·) ∧
                  ∀ time : Option Moment → List Nat,
                    (time = fun
                      | none => [0, 0]
                      | some t => [t.date.year * 10000 + t.date.month * 100 + t.date.day, t.minute]) →
                    lines =
                      [n, m.service.number, if m.flags.heldOut then 1 else 0,
                          if m.flags.forceCardOnly then 1 else 0, if m.flags.noRound then 1 else 0,
                          m.faults.raisedKinds.length] ::
                        m.faults.raisedKinds.map fun k =>
                          [k.number, if m.faults.active k then 1 else 0, (m.faults.get k).count] ++
                            time (m.faults.get k).firstRaised ++ time (m.faults.get k).lastRaised ++
                            time (m.faults.get k).lastCleared)) ∧
          (l = .n → first = none → second = none →
            (∀ r line, s.roundPort.readout = some r → 1 ≤ r.cursor → r.lines[r.cursor - 1]? = some line →
              exec (l.row key ended) s =
                .next { s with
                  roundPort := ⟨.ready, some { r with cursor := r.cursor + 1 }, [.line line, .prompt]⟩ }) ∧
            ((∀ r, s.roundPort.readout = some r → r.lines.length < r.cursor) →
              exec (l.row key ended) s =
                .next { s with
                  roundPort := ⟨.ready, s.roundPort.readout, [.refusal .empty, .prompt]⟩ })))

/-! ## Power -/

/-- Power-on, the reset input and the loss of power (11 R199; 08 R150, R166; 01 R4, R19, R22): a start leaves everything
volatile at its start value, which no reset begins before its release, and keeps the store, the district time and the
battery state, the last order stamp among it (log entry 57), as well as what each port last sent (log entry 48), the
commands that wait and the model's counters (log entry 15) and the inputs' levels (log entry 3). Power-on senses the
battery, clears the frozen latch, and loses the time where the battery did not keep it; a clock Unset is Lost (log entry
31). Under the reset input the volatile state has its start values already (log entry 51); the latch survives it. A row
out of its place changes nothing but the level it tells (log entry 10). -/
def Obligations.StartsKeepTheStoreAndTheClock : Prop :=
  ∀ s : State,
    (∀ (kept : Bool) (on : State),
      on = { s with
        frozenLatch := false
        clock := { s.clock with
          time := if kept then s.clock.time else none
          battery := if kept = true ∧ s.clock.time ≠ none then .held else .lost } } →
      (s.power = .off →
        (s.resetInput = false → exec (.powerOn kept) s = .next (on.started .powerOn)) ∧
        (s.resetInput = true →
          exec (.powerOn kept) s = .next { on.started .resetInput with power := .resetHeld })) ∧
      (s.power ≠ .off → exec (.powerOn kept) s = .next s)) ∧
    (s.power ≠ .off →
      exec .resetAsserted s = .next { s.started .resetInput with power := .resetHeld, resetInput := true }) ∧
    (s.power = .off → exec .resetAsserted s = .next { s with resetInput := true }) ∧
    (s.power = .resetHeld →
      exec .resetReleased s = .next { s.started .resetInput with resetInput := false }) ∧
    (s.power ≠ .resetHeld → exec .resetReleased s = .next { s with resetInput := false }) ∧
    exec .powerLoss s = .next { s.started .powerOn with power := .off }

/-- Start-up completes (11 R200): every working copy is the store's, or the default where none was stored; each machine
is Absent, reconcile due, its faults fresh, its flags, recorded box, removal result and held drop stored, its totals
those of its group's checkpoint unless it was registered or snapshotted since (08 R159). RestartComplete is written
first, its frozen latch byte 1 when set and 0 when clear (log entry 62); with the clock Set the special days before the
date are pruned (01 R9), and a past-due Sealed set is activated or
a past-due Loading set abandoned, with its notice (01 R18), which lists the zones in ascending order (log entry 55), the
two class-5 writes in this order (log entry 45); then
the held drops are written as places allow (05 R96). Events of the clock due before the start are dropped (log entry
46). The PD64 is Running, its class-5 writes granted behind the held drops (log entry 52), or under the warning Flushing
with them held back, and Parked at once where no held drop is written (R196, R197). A held drop takes the first free
place (log entry 28), in class 1 under the warning, asked before Flushing is entered, and else in class 2 (log entry
44). The round port sends a line end and its prompt. -/
def Obligations.StartUpLoadsTheStore : Prop :=
  ∀ (s : State) (cause : StartCause), s.power = .starting cause → s.store = State.reset.store →
    s.restartAsked = false → (s.nv.directory.map StoredEntry.machine).Pairwise (· < ·) →
    ∀ (days : List Date) (due : Option PendingSet) (base zones : List ZoneEntry) (later : List StoreOp) (timers : Timers),
      days =
        (match s.clock.time with
          | none => s.nv.specialDays
          | some t => s.nv.specialDays.filter fun d => decide (t.date.key ≤ d.key)) →
      due =
        (match s.now with
          | none => none
          | some t => s.nv.pendingSet.filter fun p => p.activation.atOrBefore t) →
      base =
        ((List.range 16).map fun z =>
          match s.nv.tariffs.find? fun x => x.1 == z with
          | some x => ⟨x.2, 0⟩
          | none => ⟨factoryTariff, 0⟩) →
      zones =
        (match due with
          | some p => if p.isSealed then p.zones.foldl activateZone base else base
          | none => base) →
      later =
        ((if days = s.nv.specialDays then [] else [⟨.table (.specialDays days), 5, .nobody⟩]) ++
          match due with
          | none => []
          | some p =>
            if p.isSealed then
              [⟨.table (.activation (p.zones.map fun z => (z.zone, (zones.getD z.zone ⟨factoryTariff, 0⟩).tariff))),
                5, .nobody⟩]
            else [⟨.table (.pendingSet none), 5, .nobody⟩]) →
      timers =
        ⟨s.nv.timers.lifetime.getD 120, s.nv.timers.holdLimit.getD 20, s.nv.timers.silence.getD 5,
          s.nv.timers.release.getD 60, s.nv.timers.period.getD 15, s.nv.timers.threshold.getD 512,
          s.nv.timers.timeout.getD 10⟩ →
      ∃ (load : StoredEntry → MachineRecord) (told noticed loaded asked : State),
        told =
          notify
            (restartCompleteNotice cause s.clock.time.isSome s.clock.battery s.frozenLatch s.nv.directory.length
              (s.nv.directory.filter fun e => (s.nv.boxRecord e.machine).held.isSome).length
              (s.nv.places.filter fun p => !p.fetched).length)
            { s with timers := timers } ∧
        noticed =
          (match due with
            | none => told
            | some p =>
              if p.isSealed then
                notify
                  (tariffActivatedNotice
                    (p.zones.map fun z => (z.zone, (zones.getD z.zone ⟨factoryTariff, 0⟩).generation)))
                  told
              else notify (pendingAbandonedNotice p) told) ∧
        loaded = { s with
          safe := false
          clock := { s.clock with minuteDue := false, midnightDue := false }
          tariff :=
            ⟨zones, days, if due = none then s.nv.pendingSet else none,
              s.nv.guardWord.getD ⟨.low, 0, false, .opened⟩⟩
          cash :=
            ⟨s.nv.denominations.getD (Octet.const 0), s.nv.nextPlace,
              (s.nv.places.filter fun p => !p.fetched).length, s.nv.dropCounter, none, s.nv.round⟩
          machines := s.nv.directory.map load
          lineA := { s.lineA with enable := s.nv.enableA.getD (BitVec.allOnes 32) }
          lineB := { s.lineB with enable := s.nv.enableB.getD (BitVec.allOnes 32) }
          timers := timers
          notices := noticed.notices
          roundPort := { s.roundPort with sent := [.lineEnd, .prompt] }
          store := { s.store with queue := later } } ∧
        asked = loaded.heldDropsAsked (if s.warning then 1 else 2) .nobody ∧
        (s.warning = false →
          exec .startUpCompletion s =
            .next { asked with
              power := .running
              linesStopped := false
              store :=
                if asked.store.holder = none then later.foldl StoreControl.taking s.store else asked.store }) ∧
        (s.warning = true →
          (asked.store.holder ≠ none →
            exec .startUpCompletion s =
              .next { asked with
                power := .flushing, linesStopped := false, store := { asked.store with holdBack := true } }) ∧
          (asked.store.holder = none →
            exec .startUpCompletion s =
              .next (State.parked { asked with store := { asked.store with holdBack := true } }))) ∧
        ∀ e ∈ s.nv.directory,
          load e =
            { number := e.machine
              reg := e.reg
              tokens := 0
              openQuote := none
              commit := none
              tally := (load e).tally
              cards := (load e).cards
              accepted := (load e).accepted
              box := if (s.nv.boxRecord e.machine).recorded = .out then .out else .unknown
              recorded := (s.nv.boxRecord e.machine).recorded
              removal := (s.nv.boxRecord e.machine).removal
              reconcileDue := true
              heldDrop := (s.nv.boxRecord e.machine).held
              heldAsked := none
              faults := freshEntries
              flags := e.flags
              service := deriveService e.reg.fitted freshEntries e.flags
              link := .absent
              request := none } ∧
          ∀ x : Option (Nat × ImageEntry),
            (x =
              match (s.nv.images.get (e.reg.position / 8)).current with
              | none => none
              | some image =>
                (image.entries.find? fun y => y.machine == e.machine).map fun y => (image.stamp, y)) →
              ((x = none ∨ ∃ stamp y, x = some (stamp, y) ∧ stamp ≤ e.registered) →
                (load e).tally = emptyTally ∧ (load e).cards = ⟨0, 0⟩ ∧ (load e).accepted = ⟨none, none⟩) ∧
              ∀ stamp y, x = some (stamp, y) → e.registered < stamp →
                (load e).cards = y.cards ∧ (load e).accepted = y.accepted ∧
                  (load e).tally =
                    if stamp < (s.nv.boxRecord e.machine).snapshotStamp then emptyTally else y.tally

/-- The power-fail warning, Parked and the withdrawal, and OrderlyRestart (11 R195 to R198, R201; 08 R164, R165). The
warning in Running begins Flushing and asks the flush, held drops of the lowest machine first; where nothing is to be
saved Parked is entered at once; elsewhere the warning is only noted. With the conditions met Parked is entered, the
safe output asserted; an operation of class 1 or 2 asked there, as by ClearCardTotals, returns the PD64 to Flushing with
the lines silent, and its completion to Parked. A withdrawal returns to Running and ends the hold-back; under an
OrderlyRestart it begins the start from Parked, and lets the lines run on in Flushing. OrderlyRestart is BUSY outside
Running, its result buffer made None (log entry 49); it answers PENDING, sets the backlog to 3, interrupts a Granted
hold and flushes, and keeps the urgent count, which R162 could also be read as setting (log entry 35); a held drop's
write is asked before the class-2 write of the round record that takes its number (log entry 50), and takes the first
free place (log entry 28); the checkpoints of a flush are asked before its held drops (log entry 58). Its start begins
when all is stored, at once where nothing is to be saved. What each port last sent stays across the start (log entry
48). The third byte of HoldInterrupted is a free value (log entry 8). A row whose conditions do not hold changes nothing
(log entry 10). -/
def Obligations.FlushingParkingAndRestart : Prop :=
  ∀ s : State,
    (s.power ≠ .running → exec .powerFailWarning s = .next { s with warning := true }) ∧
    (∀ u : State, s.power = .running → s.store.freeing = false → s.restartAsked = false →
      (s.machines.map MachineRecord.number).Pairwise (· < ·) → u = State.flushAsked { s with warning := true } →
        (¬u.store.flushOver → exec .powerFailWarning s = .next u) ∧
        (u.store.flushOver → u.store.writing →
          exec .powerFailWarning s = .next { u with store := { u.store with flush := false } }) ∧
        (u.store.flushOver → ¬u.store.writing →
          exec .powerFailWarning s = .next (State.parked { u with store := { u.store with flush := false } }))) ∧
    (s.power = .flushing → s.store.flushOver → ¬s.store.writing → (s.restartAsked = false ∨ s.warning = true) →
      exec .enterParked s = .next s.parked) ∧
    ((s.power ≠ .flushing ∨ ¬s.store.flushOver ∨ s.store.writing ∨ (s.restartAsked = true ∧ s.warning = false)) →
      exec .enterParked s = .next s) ∧
    (∀ (h : Holder) (g : Nat) (entries : List ImageEntry), s.power = .flushing → s.store.serving = none →
      s.store.holder = some h → h.op.work = .checkpoint g → h.data = .image entries → s.permits.hold = .free →
      (∀ i < 8, s.store.dirty.get i = false) → (∀ o ∈ s.store.queue, s.store.holdBack = true ∧ 4 ≤ o.cls) →
      (∀ o ∈ s.store.queue, o.requester ≠ .flush) → (s.restartAsked = false ∨ s.warning = true) →
        exec .checkpointCompletion s =
          .next (State.parked { s with
            nv := { s.nv with
              stamp := s.nv.stamp + 1
              images := s.nv.images.set g ⟨some ⟨s.nv.stamp + 1, entries⟩, (s.nv.images.get g).current⟩ }
            store := { s.store with holder := none, freeing := false, flush := false, backlog := 0, urgent := 0 } })) ∧
    (∀ (n : Nat) (m : MachineRecord) (cleared : State), s.power = .parked → s.cabinetReady = true → 1 ≤ n → n ≤ 999 →
      s.machine? n = some m → s.store.freeing = false → s.store.groupWaits m.group = false →
      cleared = { s.onMachine n fun x => { x with cards := ⟨0, 0⟩ } with
        power := .flushing
        safe := false
        cabinet := s.cabinet.answered ⟨Code.done.byte, byte4 m.cards.amount ++ byte4 m.cards.sales⟩ } →
        (s.store.holder = none →
          exec (.clearCardTotals n) s =
            .next { cleared with
              store := { s.store with
                dirty := s.store.dirty.set m.group false
                pointer := (m.group + 1) % 8
                holder :=
                  some ⟨⟨.checkpoint m.group, 1, .flush⟩, 0, false,
                    .image ((cleared.machines.filter fun x => x.reg.position / 8 == m.group).map fun x =>
                      ⟨x.number, x.reg.position, x.tally, x.cards, x.accepted⟩)⟩ } }) ∧
        (s.store.holder ≠ none →
          exec (.clearCardTotals n) s =
            .next { cleared with
              store := { s.store with
                dirty := s.store.dirty.set m.group true
                queue := s.store.queue ++ [⟨.checkpoint m.group, 1, .flush⟩] } })) ∧
    (s.power ≠ .flushing → s.power ≠ .parked → exec .warningWithdrawn s = .next { s with warning := false }) ∧
    (∀ u : State, (s.power = .flushing ∨ s.power = .parked) → s.restartAsked = false →
      u = { s with
        power := .running
        safe := false
        warning := false
        linesStopped := false
        store := { s.store with holdBack := false } } →
      ((∃ t, exec .warningWithdrawn s = .next t ∧ t.power = .running ∧ t.safe = false ∧ t.warning = false ∧
        t.linesStopped = false ∧ t.store.holdBack = false) ∧
      (s.store.backlog = 0 → s.store.flush = false →
        (s.store.holder ≠ none → exec .warningWithdrawn s = .next u) ∧
        (s.store.holder = none → s.permits.hold ≠ .requested → exec .warningWithdrawn s = .next u.arrayFreed)))) ∧
    (s.power = .parked → s.restartAsked = true →
      exec .warningWithdrawn s = .next { s.started .orderlyRestart with warning := false }) ∧
    (∀ (h : Holder) (g : Nat), s.power = .flushing → s.restartAsked = true → s.store.holder = some h →
      h.op.work = .checkpoint g → h.op.requester = .flush →
        exec .warningWithdrawn s = .next { s with warning := false, linesStopped := false }) ∧
    (s.power = .flushing → s.store.flushOver → ¬s.store.writing → s.restartAsked = true → s.warning = false →
      exec .orderlyRestartStart s = .next (s.started .orderlyRestart)) ∧
    ((s.power ≠ .flushing ∨ ¬s.store.flushOver ∨ s.store.writing ∨ s.restartAsked = false ∨ s.warning = true) →
      exec .orderlyRestartStart s = .next s) ∧
    (s.cabinetReady = true →
      (s.power ≠ .running →
        exec .orderlyRestart s = .next { s with cabinet := s.cabinet.answered Code.busy.plain }) ∧
      (s.power = .running → s.store.freeing = false → s.warning = false → s.store.backlog ≤ 2 →
        (s.machines.map MachineRecord.number).Pairwise (· < ·) →
          ∃ (unstated : Byte) (taken u : State),
            taken = { s with
              restartAsked := true
              cabinet := s.cabinet.awaiting
              store := { s.store with backlog := 3 }
              freeCount := if s.permits.hold = .granted then s.freeCount + 1 else s.freeCount
              permits := if s.permits.hold = .granted then { s.permits with hold := .interrupted } else s.permits
              notices :=
                if s.permits.hold = .granted then (notify [7, 3, unstated] s).notices else s.notices } ∧
            u = taken.flushAsked ∧
            (¬u.store.flushOver → exec .orderlyRestart s = .next u) ∧
            (u.store.flushOver → u.store.writing →
              exec .orderlyRestart s = .next { u with store := { u.store with flush := false } }) ∧
            (u.store.flushOver → ¬u.store.writing →
              exec .orderlyRestart s = .next (u.started .orderlyRestart))))
end

