-- ==== Sys2Proof/Laws/Memory.lean ====
section
/-! SUPPORT. The ring of the notice area: a byte written is read back, others stay, and every write keeps the canonical
form. -/

namespace Sys2Proof.Machine

/-- What lies before the first listed offset reads as an unlisted byte. -/
theorem readCell_below {low x : Nat} {cells : List Host.Cell} (h : cellsFrom low cells = true) (hx : x < low) :
    readCell cells x = unlistedByte := by
  induction cells generalizing low with
  | nil => rfl
  | cons c rest ih =>
    obtain ⟨a, b⟩ := c
    simp only [cellsFrom, Bool.and_eq_true, decide_eq_true_eq] at h
    obtain ⟨⟨⟨ha, -⟩, -⟩, hr⟩ := h
    have hne : a ≠ x := by omega
    simpa [readCell, hne] using ih hr (by omega)

/-- A canonical list stays canonical from a lower offset. -/
theorem cellsFrom_mono {low low' : Nat} {cells : List Host.Cell} (h : cellsFrom low cells = true)
    (hl : low' ≤ low) : cellsFrom low' cells = true := by
  cases cells with
  | nil => rfl
  | cons c rest =>
    obtain ⟨a, b⟩ := c
    simp only [cellsFrom, Bool.and_eq_true, decide_eq_true_eq] at h ⊢
    exact ⟨⟨⟨by omega, h.1.1.2⟩, h.1.2⟩, h.2⟩

/-- A write inside the area keeps the canonical form. -/
theorem cellsFrom_writeCell {low x : Nat} {cells : List Host.Cell} {v : Byte} (h : cellsFrom low cells = true)
    (hl : low ≤ x) (hx : x < Config.noticeAreaBytes) : cellsFrom low (writeCell cells x v) = true := by
  induction cells generalizing low with
  | nil =>
    unfold writeCell
    split <;> simp_all [cellsFrom]
  | cons c rest ih =>
    obtain ⟨a, b⟩ := c
    simp only [cellsFrom, Bool.and_eq_true, decide_eq_true_eq] at h
    obtain ⟨⟨⟨ha, ha'⟩, hb⟩, hr⟩ := h
    unfold writeCell
    by_cases h1 : x < a
    · by_cases hv : v = unlistedByte
      · simp [h1, hv, cellsFrom, ha, ha', hb, hr]
      · have : cellsFrom (a + 1) rest = true := hr
        simp [h1, hv, cellsFrom, hl, hx, ha', hb, this, Nat.succ_le_of_lt h1]
    · by_cases h2 : x = a
      · subst h2
        by_cases hv : v = unlistedByte
        · simp only [h1, if_false, if_true, hv]
          exact cellsFrom_mono hr (by omega)
        · simp [hv, cellsFrom, ha, ha', hr]
      · have := ih hr (by omega)
        simp [h1, h2, cellsFrom, ha, ha', hb, this]

/-- A byte written is the byte read. -/
theorem readCell_writeCell_same {low x : Nat} {cells : List Host.Cell} {v : Byte} (h : cellsFrom low cells = true) :
    readCell (writeCell cells x v) x = v := by
  induction cells generalizing low with
  | nil =>
    unfold writeCell
    split <;> simp_all [readCell]
  | cons c rest ih =>
    obtain ⟨a, b⟩ := c
    simp only [cellsFrom, Bool.and_eq_true, decide_eq_true_eq] at h
    obtain ⟨-, hr⟩ := h
    unfold writeCell
    by_cases h1 : x < a
    · by_cases hv : v = unlistedByte
      · have hne : a ≠ x := by omega
        simp [h1, hv, readCell, hne, readCell_below hr (by omega : x < a + 1)]
      · simp [h1, hv, readCell]
    · by_cases h2 : x = a
      · subst h2
        by_cases hv : v = unlistedByte
        · simpa [hv] using readCell_below hr (by omega)
        · simp [hv, readCell]
      · have hne : a ≠ x := fun e => h2 e.symm
        simpa [h1, h2, readCell, hne] using ih hr

/-- A write leaves every other byte alone. -/
theorem readCell_writeCell_other {x y : Nat} {cells : List Host.Cell} {v : Byte} {low : Nat}
    (h : cellsFrom low cells = true) (hy : y ≠ x) : readCell (writeCell cells x v) y = readCell cells y := by
  induction cells generalizing low with
  | nil =>
    unfold writeCell
    split <;> simp [readCell, Ne.symm hy]
  | cons c rest ih =>
    obtain ⟨a, b⟩ := c
    simp only [cellsFrom, Bool.and_eq_true, decide_eq_true_eq] at h
    obtain ⟨-, hr⟩ := h
    unfold writeCell
    by_cases h1 : x < a
    · by_cases hv : v = unlistedByte
      · simp [h1, hv]
      · simp [h1, hv, readCell, Ne.symm hy]
    · by_cases h2 : x = a
      · subst h2
        by_cases hv : v = unlistedByte
        · simp [hv, readCell, Ne.symm hy]
        · simp [hv, readCell, Ne.symm hy]
      · simp [h1, h2, readCell, ih hr]

/-- Laying bytes around the ring keeps the canonical form. -/
theorem cellsWf_writeRing (bytes : List Byte) {cells : List Host.Cell} (start : Nat) (h : cellsWf cells = true) :
    cellsWf (writeRing cells start bytes) = true := by
  induction bytes generalizing cells start with
  | nil => exact h
  | cons v rest ih =>
    exact ih (start + 1) (cellsFrom_writeCell h (Nat.zero_le _) (Nat.mod_lt _ (by decide)))

/-- A read of n bytes returns n bytes. -/
@[simp] theorem readRing_length (cells : List Host.Cell) (start n : Nat) : (readRing cells start n).length = n := by
  induction n generalizing start with
  | zero => rfl
  | succ n ih => simp [readRing, ih]

end Sys2Proof.Machine
end

