-- ==== Sys2Proof/Laws/State.lean ====
section
/-! SUPPORT. What each plain update leaves unchanged, field by field, so that no proof unfolds a record update. -/

namespace Sys2Proof.Machine

/-! ### State.onMachine -/

@[simp] theorem State.onMachine_pending (n : Nat) (f : MachineRecord → MachineRecord) (s : State) : (s.onMachine n f).pending = s.pending := rfl
@[simp] theorem State.onMachine_nextId (n : Nat) (f : MachineRecord → MachineRecord) (s : State) : (s.onMachine n f).nextId = s.nextId := rfl
@[simp] theorem State.onMachine_freeCount (n : Nat) (f : MachineRecord → MachineRecord) (s : State) : (s.onMachine n f).freeCount = s.freeCount := rfl
@[simp] theorem State.onMachine_power (n : Nat) (f : MachineRecord → MachineRecord) (s : State) : (s.onMachine n f).power = s.power := rfl
@[simp] theorem State.onMachine_safe (n : Nat) (f : MachineRecord → MachineRecord) (s : State) : (s.onMachine n f).safe = s.safe := rfl
@[simp] theorem State.onMachine_warning (n : Nat) (f : MachineRecord → MachineRecord) (s : State) : (s.onMachine n f).warning = s.warning := rfl
@[simp] theorem State.onMachine_resetInput (n : Nat) (f : MachineRecord → MachineRecord) (s : State) : (s.onMachine n f).resetInput = s.resetInput := rfl
@[simp] theorem State.onMachine_linesStopped (n : Nat) (f : MachineRecord → MachineRecord) (s : State) : (s.onMachine n f).linesStopped = s.linesStopped := rfl
@[simp] theorem State.onMachine_restartAsked (n : Nat) (f : MachineRecord → MachineRecord) (s : State) : (s.onMachine n f).restartAsked = s.restartAsked := rfl
@[simp] theorem State.onMachine_frozenLatch (n : Nat) (f : MachineRecord → MachineRecord) (s : State) : (s.onMachine n f).frozenLatch = s.frozenLatch := rfl
@[simp] theorem State.onMachine_clock (n : Nat) (f : MachineRecord → MachineRecord) (s : State) : (s.onMachine n f).clock = s.clock := rfl
@[simp] theorem State.onMachine_tariff (n : Nat) (f : MachineRecord → MachineRecord) (s : State) : (s.onMachine n f).tariff = s.tariff := rfl
@[simp] theorem State.onMachine_permits (n : Nat) (f : MachineRecord → MachineRecord) (s : State) : (s.onMachine n f).permits = s.permits := rfl
@[simp] theorem State.onMachine_cash (n : Nat) (f : MachineRecord → MachineRecord) (s : State) : (s.onMachine n f).cash = s.cash := rfl
@[simp] theorem State.onMachine_summary (n : Nat) (f : MachineRecord → MachineRecord) (s : State) : (s.onMachine n f).summary = s.summary := rfl
@[simp] theorem State.onMachine_lineA (n : Nat) (f : MachineRecord → MachineRecord) (s : State) : (s.onMachine n f).lineA = s.lineA := rfl
@[simp] theorem State.onMachine_lineB (n : Nat) (f : MachineRecord → MachineRecord) (s : State) : (s.onMachine n f).lineB = s.lineB := rfl
@[simp] theorem State.onMachine_timers (n : Nat) (f : MachineRecord → MachineRecord) (s : State) : (s.onMachine n f).timers = s.timers := rfl
@[simp] theorem State.onMachine_store (n : Nat) (f : MachineRecord → MachineRecord) (s : State) : (s.onMachine n f).store = s.store := rfl
@[simp] theorem State.onMachine_nv (n : Nat) (f : MachineRecord → MachineRecord) (s : State) : (s.onMachine n f).nv = s.nv := rfl
@[simp] theorem State.onMachine_roundPort (n : Nat) (f : MachineRecord → MachineRecord) (s : State) : (s.onMachine n f).roundPort = s.roundPort := rfl
@[simp] theorem State.onMachine_cabinet (n : Nat) (f : MachineRecord → MachineRecord) (s : State) : (s.onMachine n f).cabinet = s.cabinet := rfl
@[simp] theorem State.onMachine_notices (n : Nat) (f : MachineRecord → MachineRecord) (s : State) : (s.onMachine n f).notices = s.notices := rfl

/-! ### State.onStore -/

@[simp] theorem State.onStore_pending (f : StoreControl → StoreControl) (s : State) : (s.onStore f).pending = s.pending := rfl
@[simp] theorem State.onStore_nextId (f : StoreControl → StoreControl) (s : State) : (s.onStore f).nextId = s.nextId := rfl
@[simp] theorem State.onStore_freeCount (f : StoreControl → StoreControl) (s : State) : (s.onStore f).freeCount = s.freeCount := rfl
@[simp] theorem State.onStore_power (f : StoreControl → StoreControl) (s : State) : (s.onStore f).power = s.power := rfl
@[simp] theorem State.onStore_safe (f : StoreControl → StoreControl) (s : State) : (s.onStore f).safe = s.safe := rfl
@[simp] theorem State.onStore_warning (f : StoreControl → StoreControl) (s : State) : (s.onStore f).warning = s.warning := rfl
@[simp] theorem State.onStore_resetInput (f : StoreControl → StoreControl) (s : State) : (s.onStore f).resetInput = s.resetInput := rfl
@[simp] theorem State.onStore_linesStopped (f : StoreControl → StoreControl) (s : State) : (s.onStore f).linesStopped = s.linesStopped := rfl
@[simp] theorem State.onStore_restartAsked (f : StoreControl → StoreControl) (s : State) : (s.onStore f).restartAsked = s.restartAsked := rfl
@[simp] theorem State.onStore_frozenLatch (f : StoreControl → StoreControl) (s : State) : (s.onStore f).frozenLatch = s.frozenLatch := rfl
@[simp] theorem State.onStore_clock (f : StoreControl → StoreControl) (s : State) : (s.onStore f).clock = s.clock := rfl
@[simp] theorem State.onStore_tariff (f : StoreControl → StoreControl) (s : State) : (s.onStore f).tariff = s.tariff := rfl
@[simp] theorem State.onStore_permits (f : StoreControl → StoreControl) (s : State) : (s.onStore f).permits = s.permits := rfl
@[simp] theorem State.onStore_cash (f : StoreControl → StoreControl) (s : State) : (s.onStore f).cash = s.cash := rfl
@[simp] theorem State.onStore_machines (f : StoreControl → StoreControl) (s : State) : (s.onStore f).machines = s.machines := rfl
@[simp] theorem State.onStore_summary (f : StoreControl → StoreControl) (s : State) : (s.onStore f).summary = s.summary := rfl
@[simp] theorem State.onStore_lineA (f : StoreControl → StoreControl) (s : State) : (s.onStore f).lineA = s.lineA := rfl
@[simp] theorem State.onStore_lineB (f : StoreControl → StoreControl) (s : State) : (s.onStore f).lineB = s.lineB := rfl
@[simp] theorem State.onStore_timers (f : StoreControl → StoreControl) (s : State) : (s.onStore f).timers = s.timers := rfl
@[simp] theorem State.onStore_nv (f : StoreControl → StoreControl) (s : State) : (s.onStore f).nv = s.nv := rfl
@[simp] theorem State.onStore_roundPort (f : StoreControl → StoreControl) (s : State) : (s.onStore f).roundPort = s.roundPort := rfl
@[simp] theorem State.onStore_cabinet (f : StoreControl → StoreControl) (s : State) : (s.onStore f).cabinet = s.cabinet := rfl
@[simp] theorem State.onStore_notices (f : StoreControl → StoreControl) (s : State) : (s.onStore f).notices = s.notices := rfl

/-! ### State.onArray -/

@[simp] theorem State.onArray_pending (f : NvArray → NvArray) (s : State) : (s.onArray f).pending = s.pending := rfl
@[simp] theorem State.onArray_nextId (f : NvArray → NvArray) (s : State) : (s.onArray f).nextId = s.nextId := rfl
@[simp] theorem State.onArray_freeCount (f : NvArray → NvArray) (s : State) : (s.onArray f).freeCount = s.freeCount := rfl
@[simp] theorem State.onArray_power (f : NvArray → NvArray) (s : State) : (s.onArray f).power = s.power := rfl
@[simp] theorem State.onArray_safe (f : NvArray → NvArray) (s : State) : (s.onArray f).safe = s.safe := rfl
@[simp] theorem State.onArray_warning (f : NvArray → NvArray) (s : State) : (s.onArray f).warning = s.warning := rfl
@[simp] theorem State.onArray_resetInput (f : NvArray → NvArray) (s : State) : (s.onArray f).resetInput = s.resetInput := rfl
@[simp] theorem State.onArray_linesStopped (f : NvArray → NvArray) (s : State) : (s.onArray f).linesStopped = s.linesStopped := rfl
@[simp] theorem State.onArray_restartAsked (f : NvArray → NvArray) (s : State) : (s.onArray f).restartAsked = s.restartAsked := rfl
@[simp] theorem State.onArray_frozenLatch (f : NvArray → NvArray) (s : State) : (s.onArray f).frozenLatch = s.frozenLatch := rfl
@[simp] theorem State.onArray_clock (f : NvArray → NvArray) (s : State) : (s.onArray f).clock = s.clock := rfl
@[simp] theorem State.onArray_tariff (f : NvArray → NvArray) (s : State) : (s.onArray f).tariff = s.tariff := rfl
@[simp] theorem State.onArray_permits (f : NvArray → NvArray) (s : State) : (s.onArray f).permits = s.permits := rfl
@[simp] theorem State.onArray_cash (f : NvArray → NvArray) (s : State) : (s.onArray f).cash = s.cash := rfl
@[simp] theorem State.onArray_machines (f : NvArray → NvArray) (s : State) : (s.onArray f).machines = s.machines := rfl
@[simp] theorem State.onArray_summary (f : NvArray → NvArray) (s : State) : (s.onArray f).summary = s.summary := rfl
@[simp] theorem State.onArray_lineA (f : NvArray → NvArray) (s : State) : (s.onArray f).lineA = s.lineA := rfl
@[simp] theorem State.onArray_lineB (f : NvArray → NvArray) (s : State) : (s.onArray f).lineB = s.lineB := rfl
@[simp] theorem State.onArray_timers (f : NvArray → NvArray) (s : State) : (s.onArray f).timers = s.timers := rfl
@[simp] theorem State.onArray_store (f : NvArray → NvArray) (s : State) : (s.onArray f).store = s.store := rfl
@[simp] theorem State.onArray_roundPort (f : NvArray → NvArray) (s : State) : (s.onArray f).roundPort = s.roundPort := rfl
@[simp] theorem State.onArray_cabinet (f : NvArray → NvArray) (s : State) : (s.onArray f).cabinet = s.cabinet := rfl
@[simp] theorem State.onArray_notices (f : NvArray → NvArray) (s : State) : (s.onArray f).notices = s.notices := rfl

/-! ### State.onLine -/

@[simp] theorem State.onLine_pending (line : LineId) (f : LineState → LineState) (s : State) : (s.onLine line f).pending = s.pending := by cases line <;> rfl
@[simp] theorem State.onLine_nextId (line : LineId) (f : LineState → LineState) (s : State) : (s.onLine line f).nextId = s.nextId := by cases line <;> rfl
@[simp] theorem State.onLine_freeCount (line : LineId) (f : LineState → LineState) (s : State) : (s.onLine line f).freeCount = s.freeCount := by cases line <;> rfl
@[simp] theorem State.onLine_power (line : LineId) (f : LineState → LineState) (s : State) : (s.onLine line f).power = s.power := by cases line <;> rfl
@[simp] theorem State.onLine_safe (line : LineId) (f : LineState → LineState) (s : State) : (s.onLine line f).safe = s.safe := by cases line <;> rfl
@[simp] theorem State.onLine_warning (line : LineId) (f : LineState → LineState) (s : State) : (s.onLine line f).warning = s.warning := by cases line <;> rfl
@[simp] theorem State.onLine_resetInput (line : LineId) (f : LineState → LineState) (s : State) : (s.onLine line f).resetInput = s.resetInput := by cases line <;> rfl
@[simp] theorem State.onLine_linesStopped (line : LineId) (f : LineState → LineState) (s : State) : (s.onLine line f).linesStopped = s.linesStopped := by cases line <;> rfl
@[simp] theorem State.onLine_restartAsked (line : LineId) (f : LineState → LineState) (s : State) : (s.onLine line f).restartAsked = s.restartAsked := by cases line <;> rfl
@[simp] theorem State.onLine_frozenLatch (line : LineId) (f : LineState → LineState) (s : State) : (s.onLine line f).frozenLatch = s.frozenLatch := by cases line <;> rfl
@[simp] theorem State.onLine_clock (line : LineId) (f : LineState → LineState) (s : State) : (s.onLine line f).clock = s.clock := by cases line <;> rfl
@[simp] theorem State.onLine_tariff (line : LineId) (f : LineState → LineState) (s : State) : (s.onLine line f).tariff = s.tariff := by cases line <;> rfl
@[simp] theorem State.onLine_permits (line : LineId) (f : LineState → LineState) (s : State) : (s.onLine line f).permits = s.permits := by cases line <;> rfl
@[simp] theorem State.onLine_cash (line : LineId) (f : LineState → LineState) (s : State) : (s.onLine line f).cash = s.cash := by cases line <;> rfl
@[simp] theorem State.onLine_machines (line : LineId) (f : LineState → LineState) (s : State) : (s.onLine line f).machines = s.machines := by cases line <;> rfl
@[simp] theorem State.onLine_summary (line : LineId) (f : LineState → LineState) (s : State) : (s.onLine line f).summary = s.summary := by cases line <;> rfl
@[simp] theorem State.onLine_timers (line : LineId) (f : LineState → LineState) (s : State) : (s.onLine line f).timers = s.timers := by cases line <;> rfl
@[simp] theorem State.onLine_store (line : LineId) (f : LineState → LineState) (s : State) : (s.onLine line f).store = s.store := by cases line <;> rfl
@[simp] theorem State.onLine_nv (line : LineId) (f : LineState → LineState) (s : State) : (s.onLine line f).nv = s.nv := by cases line <;> rfl
@[simp] theorem State.onLine_roundPort (line : LineId) (f : LineState → LineState) (s : State) : (s.onLine line f).roundPort = s.roundPort := by cases line <;> rfl
@[simp] theorem State.onLine_cabinet (line : LineId) (f : LineState → LineState) (s : State) : (s.onLine line f).cabinet = s.cabinet := by cases line <;> rfl
@[simp] theorem State.onLine_notices (line : LineId) (f : LineState → LineState) (s : State) : (s.onLine line f).notices = s.notices := by cases line <;> rfl

/-! ### setHeard -/

@[simp] theorem setHeard_pending (line : LineId) (h : Heard) (s : State) : (setHeard line h s).pending = s.pending := by cases line <;> rfl
@[simp] theorem setHeard_nextId (line : LineId) (h : Heard) (s : State) : (setHeard line h s).nextId = s.nextId := by cases line <;> rfl
@[simp] theorem setHeard_freeCount (line : LineId) (h : Heard) (s : State) : (setHeard line h s).freeCount = s.freeCount := by cases line <;> rfl
@[simp] theorem setHeard_power (line : LineId) (h : Heard) (s : State) : (setHeard line h s).power = s.power := by cases line <;> rfl
@[simp] theorem setHeard_safe (line : LineId) (h : Heard) (s : State) : (setHeard line h s).safe = s.safe := by cases line <;> rfl
@[simp] theorem setHeard_warning (line : LineId) (h : Heard) (s : State) : (setHeard line h s).warning = s.warning := by cases line <;> rfl
@[simp] theorem setHeard_resetInput (line : LineId) (h : Heard) (s : State) : (setHeard line h s).resetInput = s.resetInput := by cases line <;> rfl
@[simp] theorem setHeard_linesStopped (line : LineId) (h : Heard) (s : State) : (setHeard line h s).linesStopped = s.linesStopped := by cases line <;> rfl
@[simp] theorem setHeard_restartAsked (line : LineId) (h : Heard) (s : State) : (setHeard line h s).restartAsked = s.restartAsked := by cases line <;> rfl
@[simp] theorem setHeard_frozenLatch (line : LineId) (h : Heard) (s : State) : (setHeard line h s).frozenLatch = s.frozenLatch := by cases line <;> rfl
@[simp] theorem setHeard_clock (line : LineId) (h : Heard) (s : State) : (setHeard line h s).clock = s.clock := by cases line <;> rfl
@[simp] theorem setHeard_tariff (line : LineId) (h : Heard) (s : State) : (setHeard line h s).tariff = s.tariff := by cases line <;> rfl
@[simp] theorem setHeard_permits (line : LineId) (h : Heard) (s : State) : (setHeard line h s).permits = s.permits := by cases line <;> rfl
@[simp] theorem setHeard_cash (line : LineId) (h : Heard) (s : State) : (setHeard line h s).cash = s.cash := by cases line <;> rfl
@[simp] theorem setHeard_machines (line : LineId) (h : Heard) (s : State) : (setHeard line h s).machines = s.machines := by cases line <;> rfl
@[simp] theorem setHeard_summary (line : LineId) (h : Heard) (s : State) : (setHeard line h s).summary = s.summary := by cases line <;> rfl
@[simp] theorem setHeard_timers (line : LineId) (h : Heard) (s : State) : (setHeard line h s).timers = s.timers := by cases line <;> rfl
@[simp] theorem setHeard_store (line : LineId) (h : Heard) (s : State) : (setHeard line h s).store = s.store := by cases line <;> rfl
@[simp] theorem setHeard_nv (line : LineId) (h : Heard) (s : State) : (setHeard line h s).nv = s.nv := by cases line <;> rfl
@[simp] theorem setHeard_roundPort (line : LineId) (h : Heard) (s : State) : (setHeard line h s).roundPort = s.roundPort := by cases line <;> rfl
@[simp] theorem setHeard_cabinet (line : LineId) (h : Heard) (s : State) : (setHeard line h s).cabinet = s.cabinet := by cases line <;> rfl
@[simp] theorem setHeard_notices (line : LineId) (h : Heard) (s : State) : (setHeard line h s).notices = s.notices := by cases line <;> rfl

/-! ### passPhase -/

@[simp] theorem passPhase_pending (line : LineId) (s : State) : (passPhase line s).pending = s.pending := by cases line <;> rfl
@[simp] theorem passPhase_nextId (line : LineId) (s : State) : (passPhase line s).nextId = s.nextId := by cases line <;> rfl
@[simp] theorem passPhase_freeCount (line : LineId) (s : State) : (passPhase line s).freeCount = s.freeCount := by cases line <;> rfl
@[simp] theorem passPhase_power (line : LineId) (s : State) : (passPhase line s).power = s.power := by cases line <;> rfl
@[simp] theorem passPhase_safe (line : LineId) (s : State) : (passPhase line s).safe = s.safe := by cases line <;> rfl
@[simp] theorem passPhase_warning (line : LineId) (s : State) : (passPhase line s).warning = s.warning := by cases line <;> rfl
@[simp] theorem passPhase_resetInput (line : LineId) (s : State) : (passPhase line s).resetInput = s.resetInput := by cases line <;> rfl
@[simp] theorem passPhase_linesStopped (line : LineId) (s : State) : (passPhase line s).linesStopped = s.linesStopped := by cases line <;> rfl
@[simp] theorem passPhase_restartAsked (line : LineId) (s : State) : (passPhase line s).restartAsked = s.restartAsked := by cases line <;> rfl
@[simp] theorem passPhase_frozenLatch (line : LineId) (s : State) : (passPhase line s).frozenLatch = s.frozenLatch := by cases line <;> rfl
@[simp] theorem passPhase_clock (line : LineId) (s : State) : (passPhase line s).clock = s.clock := by cases line <;> rfl
@[simp] theorem passPhase_tariff (line : LineId) (s : State) : (passPhase line s).tariff = s.tariff := by cases line <;> rfl
@[simp] theorem passPhase_permits (line : LineId) (s : State) : (passPhase line s).permits = s.permits := by cases line <;> rfl
@[simp] theorem passPhase_cash (line : LineId) (s : State) : (passPhase line s).cash = s.cash := by cases line <;> rfl
@[simp] theorem passPhase_machines (line : LineId) (s : State) : (passPhase line s).machines = s.machines := by cases line <;> rfl
@[simp] theorem passPhase_summary (line : LineId) (s : State) : (passPhase line s).summary = s.summary := by cases line <;> rfl
@[simp] theorem passPhase_timers (line : LineId) (s : State) : (passPhase line s).timers = s.timers := by cases line <;> rfl
@[simp] theorem passPhase_store (line : LineId) (s : State) : (passPhase line s).store = s.store := by cases line <;> rfl
@[simp] theorem passPhase_nv (line : LineId) (s : State) : (passPhase line s).nv = s.nv := by cases line <;> rfl
@[simp] theorem passPhase_roundPort (line : LineId) (s : State) : (passPhase line s).roundPort = s.roundPort := by cases line <;> rfl
@[simp] theorem passPhase_cabinet (line : LineId) (s : State) : (passPhase line s).cabinet = s.cabinet := by cases line <;> rfl
@[simp] theorem passPhase_notices (line : LineId) (s : State) : (passPhase line s).notices = s.notices := by cases line <;> rfl

/-! ### sendLine -/

@[simp] theorem sendLine_pending (line : LineId) (x : LineSent) (s : State) : (sendLine line x s).pending = s.pending := by cases line <;> rfl
@[simp] theorem sendLine_nextId (line : LineId) (x : LineSent) (s : State) : (sendLine line x s).nextId = s.nextId := by cases line <;> rfl
@[simp] theorem sendLine_freeCount (line : LineId) (x : LineSent) (s : State) : (sendLine line x s).freeCount = s.freeCount := by cases line <;> rfl
@[simp] theorem sendLine_power (line : LineId) (x : LineSent) (s : State) : (sendLine line x s).power = s.power := by cases line <;> rfl
@[simp] theorem sendLine_safe (line : LineId) (x : LineSent) (s : State) : (sendLine line x s).safe = s.safe := by cases line <;> rfl
@[simp] theorem sendLine_warning (line : LineId) (x : LineSent) (s : State) : (sendLine line x s).warning = s.warning := by cases line <;> rfl
@[simp] theorem sendLine_resetInput (line : LineId) (x : LineSent) (s : State) : (sendLine line x s).resetInput = s.resetInput := by cases line <;> rfl
@[simp] theorem sendLine_linesStopped (line : LineId) (x : LineSent) (s : State) : (sendLine line x s).linesStopped = s.linesStopped := by cases line <;> rfl
@[simp] theorem sendLine_restartAsked (line : LineId) (x : LineSent) (s : State) : (sendLine line x s).restartAsked = s.restartAsked := by cases line <;> rfl
@[simp] theorem sendLine_frozenLatch (line : LineId) (x : LineSent) (s : State) : (sendLine line x s).frozenLatch = s.frozenLatch := by cases line <;> rfl
@[simp] theorem sendLine_clock (line : LineId) (x : LineSent) (s : State) : (sendLine line x s).clock = s.clock := by cases line <;> rfl
@[simp] theorem sendLine_tariff (line : LineId) (x : LineSent) (s : State) : (sendLine line x s).tariff = s.tariff := by cases line <;> rfl
@[simp] theorem sendLine_permits (line : LineId) (x : LineSent) (s : State) : (sendLine line x s).permits = s.permits := by cases line <;> rfl
@[simp] theorem sendLine_cash (line : LineId) (x : LineSent) (s : State) : (sendLine line x s).cash = s.cash := by cases line <;> rfl
@[simp] theorem sendLine_machines (line : LineId) (x : LineSent) (s : State) : (sendLine line x s).machines = s.machines := by cases line <;> rfl
@[simp] theorem sendLine_summary (line : LineId) (x : LineSent) (s : State) : (sendLine line x s).summary = s.summary := by cases line <;> rfl
@[simp] theorem sendLine_timers (line : LineId) (x : LineSent) (s : State) : (sendLine line x s).timers = s.timers := by cases line <;> rfl
@[simp] theorem sendLine_store (line : LineId) (x : LineSent) (s : State) : (sendLine line x s).store = s.store := by cases line <;> rfl
@[simp] theorem sendLine_nv (line : LineId) (x : LineSent) (s : State) : (sendLine line x s).nv = s.nv := by cases line <;> rfl
@[simp] theorem sendLine_roundPort (line : LineId) (x : LineSent) (s : State) : (sendLine line x s).roundPort = s.roundPort := by cases line <;> rfl
@[simp] theorem sendLine_cabinet (line : LineId) (x : LineSent) (s : State) : (sendLine line x s).cabinet = s.cabinet := by cases line <;> rfl
@[simp] theorem sendLine_notices (line : LineId) (x : LineSent) (s : State) : (sendLine line x s).notices = s.notices := by cases line <;> rfl

/-! ### decideOutput -/

@[simp] theorem decideOutput_pending (s : State) : (decideOutput s).pending = s.pending := rfl
@[simp] theorem decideOutput_nextId (s : State) : (decideOutput s).nextId = s.nextId := rfl
@[simp] theorem decideOutput_freeCount (s : State) : (decideOutput s).freeCount = s.freeCount := rfl
@[simp] theorem decideOutput_power (s : State) : (decideOutput s).power = s.power := rfl
@[simp] theorem decideOutput_safe (s : State) : (decideOutput s).safe = s.safe := rfl
@[simp] theorem decideOutput_warning (s : State) : (decideOutput s).warning = s.warning := rfl
@[simp] theorem decideOutput_resetInput (s : State) : (decideOutput s).resetInput = s.resetInput := rfl
@[simp] theorem decideOutput_linesStopped (s : State) : (decideOutput s).linesStopped = s.linesStopped := rfl
@[simp] theorem decideOutput_restartAsked (s : State) : (decideOutput s).restartAsked = s.restartAsked := rfl
@[simp] theorem decideOutput_frozenLatch (s : State) : (decideOutput s).frozenLatch = s.frozenLatch := rfl
@[simp] theorem decideOutput_clock (s : State) : (decideOutput s).clock = s.clock := rfl
@[simp] theorem decideOutput_tariff (s : State) : (decideOutput s).tariff = s.tariff := rfl
@[simp] theorem decideOutput_permits (s : State) : (decideOutput s).permits = s.permits := rfl
@[simp] theorem decideOutput_cash (s : State) : (decideOutput s).cash = s.cash := rfl
@[simp] theorem decideOutput_machines (s : State) : (decideOutput s).machines = s.machines := rfl
@[simp] theorem decideOutput_summary (s : State) : (decideOutput s).summary = s.summary := rfl
@[simp] theorem decideOutput_lineA (s : State) : (decideOutput s).lineA = s.lineA := rfl
@[simp] theorem decideOutput_lineB (s : State) : (decideOutput s).lineB = s.lineB := rfl
@[simp] theorem decideOutput_timers (s : State) : (decideOutput s).timers = s.timers := rfl
@[simp] theorem decideOutput_store (s : State) : (decideOutput s).store = s.store := rfl
@[simp] theorem decideOutput_nv (s : State) : (decideOutput s).nv = s.nv := rfl
@[simp] theorem decideOutput_roundPort (s : State) : (decideOutput s).roundPort = s.roundPort := rfl
@[simp] theorem decideOutput_cabinet (s : State) : (decideOutput s).cabinet = s.cabinet := rfl

/-! ### notify -/

@[simp] theorem notify_pending (b : List Byte) (s : State) : (notify b s).pending = s.pending := rfl
@[simp] theorem notify_nextId (b : List Byte) (s : State) : (notify b s).nextId = s.nextId := rfl
@[simp] theorem notify_freeCount (b : List Byte) (s : State) : (notify b s).freeCount = s.freeCount := rfl
@[simp] theorem notify_power (b : List Byte) (s : State) : (notify b s).power = s.power := rfl
@[simp] theorem notify_safe (b : List Byte) (s : State) : (notify b s).safe = s.safe := rfl
@[simp] theorem notify_warning (b : List Byte) (s : State) : (notify b s).warning = s.warning := rfl
@[simp] theorem notify_resetInput (b : List Byte) (s : State) : (notify b s).resetInput = s.resetInput := rfl
@[simp] theorem notify_linesStopped (b : List Byte) (s : State) : (notify b s).linesStopped = s.linesStopped := rfl
@[simp] theorem notify_restartAsked (b : List Byte) (s : State) : (notify b s).restartAsked = s.restartAsked := rfl
@[simp] theorem notify_frozenLatch (b : List Byte) (s : State) : (notify b s).frozenLatch = s.frozenLatch := rfl
@[simp] theorem notify_clock (b : List Byte) (s : State) : (notify b s).clock = s.clock := rfl
@[simp] theorem notify_tariff (b : List Byte) (s : State) : (notify b s).tariff = s.tariff := rfl
@[simp] theorem notify_permits (b : List Byte) (s : State) : (notify b s).permits = s.permits := rfl
@[simp] theorem notify_cash (b : List Byte) (s : State) : (notify b s).cash = s.cash := rfl
@[simp] theorem notify_machines (b : List Byte) (s : State) : (notify b s).machines = s.machines := rfl
@[simp] theorem notify_summary (b : List Byte) (s : State) : (notify b s).summary = s.summary := rfl
@[simp] theorem notify_lineA (b : List Byte) (s : State) : (notify b s).lineA = s.lineA := rfl
@[simp] theorem notify_lineB (b : List Byte) (s : State) : (notify b s).lineB = s.lineB := rfl
@[simp] theorem notify_timers (b : List Byte) (s : State) : (notify b s).timers = s.timers := rfl
@[simp] theorem notify_store (b : List Byte) (s : State) : (notify b s).store = s.store := rfl
@[simp] theorem notify_nv (b : List Byte) (s : State) : (notify b s).nv = s.nv := rfl
@[simp] theorem notify_roundPort (b : List Byte) (s : State) : (notify b s).roundPort = s.roundPort := rfl
@[simp] theorem notify_cabinet (b : List Byte) (s : State) : (notify b s).cabinet = s.cabinet := rfl

/-! ### stampWrite -/

@[simp] theorem stampWrite_pending (s : State) : (stampWrite s).pending = s.pending := rfl
@[simp] theorem stampWrite_nextId (s : State) : (stampWrite s).nextId = s.nextId := rfl
@[simp] theorem stampWrite_freeCount (s : State) : (stampWrite s).freeCount = s.freeCount := rfl
@[simp] theorem stampWrite_power (s : State) : (stampWrite s).power = s.power := rfl
@[simp] theorem stampWrite_safe (s : State) : (stampWrite s).safe = s.safe := rfl
@[simp] theorem stampWrite_warning (s : State) : (stampWrite s).warning = s.warning := rfl
@[simp] theorem stampWrite_resetInput (s : State) : (stampWrite s).resetInput = s.resetInput := rfl
@[simp] theorem stampWrite_linesStopped (s : State) : (stampWrite s).linesStopped = s.linesStopped := rfl
@[simp] theorem stampWrite_restartAsked (s : State) : (stampWrite s).restartAsked = s.restartAsked := rfl
@[simp] theorem stampWrite_frozenLatch (s : State) : (stampWrite s).frozenLatch = s.frozenLatch := rfl
@[simp] theorem stampWrite_clock (s : State) : (stampWrite s).clock = s.clock := rfl
@[simp] theorem stampWrite_tariff (s : State) : (stampWrite s).tariff = s.tariff := rfl
@[simp] theorem stampWrite_permits (s : State) : (stampWrite s).permits = s.permits := rfl
@[simp] theorem stampWrite_cash (s : State) : (stampWrite s).cash = s.cash := rfl
@[simp] theorem stampWrite_machines (s : State) : (stampWrite s).machines = s.machines := rfl
@[simp] theorem stampWrite_summary (s : State) : (stampWrite s).summary = s.summary := rfl
@[simp] theorem stampWrite_lineA (s : State) : (stampWrite s).lineA = s.lineA := rfl
@[simp] theorem stampWrite_lineB (s : State) : (stampWrite s).lineB = s.lineB := rfl
@[simp] theorem stampWrite_timers (s : State) : (stampWrite s).timers = s.timers := rfl
@[simp] theorem stampWrite_store (s : State) : (stampWrite s).store = s.store := rfl
@[simp] theorem stampWrite_roundPort (s : State) : (stampWrite s).roundPort = s.roundPort := rfl
@[simp] theorem stampWrite_cabinet (s : State) : (stampWrite s).cabinet = s.cabinet := rfl
@[simp] theorem stampWrite_notices (s : State) : (stampWrite s).notices = s.notices := rfl

/-! ### keepReturn -/

@[simp] theorem keepReturn_pending (r : Return) (s : State) : (keepReturn r s).pending = s.pending := rfl
@[simp] theorem keepReturn_nextId (r : Return) (s : State) : (keepReturn r s).nextId = s.nextId := rfl
@[simp] theorem keepReturn_freeCount (r : Return) (s : State) : (keepReturn r s).freeCount = s.freeCount := rfl
@[simp] theorem keepReturn_power (r : Return) (s : State) : (keepReturn r s).power = s.power := rfl
@[simp] theorem keepReturn_safe (r : Return) (s : State) : (keepReturn r s).safe = s.safe := rfl
@[simp] theorem keepReturn_warning (r : Return) (s : State) : (keepReturn r s).warning = s.warning := rfl
@[simp] theorem keepReturn_resetInput (r : Return) (s : State) : (keepReturn r s).resetInput = s.resetInput := rfl
@[simp] theorem keepReturn_linesStopped (r : Return) (s : State) : (keepReturn r s).linesStopped = s.linesStopped := rfl
@[simp] theorem keepReturn_restartAsked (r : Return) (s : State) : (keepReturn r s).restartAsked = s.restartAsked := rfl
@[simp] theorem keepReturn_frozenLatch (r : Return) (s : State) : (keepReturn r s).frozenLatch = s.frozenLatch := rfl
@[simp] theorem keepReturn_clock (r : Return) (s : State) : (keepReturn r s).clock = s.clock := rfl
@[simp] theorem keepReturn_tariff (r : Return) (s : State) : (keepReturn r s).tariff = s.tariff := rfl
@[simp] theorem keepReturn_cash (r : Return) (s : State) : (keepReturn r s).cash = s.cash := rfl
@[simp] theorem keepReturn_machines (r : Return) (s : State) : (keepReturn r s).machines = s.machines := rfl
@[simp] theorem keepReturn_summary (r : Return) (s : State) : (keepReturn r s).summary = s.summary := rfl
@[simp] theorem keepReturn_lineA (r : Return) (s : State) : (keepReturn r s).lineA = s.lineA := rfl
@[simp] theorem keepReturn_lineB (r : Return) (s : State) : (keepReturn r s).lineB = s.lineB := rfl
@[simp] theorem keepReturn_timers (r : Return) (s : State) : (keepReturn r s).timers = s.timers := rfl
@[simp] theorem keepReturn_store (r : Return) (s : State) : (keepReturn r s).store = s.store := rfl
@[simp] theorem keepReturn_nv (r : Return) (s : State) : (keepReturn r s).nv = s.nv := rfl
@[simp] theorem keepReturn_roundPort (r : Return) (s : State) : (keepReturn r s).roundPort = s.roundPort := rfl
@[simp] theorem keepReturn_cabinet (r : Return) (s : State) : (keepReturn r s).cabinet = s.cabinet := rfl
@[simp] theorem keepReturn_notices (r : Return) (s : State) : (keepReturn r s).notices = s.notices := rfl

/-! ### putRound -/

@[simp] theorem putRound_pending (r : Round) (s : State) : (putRound r s).pending = s.pending := rfl
@[simp] theorem putRound_nextId (r : Round) (s : State) : (putRound r s).nextId = s.nextId := rfl
@[simp] theorem putRound_freeCount (r : Round) (s : State) : (putRound r s).freeCount = s.freeCount := rfl
@[simp] theorem putRound_power (r : Round) (s : State) : (putRound r s).power = s.power := rfl
@[simp] theorem putRound_safe (r : Round) (s : State) : (putRound r s).safe = s.safe := rfl
@[simp] theorem putRound_warning (r : Round) (s : State) : (putRound r s).warning = s.warning := rfl
@[simp] theorem putRound_resetInput (r : Round) (s : State) : (putRound r s).resetInput = s.resetInput := rfl
@[simp] theorem putRound_linesStopped (r : Round) (s : State) : (putRound r s).linesStopped = s.linesStopped := rfl
@[simp] theorem putRound_restartAsked (r : Round) (s : State) : (putRound r s).restartAsked = s.restartAsked := rfl
@[simp] theorem putRound_frozenLatch (r : Round) (s : State) : (putRound r s).frozenLatch = s.frozenLatch := rfl
@[simp] theorem putRound_clock (r : Round) (s : State) : (putRound r s).clock = s.clock := rfl
@[simp] theorem putRound_tariff (r : Round) (s : State) : (putRound r s).tariff = s.tariff := rfl
@[simp] theorem putRound_permits (r : Round) (s : State) : (putRound r s).permits = s.permits := rfl
@[simp] theorem putRound_machines (r : Round) (s : State) : (putRound r s).machines = s.machines := rfl
@[simp] theorem putRound_summary (r : Round) (s : State) : (putRound r s).summary = s.summary := rfl
@[simp] theorem putRound_lineA (r : Round) (s : State) : (putRound r s).lineA = s.lineA := rfl
@[simp] theorem putRound_lineB (r : Round) (s : State) : (putRound r s).lineB = s.lineB := rfl
@[simp] theorem putRound_timers (r : Round) (s : State) : (putRound r s).timers = s.timers := rfl
@[simp] theorem putRound_store (r : Round) (s : State) : (putRound r s).store = s.store := rfl
@[simp] theorem putRound_nv (r : Round) (s : State) : (putRound r s).nv = s.nv := rfl
@[simp] theorem putRound_roundPort (r : Round) (s : State) : (putRound r s).roundPort = s.roundPort := rfl
@[simp] theorem putRound_cabinet (r : Round) (s : State) : (putRound r s).cabinet = s.cabinet := rfl
@[simp] theorem putRound_notices (r : Round) (s : State) : (putRound r s).notices = s.notices := rfl

/-! ### answer -/

@[simp] theorem answer_pending (a : Answer) (s : State) : (answer a s).pending = s.pending := rfl
@[simp] theorem answer_nextId (a : Answer) (s : State) : (answer a s).nextId = s.nextId := rfl
@[simp] theorem answer_freeCount (a : Answer) (s : State) : (answer a s).freeCount = s.freeCount := rfl
@[simp] theorem answer_power (a : Answer) (s : State) : (answer a s).power = s.power := rfl
@[simp] theorem answer_safe (a : Answer) (s : State) : (answer a s).safe = s.safe := rfl
@[simp] theorem answer_warning (a : Answer) (s : State) : (answer a s).warning = s.warning := rfl
@[simp] theorem answer_resetInput (a : Answer) (s : State) : (answer a s).resetInput = s.resetInput := rfl
@[simp] theorem answer_linesStopped (a : Answer) (s : State) : (answer a s).linesStopped = s.linesStopped := rfl
@[simp] theorem answer_restartAsked (a : Answer) (s : State) : (answer a s).restartAsked = s.restartAsked := rfl
@[simp] theorem answer_frozenLatch (a : Answer) (s : State) : (answer a s).frozenLatch = s.frozenLatch := rfl
@[simp] theorem answer_clock (a : Answer) (s : State) : (answer a s).clock = s.clock := rfl
@[simp] theorem answer_tariff (a : Answer) (s : State) : (answer a s).tariff = s.tariff := rfl
@[simp] theorem answer_permits (a : Answer) (s : State) : (answer a s).permits = s.permits := rfl
@[simp] theorem answer_cash (a : Answer) (s : State) : (answer a s).cash = s.cash := rfl
@[simp] theorem answer_machines (a : Answer) (s : State) : (answer a s).machines = s.machines := rfl
@[simp] theorem answer_summary (a : Answer) (s : State) : (answer a s).summary = s.summary := rfl
@[simp] theorem answer_lineA (a : Answer) (s : State) : (answer a s).lineA = s.lineA := rfl
@[simp] theorem answer_lineB (a : Answer) (s : State) : (answer a s).lineB = s.lineB := rfl
@[simp] theorem answer_timers (a : Answer) (s : State) : (answer a s).timers = s.timers := rfl
@[simp] theorem answer_store (a : Answer) (s : State) : (answer a s).store = s.store := rfl
@[simp] theorem answer_nv (a : Answer) (s : State) : (answer a s).nv = s.nv := rfl
@[simp] theorem answer_roundPort (a : Answer) (s : State) : (answer a s).roundPort = s.roundPort := rfl
@[simp] theorem answer_notices (a : Answer) (s : State) : (answer a s).notices = s.notices := rfl

/-! ### answerPending -/

@[simp] theorem answerPending_pending (s : State) : (answerPending s).pending = s.pending := rfl
@[simp] theorem answerPending_nextId (s : State) : (answerPending s).nextId = s.nextId := rfl
@[simp] theorem answerPending_freeCount (s : State) : (answerPending s).freeCount = s.freeCount := rfl
@[simp] theorem answerPending_power (s : State) : (answerPending s).power = s.power := rfl
@[simp] theorem answerPending_safe (s : State) : (answerPending s).safe = s.safe := rfl
@[simp] theorem answerPending_warning (s : State) : (answerPending s).warning = s.warning := rfl
@[simp] theorem answerPending_resetInput (s : State) : (answerPending s).resetInput = s.resetInput := rfl
@[simp] theorem answerPending_linesStopped (s : State) : (answerPending s).linesStopped = s.linesStopped := rfl
@[simp] theorem answerPending_restartAsked (s : State) : (answerPending s).restartAsked = s.restartAsked := rfl
@[simp] theorem answerPending_frozenLatch (s : State) : (answerPending s).frozenLatch = s.frozenLatch := rfl
@[simp] theorem answerPending_clock (s : State) : (answerPending s).clock = s.clock := rfl
@[simp] theorem answerPending_tariff (s : State) : (answerPending s).tariff = s.tariff := rfl
@[simp] theorem answerPending_permits (s : State) : (answerPending s).permits = s.permits := rfl
@[simp] theorem answerPending_cash (s : State) : (answerPending s).cash = s.cash := rfl
@[simp] theorem answerPending_machines (s : State) : (answerPending s).machines = s.machines := rfl
@[simp] theorem answerPending_summary (s : State) : (answerPending s).summary = s.summary := rfl
@[simp] theorem answerPending_lineA (s : State) : (answerPending s).lineA = s.lineA := rfl
@[simp] theorem answerPending_lineB (s : State) : (answerPending s).lineB = s.lineB := rfl
@[simp] theorem answerPending_timers (s : State) : (answerPending s).timers = s.timers := rfl
@[simp] theorem answerPending_store (s : State) : (answerPending s).store = s.store := rfl
@[simp] theorem answerPending_nv (s : State) : (answerPending s).nv = s.nv := rfl
@[simp] theorem answerPending_roundPort (s : State) : (answerPending s).roundPort = s.roundPort := rfl
@[simp] theorem answerPending_notices (s : State) : (answerPending s).notices = s.notices := rfl

/-! ### refuse -/

@[simp] theorem refuse_pending (c : Code) (s : State) : (refuse c s).pending = s.pending := rfl
@[simp] theorem refuse_nextId (c : Code) (s : State) : (refuse c s).nextId = s.nextId := rfl
@[simp] theorem refuse_freeCount (c : Code) (s : State) : (refuse c s).freeCount = s.freeCount := rfl
@[simp] theorem refuse_power (c : Code) (s : State) : (refuse c s).power = s.power := rfl
@[simp] theorem refuse_safe (c : Code) (s : State) : (refuse c s).safe = s.safe := rfl
@[simp] theorem refuse_warning (c : Code) (s : State) : (refuse c s).warning = s.warning := rfl
@[simp] theorem refuse_resetInput (c : Code) (s : State) : (refuse c s).resetInput = s.resetInput := rfl
@[simp] theorem refuse_linesStopped (c : Code) (s : State) : (refuse c s).linesStopped = s.linesStopped := rfl
@[simp] theorem refuse_restartAsked (c : Code) (s : State) : (refuse c s).restartAsked = s.restartAsked := rfl
@[simp] theorem refuse_frozenLatch (c : Code) (s : State) : (refuse c s).frozenLatch = s.frozenLatch := rfl
@[simp] theorem refuse_clock (c : Code) (s : State) : (refuse c s).clock = s.clock := rfl
@[simp] theorem refuse_tariff (c : Code) (s : State) : (refuse c s).tariff = s.tariff := rfl
@[simp] theorem refuse_permits (c : Code) (s : State) : (refuse c s).permits = s.permits := rfl
@[simp] theorem refuse_cash (c : Code) (s : State) : (refuse c s).cash = s.cash := rfl
@[simp] theorem refuse_machines (c : Code) (s : State) : (refuse c s).machines = s.machines := rfl
@[simp] theorem refuse_summary (c : Code) (s : State) : (refuse c s).summary = s.summary := rfl
@[simp] theorem refuse_lineA (c : Code) (s : State) : (refuse c s).lineA = s.lineA := rfl
@[simp] theorem refuse_lineB (c : Code) (s : State) : (refuse c s).lineB = s.lineB := rfl
@[simp] theorem refuse_timers (c : Code) (s : State) : (refuse c s).timers = s.timers := rfl
@[simp] theorem refuse_store (c : Code) (s : State) : (refuse c s).store = s.store := rfl
@[simp] theorem refuse_nv (c : Code) (s : State) : (refuse c s).nv = s.nv := rfl
@[simp] theorem refuse_roundPort (c : Code) (s : State) : (refuse c s).roundPort = s.roundPort := rfl
@[simp] theorem refuse_notices (c : Code) (s : State) : (refuse c s).notices = s.notices := rfl

/-! ### answerDone -/

@[simp] theorem answerDone_pending (s : State) : (answerDone s).pending = s.pending := rfl
@[simp] theorem answerDone_nextId (s : State) : (answerDone s).nextId = s.nextId := rfl
@[simp] theorem answerDone_freeCount (s : State) : (answerDone s).freeCount = s.freeCount := rfl
@[simp] theorem answerDone_power (s : State) : (answerDone s).power = s.power := rfl
@[simp] theorem answerDone_safe (s : State) : (answerDone s).safe = s.safe := rfl
@[simp] theorem answerDone_warning (s : State) : (answerDone s).warning = s.warning := rfl
@[simp] theorem answerDone_resetInput (s : State) : (answerDone s).resetInput = s.resetInput := rfl
@[simp] theorem answerDone_linesStopped (s : State) : (answerDone s).linesStopped = s.linesStopped := rfl
@[simp] theorem answerDone_restartAsked (s : State) : (answerDone s).restartAsked = s.restartAsked := rfl
@[simp] theorem answerDone_frozenLatch (s : State) : (answerDone s).frozenLatch = s.frozenLatch := rfl
@[simp] theorem answerDone_clock (s : State) : (answerDone s).clock = s.clock := rfl
@[simp] theorem answerDone_tariff (s : State) : (answerDone s).tariff = s.tariff := rfl
@[simp] theorem answerDone_permits (s : State) : (answerDone s).permits = s.permits := rfl
@[simp] theorem answerDone_cash (s : State) : (answerDone s).cash = s.cash := rfl
@[simp] theorem answerDone_machines (s : State) : (answerDone s).machines = s.machines := rfl
@[simp] theorem answerDone_summary (s : State) : (answerDone s).summary = s.summary := rfl
@[simp] theorem answerDone_lineA (s : State) : (answerDone s).lineA = s.lineA := rfl
@[simp] theorem answerDone_lineB (s : State) : (answerDone s).lineB = s.lineB := rfl
@[simp] theorem answerDone_timers (s : State) : (answerDone s).timers = s.timers := rfl
@[simp] theorem answerDone_store (s : State) : (answerDone s).store = s.store := rfl
@[simp] theorem answerDone_nv (s : State) : (answerDone s).nv = s.nv := rfl
@[simp] theorem answerDone_roundPort (s : State) : (answerDone s).roundPort = s.roundPort := rfl
@[simp] theorem answerDone_notices (s : State) : (answerDone s).notices = s.notices := rfl

/-! ### portSend -/

@[simp] theorem portSend_pending (x : PortState) (out : List PortSent) (s : State) : (portSend x out s).pending = s.pending := rfl
@[simp] theorem portSend_nextId (x : PortState) (out : List PortSent) (s : State) : (portSend x out s).nextId = s.nextId := rfl
@[simp] theorem portSend_freeCount (x : PortState) (out : List PortSent) (s : State) : (portSend x out s).freeCount = s.freeCount := rfl
@[simp] theorem portSend_power (x : PortState) (out : List PortSent) (s : State) : (portSend x out s).power = s.power := rfl
@[simp] theorem portSend_safe (x : PortState) (out : List PortSent) (s : State) : (portSend x out s).safe = s.safe := rfl
@[simp] theorem portSend_warning (x : PortState) (out : List PortSent) (s : State) : (portSend x out s).warning = s.warning := rfl
@[simp] theorem portSend_resetInput (x : PortState) (out : List PortSent) (s : State) : (portSend x out s).resetInput = s.resetInput := rfl
@[simp] theorem portSend_linesStopped (x : PortState) (out : List PortSent) (s : State) : (portSend x out s).linesStopped = s.linesStopped := rfl
@[simp] theorem portSend_restartAsked (x : PortState) (out : List PortSent) (s : State) : (portSend x out s).restartAsked = s.restartAsked := rfl
@[simp] theorem portSend_frozenLatch (x : PortState) (out : List PortSent) (s : State) : (portSend x out s).frozenLatch = s.frozenLatch := rfl
@[simp] theorem portSend_clock (x : PortState) (out : List PortSent) (s : State) : (portSend x out s).clock = s.clock := rfl
@[simp] theorem portSend_tariff (x : PortState) (out : List PortSent) (s : State) : (portSend x out s).tariff = s.tariff := rfl
@[simp] theorem portSend_permits (x : PortState) (out : List PortSent) (s : State) : (portSend x out s).permits = s.permits := rfl
@[simp] theorem portSend_cash (x : PortState) (out : List PortSent) (s : State) : (portSend x out s).cash = s.cash := rfl
@[simp] theorem portSend_machines (x : PortState) (out : List PortSent) (s : State) : (portSend x out s).machines = s.machines := rfl
@[simp] theorem portSend_summary (x : PortState) (out : List PortSent) (s : State) : (portSend x out s).summary = s.summary := rfl
@[simp] theorem portSend_lineA (x : PortState) (out : List PortSent) (s : State) : (portSend x out s).lineA = s.lineA := rfl
@[simp] theorem portSend_lineB (x : PortState) (out : List PortSent) (s : State) : (portSend x out s).lineB = s.lineB := rfl
@[simp] theorem portSend_timers (x : PortState) (out : List PortSent) (s : State) : (portSend x out s).timers = s.timers := rfl
@[simp] theorem portSend_store (x : PortState) (out : List PortSent) (s : State) : (portSend x out s).store = s.store := rfl
@[simp] theorem portSend_nv (x : PortState) (out : List PortSent) (s : State) : (portSend x out s).nv = s.nv := rfl
@[simp] theorem portSend_cabinet (x : PortState) (out : List PortSent) (s : State) : (portSend x out s).cabinet = s.cabinet := rfl
@[simp] theorem portSend_notices (x : PortState) (out : List PortSent) (s : State) : (portSend x out s).notices = s.notices := rfl

/-! ### portQuiet -/

@[simp] theorem portQuiet_pending (x : PortState) (s : State) : (portQuiet x s).pending = s.pending := rfl
@[simp] theorem portQuiet_nextId (x : PortState) (s : State) : (portQuiet x s).nextId = s.nextId := rfl
@[simp] theorem portQuiet_freeCount (x : PortState) (s : State) : (portQuiet x s).freeCount = s.freeCount := rfl
@[simp] theorem portQuiet_power (x : PortState) (s : State) : (portQuiet x s).power = s.power := rfl
@[simp] theorem portQuiet_safe (x : PortState) (s : State) : (portQuiet x s).safe = s.safe := rfl
@[simp] theorem portQuiet_warning (x : PortState) (s : State) : (portQuiet x s).warning = s.warning := rfl
@[simp] theorem portQuiet_resetInput (x : PortState) (s : State) : (portQuiet x s).resetInput = s.resetInput := rfl
@[simp] theorem portQuiet_linesStopped (x : PortState) (s : State) : (portQuiet x s).linesStopped = s.linesStopped := rfl
@[simp] theorem portQuiet_restartAsked (x : PortState) (s : State) : (portQuiet x s).restartAsked = s.restartAsked := rfl
@[simp] theorem portQuiet_frozenLatch (x : PortState) (s : State) : (portQuiet x s).frozenLatch = s.frozenLatch := rfl
@[simp] theorem portQuiet_clock (x : PortState) (s : State) : (portQuiet x s).clock = s.clock := rfl
@[simp] theorem portQuiet_tariff (x : PortState) (s : State) : (portQuiet x s).tariff = s.tariff := rfl
@[simp] theorem portQuiet_permits (x : PortState) (s : State) : (portQuiet x s).permits = s.permits := rfl
@[simp] theorem portQuiet_cash (x : PortState) (s : State) : (portQuiet x s).cash = s.cash := rfl
@[simp] theorem portQuiet_machines (x : PortState) (s : State) : (portQuiet x s).machines = s.machines := rfl
@[simp] theorem portQuiet_summary (x : PortState) (s : State) : (portQuiet x s).summary = s.summary := rfl
@[simp] theorem portQuiet_lineA (x : PortState) (s : State) : (portQuiet x s).lineA = s.lineA := rfl
@[simp] theorem portQuiet_lineB (x : PortState) (s : State) : (portQuiet x s).lineB = s.lineB := rfl
@[simp] theorem portQuiet_timers (x : PortState) (s : State) : (portQuiet x s).timers = s.timers := rfl
@[simp] theorem portQuiet_store (x : PortState) (s : State) : (portQuiet x s).store = s.store := rfl
@[simp] theorem portQuiet_nv (x : PortState) (s : State) : (portQuiet x s).nv = s.nv := rfl
@[simp] theorem portQuiet_cabinet (x : PortState) (s : State) : (portQuiet x s).cabinet = s.cabinet := rfl
@[simp] theorem portQuiet_notices (x : PortState) (s : State) : (portQuiet x s).notices = s.notices := rfl

/-! ### portReply -/

@[simp] theorem portReply_pending (out : List PortSent) (s : State) : (portReply out s).pending = s.pending := rfl
@[simp] theorem portReply_nextId (out : List PortSent) (s : State) : (portReply out s).nextId = s.nextId := rfl
@[simp] theorem portReply_freeCount (out : List PortSent) (s : State) : (portReply out s).freeCount = s.freeCount := rfl
@[simp] theorem portReply_power (out : List PortSent) (s : State) : (portReply out s).power = s.power := rfl
@[simp] theorem portReply_safe (out : List PortSent) (s : State) : (portReply out s).safe = s.safe := rfl
@[simp] theorem portReply_warning (out : List PortSent) (s : State) : (portReply out s).warning = s.warning := rfl
@[simp] theorem portReply_resetInput (out : List PortSent) (s : State) : (portReply out s).resetInput = s.resetInput := rfl
@[simp] theorem portReply_linesStopped (out : List PortSent) (s : State) : (portReply out s).linesStopped = s.linesStopped := rfl
@[simp] theorem portReply_restartAsked (out : List PortSent) (s : State) : (portReply out s).restartAsked = s.restartAsked := rfl
@[simp] theorem portReply_frozenLatch (out : List PortSent) (s : State) : (portReply out s).frozenLatch = s.frozenLatch := rfl
@[simp] theorem portReply_clock (out : List PortSent) (s : State) : (portReply out s).clock = s.clock := rfl
@[simp] theorem portReply_tariff (out : List PortSent) (s : State) : (portReply out s).tariff = s.tariff := rfl
@[simp] theorem portReply_permits (out : List PortSent) (s : State) : (portReply out s).permits = s.permits := rfl
@[simp] theorem portReply_cash (out : List PortSent) (s : State) : (portReply out s).cash = s.cash := rfl
@[simp] theorem portReply_machines (out : List PortSent) (s : State) : (portReply out s).machines = s.machines := rfl
@[simp] theorem portReply_summary (out : List PortSent) (s : State) : (portReply out s).summary = s.summary := rfl
@[simp] theorem portReply_lineA (out : List PortSent) (s : State) : (portReply out s).lineA = s.lineA := rfl
@[simp] theorem portReply_lineB (out : List PortSent) (s : State) : (portReply out s).lineB = s.lineB := rfl
@[simp] theorem portReply_timers (out : List PortSent) (s : State) : (portReply out s).timers = s.timers := rfl
@[simp] theorem portReply_store (out : List PortSent) (s : State) : (portReply out s).store = s.store := rfl
@[simp] theorem portReply_nv (out : List PortSent) (s : State) : (portReply out s).nv = s.nv := rfl
@[simp] theorem portReply_cabinet (out : List PortSent) (s : State) : (portReply out s).cabinet = s.cabinet := rfl
@[simp] theorem portReply_notices (out : List PortSent) (s : State) : (portReply out s).notices = s.notices := rfl

/-! ### The fields that change -/

@[simp] theorem State.onMachine_machines (n : Nat) (f : MachineRecord → MachineRecord) (s : State) :
    (s.onMachine n f).machines = s.machines.map fun m => if m.number = n then f m else m := rfl
@[simp] theorem State.onStore_store (f : StoreControl → StoreControl) (s : State) :
    (s.onStore f).store = f s.store := rfl
@[simp] theorem State.onArray_nv (f : NvArray → NvArray) (s : State) : (s.onArray f).nv = f s.nv := rfl
@[simp] theorem putRound_round (r : Round) (s : State) : (putRound r s).cash.round = some r := rfl
@[simp] theorem answer_answer (a : Answer) (s : State) : (answer a s).cabinet.answer = some a := rfl
@[simp] theorem answerPending_outstanding (s : State) : (answerPending s).cabinet.outstanding = true := rfl
@[simp] theorem stampWrite_stamp (s : State) : (stampWrite s).nv.stamp = s.nv.stamp + 1 := rfl
@[simp] theorem decideOutput_output (s : State) :
    (decideOutput s).notices.output = noticeLevel s.notices s.timers s.clock.counter := rfl
@[simp] theorem State.line_setHeard (line : LineId) (h : Heard) (s : State) :
    (setHeard line h s).line line = { s.line line with heard := h } := by cases line <;> rfl

end Sys2Proof.Machine
end

