-- ==== Sys2Proof/Laws/Ops.lean ====
section
/-! SUPPORT. For each shared operation, once, all that it can change; and what the shared operations come to in the plain
forms of state of Safety.lean. -/

namespace Sys2Proof.Machine

/-! ## The memory at reset -/

/-- The ring is canonical at reset. -/
theorem cellsWf_reset : cellsWf State.reset.notices.ring = true := rfl

/-! ## Machines, replies, quotes: only `machines` changes -/

/-- A reply changes the machines alone. -/
theorem giveReply_frame (n id : Nat) (a : Answer) (s : State) :
    ∃ ms, giveReply n id a s = { s with machines := ms } := ⟨_, rfl⟩

/-- A release changes the machines alone. -/
theorem releaseSlot_frame (n : Nat) (s : State) : ∃ ms, releaseSlot n s = { s with machines := ms } := ⟨_, rfl⟩

/-- A quote returned to open changes the machines alone. -/
theorem reopenQuote_frame (n : Nat) (q : OpenQuote) (s : State) :
    ∃ ms, reopenQuote n q s = { s with machines := ms } := by
  unfold reopenQuote
  split
  · exact ⟨s.machines, rfl⟩
  · exact ⟨_, rfl⟩

/-- The end of a held decrement changes the machines alone. -/
theorem endHeldDecrement_frame (w : DecrementWork) (s : State) :
    ∃ ms, endHeldDecrement w s = { s with machines := ms } := by
  unfold endHeldDecrement
  split
  · exact ⟨s.machines, rfl⟩
  · split
    · exact ⟨s.machines, rfl⟩
    · split
      · rename_i c _ _
        by_cases hc : c.superseded = true
        · exact ⟨_, by simp only [hc, if_true]; rfl⟩
        · obtain ⟨ms, h⟩ :=
            reopenQuote_frame w.machine c.quote (s.onMachine w.machine fun m => { m with commit := none })
          exact ⟨_, by simp only [hc, h]; rfl⟩
      · exact ⟨s.machines, rfl⟩

/-! Opening a quote changes the token counter, the open quote and the mark of a sale in flight alone. -/

@[simp] theorem MachineRecord.quoted_number (m : MachineRecord) (q : OpenQuote) : (m.quoted q).number = m.number := rfl
@[simp] theorem MachineRecord.quoted_reg (m : MachineRecord) (q : OpenQuote) : (m.quoted q).reg = m.reg := rfl
@[simp] theorem MachineRecord.quoted_tally (m : MachineRecord) (q : OpenQuote) : (m.quoted q).tally = m.tally := rfl
@[simp] theorem MachineRecord.quoted_cards (m : MachineRecord) (q : OpenQuote) : (m.quoted q).cards = m.cards := rfl
@[simp] theorem MachineRecord.quoted_accepted (m : MachineRecord) (q : OpenQuote) : (m.quoted q).accepted = m.accepted := rfl
@[simp] theorem MachineRecord.quoted_box (m : MachineRecord) (q : OpenQuote) : (m.quoted q).box = m.box := rfl
@[simp] theorem MachineRecord.quoted_heldDrop (m : MachineRecord) (q : OpenQuote) : (m.quoted q).heldDrop = m.heldDrop := rfl
@[simp] theorem MachineRecord.quoted_faults (m : MachineRecord) (q : OpenQuote) : (m.quoted q).faults = m.faults := rfl
@[simp] theorem MachineRecord.quoted_flags (m : MachineRecord) (q : OpenQuote) : (m.quoted q).flags = m.flags := rfl
@[simp] theorem MachineRecord.quoted_service (m : MachineRecord) (q : OpenQuote) : (m.quoted q).service = m.service := rfl
@[simp] theorem MachineRecord.quoted_link (m : MachineRecord) (q : OpenQuote) : (m.quoted q).link = m.link := rfl
@[simp] theorem MachineRecord.quoted_request (m : MachineRecord) (q : OpenQuote) : (m.quoted q).request = m.request := rfl

/-- The machines keep their numbers and their order under a change that keeps a machine's number. -/
theorem onMachine_numbers (n : Nat) (f : MachineRecord → MachineRecord) (s : State)
    (hf : ∀ m, (f m).number = m.number) :
    (s.onMachine n f).machines.map MachineRecord.number = s.machines.map MachineRecord.number := by
  simp only [State.onMachine_machines, List.map_map]
  refine List.map_congr_left fun m _ => ?_
  by_cases h : m.number = n <;> simp [h, hf]

/-- A machine looked up after a change of another machine. -/
theorem machine?_onMachine_other {n k : Nat} {f : MachineRecord → MachineRecord} {s : State}
    (hf : ∀ m, (f m).number = m.number) (h : k ≠ n) : (s.onMachine n f).machine? k = s.machine? k := by
  simp only [State.machine?, State.onMachine_machines]
  induction s.machines with
  | nil => rfl
  | cons m rest ih =>
    by_cases hm : m.number = n
    · have h2 : ((f m).number == k) = false := by simp [hf, hm, Ne.symm h]
      have h3 : (n == k) = false := by simp [Ne.symm h]
      simp only [List.map_cons, hm, if_true, List.find?_cons, h2, h3, ih]
    · simp only [List.map_cons, hm, if_false, List.find?_cons]
      cases (m.number == k) <;> simp [ih]

/-- A machine looked up after a change of it. -/
theorem machine?_onMachine_same {n : Nat} {f : MachineRecord → MachineRecord} {s : State}
    (hf : ∀ m, (f m).number = m.number) : (s.onMachine n f).machine? n = (s.machine? n).map f := by
  simp only [State.machine?, State.onMachine_machines]
  induction s.machines with
  | nil => rfl
  | cons m rest ih =>
    by_cases hm : m.number = n
    · simp [hm, hf]
    · simp only [List.map_cons, hm, if_false, List.find?_cons]
      have h1 : (m.number == n) = false := by simp [hm]
      simp [h1, ih]

/-- The machine found has the number looked for. -/
theorem machine?_number {s : State} {n : Nat} {m : MachineRecord} (h : s.machine? n = some m) : m.number = n := by
  simpa using List.find?_some h

/-! ## Faults: machines, summary and notices change -/

/-- A notice changes the notice area alone. -/
theorem notify_frame (b : List Byte) (s : State) : ∃ na, notify b s = { s with notices := na } := ⟨_, rfl⟩

/-- A raise changes the machines, the summary and the notice area. -/
theorem raiseFault_frame (n : Nat) (k : FaultKind) (s : State) :
    ∃ ms sm na, raiseFault n k s = { s with machines := ms, summary := sm, notices := na } := by
  unfold raiseFault
  split
  · exact ⟨s.machines, s.summary, s.notices, rfl⟩
  · exact ⟨_, _, _, rfl⟩

/-- A raise of a kind only where it is not active changes no more than a raise. -/
theorem raiseInactive_frame (n : Nat) (k : FaultKind) (s : State) :
    ∃ ms sm na, raiseInactive n k s = { s with machines := ms, summary := sm, notices := na } := by
  unfold raiseInactive
  split
  · exact ⟨s.machines, s.summary, s.notices, rfl⟩
  · split
    · exact ⟨s.machines, s.summary, s.notices, rfl⟩
    · exact raiseFault_frame n k s

/-- A clear changes the machines and the notice area. -/
theorem clearFault_frame (n : Nat) (k : FaultKind) (c : ClearCause) (s : State) :
    ∃ ms na, clearFault n k c s = { s with machines := ms, notices := na } := by
  unfold clearFault
  simp only
  split
  · exact ⟨s.machines, s.notices, rfl⟩
  · split
    · exact ⟨_, _, rfl⟩
    · exact ⟨s.machines, s.notices, rfl⟩

/-- A status report changes the machines, the summary and the notice area. -/
theorem statusReport_frame (n : Nat) (listed : List Nat) (s : State) :
    ∃ ms sm na, statusReport n listed s = { s with machines := ms, summary := sm, notices := na } := by
  unfold statusReport
  induction machineKinds generalizing s with
  | nil => exact ⟨s.machines, s.summary, s.notices, rfl⟩
  | cons k rest ih =>
    have hk : ∃ ms sm na, reportKind n listed k s = { s with machines := ms, summary := sm, notices := na } := by
      unfold reportKind
      split
      · exact raiseInactive_frame n k s
      · obtain ⟨ms, na, h⟩ := clearFault_frame n k .report s
        exact ⟨ms, s.summary, na, h⟩
    obtain ⟨ms, sm, na, h⟩ := hk
    obtain ⟨ms', sm', na', h'⟩ := ih { s with machines := ms, summary := sm, notices := na }
    exact ⟨ms', sm', na', by simp only [List.foldl_cons, h, h']⟩

/-! ## The arbiter: machines, the list of waiting returns and the store's state change -/

/-- A grant changes the machines, the waiting returns and the store's state. -/
theorem grantOp_frame (op : StoreOp) (s : State) :
    ∃ ms ws st, grantOp op s =
      { s with machines := ms, permits := { s.permits with waitingReturns := ws }, store := st } := by
  unfold grantOp
  split
  · split
    · rename_i w _ _
      obtain ⟨ms, h⟩ := endHeldDecrement_frame w s
      exact ⟨ms, s.permits.waitingReturns, s.store, h⟩
    · exact ⟨s.machines, s.permits.waitingReturns, _, rfl⟩
  · split
    · exact ⟨s.machines, _, s.store, rfl⟩
    · exact ⟨s.machines, s.permits.waitingReturns, _, rfl⟩
  · exact ⟨s.machines, s.permits.waitingReturns, _, rfl⟩
  · exact ⟨s.machines, s.permits.waitingReturns, _, rfl⟩

/-- Granting on changes the machines, the waiting returns and the store's state. -/
theorem grantNext_frame (fuel : Nat) (s : State) :
    ∃ ms ws st, grantNext fuel s =
      { s with machines := ms, permits := { s.permits with waitingReturns := ws }, store := st } := by
  induction fuel generalizing s with
  | zero => exact ⟨s.machines, s.permits.waitingReturns, s.store, rfl⟩
  | succ fuel ih =>
    unfold grantNext
    split
    · exact ⟨s.machines, s.permits.waitingReturns, s.store, rfl⟩
    · split
      · exact ⟨s.machines, s.permits.waitingReturns, s.store, rfl⟩
      · rename_i op rest _
        obtain ⟨ms, ws, st, h⟩ := grantOp_frame op (s.onStore fun c => { c with queue := rest })
        obtain ⟨ms', ws', st', h'⟩ := ih (grantOp op (s.onStore fun c => { c with queue := rest }))
        refine ⟨ms', ws', st', ?_⟩
        rw [h', h]
        rfl

/-- A freeing of the array changes the machines, the waiting returns and the store's state. -/
theorem freeArray_frame (s : State) :
    ∃ ms ws st, freeArray s =
      { s with machines := ms, permits := { s.permits with waitingReturns := ws }, store := st } := by
  obtain ⟨ms, ws, st, h⟩ := grantNext_frame ((s.onStore fun c => { c with freeing := false }).store.queue.length + 1)
    (s.onStore fun c => { c with freeing := false })
  exact ⟨ms, ws, st, by unfold freeArray; rw [h]; rfl⟩

/-- Outside Parked, or for classes 3 to 6, an operation asked changes no power state. -/
theorem leaveParked_of_not {op : StoreOp} {s : State} (h : s.power ≠ .parked ∨ 2 < op.cls) : leaveParked op s = s := by
  unfold leaveParked
  split
  · rename_i hp
    rcases h with h | h
    · exact absurd hp.1 h
    · omega
  · rfl

/-- Asking the store changes the power state and the safe output (in Parked alone), the machines, the waiting returns
and the store's state. -/
theorem ask_frame (op : StoreOp) (s : State) :
    ∃ pw sf ms ws st, ask op s =
      { s with
        power := pw, safe := sf, machines := ms, permits := { s.permits with waitingReturns := ws }, store := st } := by
  have hp : ∃ pw sf, leaveParked op s = { s with power := pw, safe := sf } := by
    unfold leaveParked
    split
    · exact ⟨_, _, rfl⟩
    · exact ⟨s.power, s.safe, rfl⟩
  obtain ⟨pw, sf, hp⟩ := hp
  have hg := grantOp_frame op (leaveParked op s)
  unfold ask
  simp only
  split
  · exact ⟨pw, sf, s.machines, s.permits.waitingReturns, _, by rw [hp]; rfl⟩
  · split
    · split
      · obtain ⟨ms, ws, st, h⟩ := hg
        exact ⟨pw, sf, ms, ws, st, by rw [h, hp]⟩
      · exact ⟨pw, sf, s.machines, s.permits.waitingReturns, _, by rw [hp]; rfl⟩
    · split
      · exact ⟨pw, sf, s.machines, s.permits.waitingReturns, _, by rw [hp]; rfl⟩
      · exact ⟨pw, sf, s.machines, s.permits.waitingReturns, _, by rw [hp]; rfl⟩

/-- Marking a group dirty changes no more than asking the store. -/
theorem markDirty_frame (g : Nat) (s : State) :
    ∃ pw sf ms ws st, markDirty g s =
      { s with
        power := pw, safe := sf, machines := ms, permits := { s.permits with waitingReturns := ws }, store := st } := by
  unfold markDirty
  simp only
  split
  · obtain ⟨pw, sf, ms, ws, st, h⟩ :=
      ask_frame ⟨.checkpoint g, 1, .flush⟩ (s.onStore fun c => { c with dirty := c.dirty.set g true })
    exact ⟨pw, sf, ms, ws, st, by unfold askFlushCheckpoint; rw [h]; rfl⟩
  · exact ⟨s.power, s.safe, s.machines, s.permits.waitingReturns, _, rfl⟩

/-- Asking a trickle checkpoint changes no more than asking the store. -/
theorem askTrickle_frame (s : State) :
    ∃ pw sf ms ws st, askTrickle s =
      { s with
        power := pw, safe := sf, machines := ms, permits := { s.permits with waitingReturns := ws }, store := st } := by
  unfold askTrickle
  split
  · split
    · exact ask_frame _ s
    · exact ⟨s.power, s.safe, s.machines, s.permits.waitingReturns, s.store, rfl⟩
  · exact ⟨s.power, s.safe, s.machines, s.permits.waitingReturns, s.store, rfl⟩

/-- The end of a flush changes the store's state alone. -/
theorem endFlush_frame (s : State) : ∃ st, endFlush s = { s with store := st } := by
  unfold endFlush
  split
  · exact ⟨_, rfl⟩
  · exact ⟨s.store, rfl⟩

/-- What follows at the end of an event is a start, an entry into Parked, or nothing more. -/
theorem parkOrRestart_cases (s : State) :
    (parkOrRestart s = beginStart .orderlyRestart s ∧ s.restartReady = true) ∨
      (parkOrRestart s = enterParkedNow s ∧ s.parkReady = true) ∨ parkOrRestart s = s := by
  unfold parkOrRestart
  by_cases h1 : s.restartReady = true
  · simp [h1]
  · by_cases h2 : s.parkReady = true
    · simp [h1, h2]
    · simp [h1, h2]

/-! ## The bulk-load hold -/

/-- A grant of the hold changes the hold, the lookups in flight and the notice area. -/
theorem tryGrantHold_frame (s : State) :
    ∃ pm st na, tryGrantHold s = { s with permits := pm, store := st, notices := na } := by
  unfold tryGrantHold
  split
  · exact ⟨_, _, _, rfl⟩
  · exact ⟨s.permits, s.store, s.notices, rfl⟩

/-- A movement of the backlog changes the free-value counter, the hold, the store's state and the notice area. -/
theorem setBacklog_frame (v : Nat) (s : State) :
    ∃ fc pm st na, setBacklog v s = { s with freeCount := fc, permits := pm, store := st, notices := na } := by
  unfold setBacklog
  simp only
  split
  · unfold interruptHold
    split
    · exact ⟨_, _, _, _, rfl⟩
    · exact ⟨s.freeCount, s.permits, _, s.notices, rfl⟩
  · split
    · unfold resumeHold
      split
      · exact ⟨s.freeCount, _, _, _, rfl⟩
      · obtain ⟨pm, st, na, h⟩ := tryGrantHold_frame (s.onStore fun c => { c with backlog := v })
        exact ⟨s.freeCount, pm, st, na, by rw [h]; rfl⟩
    · exact ⟨s.freeCount, s.permits, _, s.notices, rfl⟩

/-! ## The plain forms of state -/

/-- The parts of `calm`. -/
theorem State.calm_iff (s : State) :
    s.calm = true ↔
      s.power = .running ∧ s.store.backlog = 0 ∧ s.store.flush = false ∧ s.store.holdBack = false ∧
        s.store.freeing = false := by
  simp [State.calm, and_assoc]

/-- A calm event ends with nothing more. -/
theorem settle_calm {s : State} (hp : s.power = .running) (hb : s.store.backlog = 0) (hf : s.store.flush = false) :
    settle s = s := by
  have h1 : askTrickle s = s := by simp [askTrickle, StoreControl.trickleDue, hb]
  have h2 : endFlush s = s := by simp [endFlush, hf]
  simp [settle, h1, h2, parkOrRestart, State.restartReady, State.parkReady, hp]

/-- No group is dirty. -/
theorem anyDirty_eq_false (c : StoreControl) : c.anyDirty = false ↔ ∀ g < 8, c.dirty.get g = false := by
  constructor
  · intro h g hg
    simp only [StoreControl.anyDirty, Octet.toList, List.any_cons, List.any_nil, Bool.or_eq_false_iff, id] at h
    interval_cases g <;> simp [Octet.get, h]
  · intro h
    have h0 := h 0; have h1 := h 1; have h2 := h 2; have h3 := h 3
    have h4 := h 4; have h5 := h 5; have h6 := h 6; have h7 := h 7
    simp [Octet.get] at h0 h1 h2 h3 h4 h5 h6 h7
    simp [StoreControl.anyDirty, Octet.toList, *]

/-- The model's test that a flush is complete is the plain form. -/
theorem flushDrained_iff (c : StoreControl) : c.flushDrained = true ↔ c.flushOver := by
  have hq : c.queue.any StoreOp.ofFlush = false ↔ ∀ o ∈ c.queue, o.requester ≠ .flush := by
    simp [StoreOp.ofFlush]
  cases hh : c.holder <;>
    simp [StoreControl.flushDrained, StoreControl.flushOver, hh, anyDirty_eq_false, hq, StoreOp.ofFlush, and_assoc]

/-- The model's test of 11 R197 is the plain form. -/
theorem drained_iff (c : StoreControl) : c.drained = true ↔ c.flushOver ∧ ¬c.writing := by
  cases hh : c.holder <;>
    simp [StoreControl.drained, StoreControl.writing, StoreControl.writeHeld, hh, flushDrained_iff, and_assoc]

/-- A calm state is steady. -/
theorem State.steady_of_calm {s : State} (h : s.calm = true) : s.steady := by
  obtain ⟨hp, hb, hf, -, hfr⟩ := s.calm_iff.mp h
  exact ⟨.inl hp, hfr, by simp [hf], .inl hb⟩

/-- A state in which an urgent checkpoint stands at a backlog of 3 is steady. -/
theorem State.steady_of_backlogged {s : State} (h : s.backlogged = true) : s.steady := by
  simp only [State.backlogged, Bool.and_eq_true, beq_iff_eq, Bool.not_eq_true', Bool.or_eq_true] at h
  obtain ⟨⟨⟨⟨⟨hp, -⟩, hc⟩, hf⟩, -⟩, hfr⟩ := h
  exact ⟨.inl hp, hfr, by simp [hf], .inr (.inr (hc.imp_right .inl))⟩

/-- An event that leaves a steady state ends with nothing more. -/
theorem settle_steady {s : State} (h : s.steady) : settle s = s := by
  obtain ⟨hp, -, hf, ht⟩ := h
  have h1 : askTrickle s = s := by
    have : s.store.trickleDue = false := by
      rcases ht with h | h | h | h | ⟨o, ho, hc⟩
      · simp [StoreControl.trickleDue, h]
      · simp [StoreControl.trickleDue, (anyDirty_eq_false _).2 h]
      · simp [StoreControl.trickleDue, h]
      · simp [StoreControl.trickleDue, h]
      · have : (s.store.queue.any fun o => decide (o.cls ≤ 5)) = true := List.any_eq_true.2 ⟨o, ho, by simpa using hc⟩
        simp [StoreControl.trickleDue, this]
    simp [askTrickle, this]
  have h2 : endFlush s = s := by
    by_cases hfl : s.store.flush = true
    · have : s.store.flushDrained = false := by
        rw [Bool.eq_false_iff, ne_eq, flushDrained_iff]; exact hf hfl
      simp [endFlush, this]
    · simp [endFlush, hfl]
  have h3 : s.power = .flushing → s.store.drained = false := by
    intro hpf
    rw [Bool.eq_false_iff, ne_eq, drained_iff]
    rcases hp with hp | ⟨-, hp | hp⟩
    · simp [hp] at hpf
    · exact fun h => hp h.1
    · exact fun h => h.2 hp
  have h4 : s.restartReady = false := by
    by_cases hpf : s.power = .flushing
    · simp [State.restartReady, h3 hpf]
    · simp [State.restartReady, hpf]
  have h5 : s.parkReady = false := by
    by_cases hpf : s.power = .flushing
    · simp [State.parkReady, h3 hpf]
    · simp [State.parkReady, hpf]
  simp [settle, h1, h2, parkOrRestart, h4, h5]

/-- A group is marked dirty in a steady state. -/
theorem markDirty_steady {s : State} (h : s.steady) (g : Nat) : markDirty g s = { s with store := s.groupMarked g } := by
  obtain ⟨hp, hfr, -, -⟩ := h
  have hpp : (s.power == .parked) = false := by rcases hp with hp | ⟨hp, -⟩ <;> simp [hp]
  by_cases hm : (s.power = .flushing ∨ s.store.flush = true) ∧ (s.store.queue.any fun o => o.work == .checkpoint g) = false
  · have hl : ∀ t : State, t.power = s.power → leaveParked ⟨.checkpoint g, 1, .flush⟩ t = t := by
      intro t ht
      rcases hp with hp | ⟨hp, -⟩ <;> simp [leaveParked, ht, hp]
    have hor : (s.store.flush || s.power == .flushing) = true := by
      rcases hm.1 with h | h <;> simp [h]
    cases hh : s.store.holder <;>
      simp [markDirty, State.groupMarked, askFlushCheckpoint, ask, hl, hpp, hor, hh, hfr, State.onStore, grantOp, imageOf,
        takeArray, enqueue, MachineRecord.group, StoreControl.groupWaits, StoreWork.isRead, hm.1, -List.any_eq_false, hm.2]
  · have : ((s.store.flush || s.power == .flushing) && !s.store.queue.any fun o => o.work == .checkpoint g) = false := by
      rw [Bool.eq_false_iff]
      intro h
      apply hm
      simp only [Bool.and_eq_true, Bool.or_eq_true, beq_iff_eq, Bool.not_eq_true'] at h
      exact ⟨h.1.symm, h.2⟩
    simp [markDirty, State.groupMarked, hpp, StoreControl.groupWaits, -List.any_eq_false, hm, this, State.onStore]

/-- A write asked in calm takes the array where it is Free and waits last otherwise. -/
theorem ask_calm {op : StoreOp} {s : State} (hc : s.calm = true) (hr : op.work.isRead = false)
    (hg : ∀ t, grantOp op t = takeArray op .nothing t) : ask op s = { s with store := s.store.taking op } := by
  obtain ⟨hp, -, -, hb, hf⟩ := s.calm_iff.mp hc
  have hl : leaveParked op s = s := leaveParked_of_not (.inl (by simp [hp]))
  cases hh : s.store.holder with
  | none => simp [ask, hl, hf, hb, hh, hg, takeArray, State.onStore, StoreControl.taking, hr]
  | some h => simp [ask, hl, hf, hh, hr, enqueue, State.onStore, StoreControl.taking]

/-- A write asked in a steady state takes the array where it may be granted and waits last otherwise. -/
theorem ask_steady {op : StoreOp} {s : State} (h : s.steady) (hr : op.work.isRead = false)
    (hg : grantOp op s = takeArray op .nothing s) : ask op s = { s with store := s.store.asking op } := by
  obtain ⟨hp, hf, -, -⟩ := h
  have hl : leaveParked op s = s := leaveParked_of_not (.inl (by rcases hp with hp | ⟨hp, -⟩ <;> simp [hp]))
  have hc : op.cls ≤ 3 ∨ s.store.holdBack = false ↔ ¬(s.store.holdBack = true ∧ 4 ≤ op.cls) := by
    cases s.store.holdBack <;> simp; omega
  cases hh : s.store.holder with
  | none =>
    by_cases hb : s.store.holdBack = true ∧ 4 ≤ op.cls
    · have h3 : ¬op.cls ≤ 3 := by omega
      simp [ask, hl, hf, hh, hb, h3, enqueue, State.onStore, StoreControl.asking]
    · simp only [ask, hl, hf, hh, hc, hb, hg, StoreControl.asking, StoreControl.taking, takeArray, State.onStore, hr]
      simp
  | some h =>
    by_cases hb : s.store.holdBack = true ∧ 4 ≤ op.cls <;>
      simp [ask, hl, hf, hh, hr, hb, enqueue, State.onStore, StoreControl.asking, StoreControl.taking]

/-- A read asked in a steady state takes the array where it is Free, is served where it may suspend the holder, and waits
last otherwise. -/
theorem ask_read_steady {op : StoreOp} {s : State} (h : s.steady) (hr : op.work.isRead = true) (hc : op.cls ≤ 3)
    (hg : grantOp op s = takeArray op .nothing s) : ask op s = { s with store := s.store.reading op } := by
  obtain ⟨hp, hf, -, -⟩ := h
  have hl : leaveParked op s = s := leaveParked_of_not (.inl (by rcases hp with hp | ⟨hp, -⟩ <;> simp [hp]))
  cases hh : s.store.holder with
  | none => simp [ask, hl, hf, hh, hc, hg, takeArray, State.onStore, StoreControl.reading, hr]
  | some h =>
    cases hs : h.suspendable && s.store.serving.isNone && decide (h.suspensions < 16) <;>
      (have hs' := hs
       rw [show (16 : Nat) = Config.maxSuspensions from rfl] at hs'
       simp only [ask, hl, hf, hh, hr, hs, hs', StoreControl.reading, enqueue, State.onStore, Bool.true_and,
        Bool.false_eq_true, if_true, if_false])

/-- A state stays steady while nothing is drained, marked or counted: its power state, flush, backlog and dirty marks stay,
and what waits or holds the array stays there. -/
theorem State.steady_mono {s t : State} (h : s.steady) (hp : t.power = s.power) (hfr : t.store.freeing = false)
    (hfl : t.store.flush = s.store.flush) (hb : t.store.backlog = s.store.backlog) (hd : t.store.dirty = s.store.dirty)
    (hq : ∀ o ∈ s.store.queue,
      ∃ o' ∈ t.store.queue,
        o'.cls = o.cls ∧ o'.requester = o.requester ∧ o'.work.isCheckpoint = o.work.isCheckpoint)
    (hh : ∀ x, s.store.holder = some x →
      ∃ y, t.store.holder = some y ∧ y.op.requester = x.op.requester ∧
        y.op.work.isCheckpoint = x.op.work.isCheckpoint ∧ y.op.work.isRead = x.op.work.isRead) : t.steady := by
  have hover : t.store.flushOver → s.store.flushOver := by
    rintro ⟨h1, h2, h3⟩
    refine ⟨fun g hg => by rw [← hd]; exact h1 g hg, fun o ho => ?_, fun x hx => ?_⟩
    · obtain ⟨o', ho', -, hr, -⟩ := hq o ho
      rw [← hr]; exact h2 o' ho'
    · obtain ⟨y, hy, hr, -⟩ := hh x hx
      rw [← hr]; exact h3 y hy
  have hwrite : s.store.writing → t.store.writing := by
    rintro (⟨o, ho, hc⟩ | ⟨x, hx, hr⟩)
    · obtain ⟨o', ho', hc', -⟩ := hq o ho
      exact .inl ⟨o', ho', by rw [hc']; exact hc⟩
    · obtain ⟨y, hy, -, -, hr'⟩ := hh x hx
      exact .inr ⟨y, hy, by rw [hr']; exact hr⟩
  obtain ⟨h1, -, h3, h4⟩ := h
  refine ⟨?_, hfr, fun hf => fun ho => h3 (by rw [← hfl]; exact hf) (hover ho), ?_⟩
  · rw [hp]
    exact h1.imp_right fun ⟨a, b⟩ => ⟨a, b.imp (fun b ho => b (hover ho)) hwrite⟩
  · rw [hb, hd]
    refine h4.imp_right fun h4 => h4.imp_right fun h4 => ?_
    rcases h4 with hw | hk | ⟨o, ho, hc⟩
    · left
      simp only [StoreControl.checkpointWaits, List.any_eq_true] at hw ⊢
      obtain ⟨o, ho, hc⟩ := hw
      obtain ⟨o', ho', -, -, hc'⟩ := hq o ho
      exact ⟨o', ho', by rw [hc']; exact hc⟩
    · right; left
      cases hx : s.store.holder with
      | none => simp [StoreControl.checkpointHeld, hx] at hk
      | some x =>
        obtain ⟨y, hy, -, hc, -⟩ := hh x hx
        simpa [StoreControl.checkpointHeld, hx, hy, hc] using hk
    · right; right
      obtain ⟨o', ho', hc', -⟩ := hq o ho
      exact ⟨o', ho', by rw [hc']; exact hc⟩

/-- A state stays steady when an operation joins the queue. -/
theorem steady_queued {s : State} (h : s.steady) (op : StoreOp) :
    ({ s with store := { s.store with queue := s.store.queue ++ [op] } } : State).steady :=
  State.steady_mono h rfl h.2.1 rfl rfl rfl (fun o ho => ⟨o, by simp [ho], rfl, rfl, rfl⟩)
    (fun x hx => ⟨x, hx, rfl, rfl, rfl⟩)

/-- A state stays steady when an operation takes the Free array. -/
theorem steady_taken {s : State} (h : s.steady) (hh : s.store.holder = none) (x : Holder) :
    ({ s with store := { s.store with holder := some x } } : State).steady :=
  State.steady_mono h rfl h.2.1 rfl rfl rfl (fun o ho => ⟨o, ho, rfl, rfl, rfl⟩) (by simp [hh])

/-- A write asked waits last, or takes the Free array. -/
theorem asking_cases {c : StoreControl} (hf : c.freeing = false) (op : StoreOp) :
    c.asking op = { c with queue := c.queue ++ [op] } ∨
      c.holder = none ∧ c.asking op = { c with holder := some ⟨op, 0, decide (4 ≤ op.cls), .nothing⟩ } := by
  by_cases hb : c.holdBack = true ∧ 4 ≤ op.cls
  · exact .inl (by simp only [StoreControl.asking, if_pos hb])
  · cases hh : c.holder with
    | none => exact .inr ⟨rfl, by simp only [StoreControl.asking, if_neg hb, StoreControl.taking, hf, hh]⟩
    | some x => exact .inl (by simp only [StoreControl.asking, if_neg hb, StoreControl.taking, hf, hh])

/-- A state stays steady when a write is asked of its store. -/
theorem steady_asking {s : State} (h : s.steady) (op : StoreOp) : ({ s with store := s.store.asking op } : State).steady := by
  rcases asking_cases h.2.1 op with e | ⟨hh, e⟩
  · rw [e]; exact steady_queued h op
  · rw [e]; exact steady_taken h hh _

/-- A read asked takes the Free array, is served in the holder's stead, or waits last. -/
theorem reading_cases (c : StoreControl) (op : StoreOp) :
    (c.holder = none ∧ c.reading op = { c with holder := some ⟨op, 0, false, .nothing⟩ }) ∨
      (∃ x, c.holder = some x ∧
        c.reading op = { c with serving := some op, holder := some { x with suspensions := x.suspensions + 1 } }) ∨
      c.reading op = { c with queue := c.queue ++ [op] } := by
  cases hh : c.holder with
  | none => exact .inl ⟨rfl, by simp only [StoreControl.reading, hh]⟩
  | some x =>
    by_cases hs : (x.suspendable && c.serving.isNone && decide (x.suspensions < 16)) = true
    · exact .inr (.inl ⟨x, rfl, by simp only [StoreControl.reading, hh, if_pos hs]⟩)
    · exact .inr (.inr (by simp only [StoreControl.reading, hh, if_neg hs]))

/-- A state stays steady when a read is asked of its store. -/
theorem steady_reading {s : State} (h : s.steady) (op : StoreOp) :
    ({ s with store := s.store.reading op } : State).steady := by
  rcases reading_cases s.store op with ⟨hh, e⟩ | ⟨x, hx, e⟩ | e
  · rw [e]; exact steady_taken h hh _
  · rw [e]
    refine State.steady_mono h rfl h.2.1 rfl rfl rfl (fun o ho => ⟨o, ho, rfl, rfl, rfl⟩) fun y hy => ⟨_, rfl, ?_⟩
    obtain rfl : x = y := by simpa [hx] using hy
    exact ⟨rfl, rfl, rfl⟩
  · rw [e]; exact steady_queued h op

/-- The cabinet port with its result buffer emptied and its answer shifted out, as a command finds it. -/
theorem command_ready {s : State} (h : s.cabinetReady = true) (body : State → State) :
    command body s = body { s with cabinet := ⟨s.cabinet.answer, s.cabinet.answer, false, .nothing⟩ } := by
  simp only [State.cabinetReady, Bool.and_eq_true, Bool.not_eq_true'] at h
  simp [command, transaction, h.1, h.2]

/-- A command while another is outstanding is answered BUSY and has no other effect. -/
theorem command_busy {s : State} (hl : s.power.listens = true) (ho : s.cabinet.outstanding = true)
    (body : State → State) :
    command body s =
      { s with cabinet := { s.cabinet with answer := some Code.busy.plain, shifted := s.cabinet.answer } } := by
  simp [command, transaction, hl, ho, refuse, answer]

/-- A command while the port is not served is disregarded. -/
theorem command_deaf {s : State} (hl : s.power.listens = false) (body : State → State) :
    command body s = { s with cabinet := { s.cabinet with shifted := none } } := by
  simp [command, transaction, hl]

/-! ## Completions -/

/-- The completion of the operation that holds the array. -/
theorem onCompletion_holder {awaited : StoreWork → Bool} {effect : Holder → State → State} {s : State} {h : Holder}
    (hs : s.store.serving = none) (hh : s.store.holder = some h) (ha : awaited h.op.work = true) :
    onCompletion awaited effect s =
      settle (freeArray (tryGrantHold (effect h (s.onStore fun c => { c with holder := none, freeing := true })))) := by
  simp [onCompletion, hs, hh, ha]

/-- The completion of a read served during a suspension. -/
theorem onCompletion_serving {awaited : StoreWork → Bool} {effect : Holder → State → State} {s : State} {r : StoreOp}
    (hs : s.store.serving = some r) (ha : awaited r.work = true) :
    onCompletion awaited effect s = settle (effect ⟨r, 0, false, .nothing⟩ (endServing s)) := by
  simp [onCompletion, hs, ha]

/-- With nothing waiting, a freeing leaves the array Free. -/
theorem freeArray_empty {s : State} (hq : s.store.queue = []) :
    freeArray s = s.onStore fun c => { c with freeing := false } := by
  cases hh : s.store.holder with
  | none => simp [freeArray, hq, grantNext, hh, pickOp, takeFirst, State.onStore]
  | some h => simp [freeArray, hq, grantNext, hh, State.onStore]

/-! ## What a grant leaves of the store's state -/

/-- The parts of the store's state that no grant changes. -/
def StoreControl.steady (c : StoreControl) : Bool × Bool × Nat × Nat × Seconds :=
  (c.holdBack, c.flush, c.backlog, c.urgent, c.lastExpiry)

/-- A grant leaves the hold-back, the flush, the backlog, the urgent count and the last expiry. -/
theorem grantOp_steady (op : StoreOp) (s : State) : (grantOp op s).store.steady = s.store.steady := by
  unfold grantOp
  split
  · split
    · rename_i w _ _
      obtain ⟨ms, h⟩ := endHeldDecrement_frame w s
      rw [h]
    · rfl
  · split <;> rfl
  · rfl
  · rfl

/-- Granting on leaves them. -/
theorem grantNext_steady (fuel : Nat) (s : State) : (grantNext fuel s).store.steady = s.store.steady := by
  induction fuel generalizing s with
  | zero => rfl
  | succ fuel ih =>
    unfold grantNext
    split
    · rfl
    · split
      · rfl
      · rw [ih, grantOp_steady]
        rfl

/-- A freeing of the array leaves them. -/
theorem freeArray_steady (s : State) : (freeArray s).store.steady = s.store.steady := by
  unfold freeArray
  rw [grantNext_steady]
  rfl

/-- A grant of the hold leaves them. -/
theorem tryGrantHold_steady (s : State) : (tryGrantHold s).store.steady = s.store.steady := by
  unfold tryGrantHold
  split <;> rfl

/-- A grant of the hold and a freeing of the array change no power state. -/
theorem arrayFreed_power (s : State) : s.arrayFreed.power = s.power := by
  obtain ⟨ms, ws, st, h⟩ := freeArray_frame (tryGrantHold s)
  obtain ⟨pm, st', na, h'⟩ := tryGrantHold_frame s
  rw [State.arrayFreed, h, h']

/-- A freeing of the array leaves the steady parts of the store's state. -/
theorem arrayFreed_steady (s : State) : s.arrayFreed.store.steady = s.store.steady := by
  rw [State.arrayFreed, freeArray_steady, tryGrantHold_steady]

/-- A completion in calm, once its own work is known and leaves the PD64 running with no backlog and no flush. -/
theorem onCompletion_whenDone {awaited : StoreWork → Bool} {effect : Holder → State → State} {s : State} {h : Holder}
    {body : State → State} (hc : s.completing h) (ha : awaited h.op.work = true)
    (hb : effect h { s with store := s.store.ending } = body { s with store := s.store.ending })
    (hp : (body { s with store := s.store.ending }).power = .running)
    (hs : (body { s with store := s.store.ending }).store.backlog = 0)
    (hf : (body { s with store := s.store.ending }).store.flush = false) :
    onCompletion awaited effect s = s.whenDone body := by
  obtain ⟨-, hsv, hh⟩ := hc
  rw [onCompletion_holder hsv hh ha]
  have he : (s.onStore fun c => { c with holder := none, freeing := true }) = { s with store := s.store.ending } := rfl
  rw [he, hb]
  simp only [State.whenDone, hsv]
  have hst := arrayFreed_steady (body { s with store := s.store.ending })
  simp only [StoreControl.steady, Prod.mk.injEq] at hst
  exact settle_calm (by rw [← State.arrayFreed, arrayFreed_power]; exact hp) (by rw [← State.arrayFreed, hst.2.2.1, hs])
    (by rw [← State.arrayFreed, hst.2.1, hf])

/-- A read's completion in calm, once its own work is known for both places a read may have and leaves the PD64 running
with no backlog and no flush. -/
theorem onCompletion_performing {awaited : StoreWork → Bool} {effect : Holder → State → State} {s : State} {r : StoreOp}
    {body : State → State} (hc : s.performing r) (ha : awaited r.work = true)
    (hb : ∀ (h : Holder) (t : State), h.op = r →
      t = endServing s ∨ t = { s with store := s.store.ending } → effect h t = body t)
    (hp : ∀ t : State, t = endServing s ∨ t = { s with store := s.store.ending } →
      (body t).power = .running ∧ (body t).store.backlog = 0 ∧ (body t).store.flush = false) :
    onCompletion awaited effect s = s.whenDone body := by
  obtain ⟨hcalm, hs | ⟨hs, h, hh, ho⟩⟩ := hc
  · rw [onCompletion_serving hs ha, hb _ _ rfl (.inl rfl)]
    simp only [State.whenDone, hs]
    obtain ⟨h1, h2, h3⟩ := hp _ (.inl rfl)
    exact settle_calm h1 h2 h3
  · obtain ⟨h1, h2, h3⟩ := hp _ (.inr rfl)
    exact onCompletion_whenDone ⟨hcalm, hs, hh⟩ (by rw [ho]; exact ha) (hb h _ ho (.inr rfl)) h1 h2 h3

/-- The end of a served read changes what is served and the queue alone. -/
theorem endServing_frame (s : State) :
    ∃ sv q, endServing s = { s with store := { s.store with serving := sv, queue := q } } := by
  unfold endServing
  simp only
  split
  · exact ⟨_, _, rfl⟩
  · exact ⟨_, s.store.queue, rfl⟩

/-! ## Phases of a cycle -/

@[simp] theorem line_passPhase (line : LineId) (s : State) :
    (passPhase line s).line line =
      { s.line line with phase := (s.line line).phase + 1, heard := .nothing } := by
  cases line <;> rfl

/-- Where a line stands before a phase, no phase is run to reach it. -/
theorem runTo_here {line : LineId} {k : Nat} {s : State} (h : (s.line line).phase = k) : runTo line k s = s := by
  simp [runTo, h, quietPhases]

/-- A row whose phase is the next takes its effect at once (07 R125). -/
theorem inPhase_stands {line : LineId} {k : Nat} {s : State} (h : s.stands line k) (body : State → State) :
    inPhase line k body s = body s := by
  obtain ⟨ho, hp, hk⟩ := h
  simp [inPhase, LineState.ahead, ho, hp, hk, runTo_here hp]

/-- A row of a phase that is over, or while no cycle is run, changes nothing (07 R125). -/
theorem inPhase_over {line : LineId} {k : Nat} {s : State}
    (h : (s.line line).cycleOpen = false ∨ k < (s.line line).phase ∨ Config.cyclePhases ≤ k) (body : State → State) :
    inPhase line k body s = s := by
  rcases h with h | h | h <;> simp [inPhase, LineState.ahead, h]

/-! ## Places of the drop ring -/

theorem placeTaken_iff (s : State) (place : Nat) : s.placeTaken place = true ↔ s.taken place := by
  simp [State.placeTaken, State.taken, List.any_eq_true]

/-- The place that a drop takes is the one the model computes (05 R94). -/
theorem takes_dropPlace {s : State} {place : Nat} (h : s.takes place) : s.dropPlace = place := by
  obtain ⟨hn, hp, hf, hmin⟩ := h
  have hfind : ((List.range 256).map fun i => (s.cash.nextPlace + i) % 256).find? (fun p => !s.placeTaken p) =
      some place := by
    rw [List.find?_map, Option.map_eq_some_iff]
    refine ⟨(place + 256 - s.cash.nextPlace) % 256, ?_, by
      show (s.cash.nextPlace + (place + 256 - s.cash.nextPlace) % 256) % 256 = place
      omega⟩
    rw [List.find?_range_eq_some]
    refine ⟨?_, ?_, ?_⟩
    · have : (s.cash.nextPlace + (place + 256 - s.cash.nextPlace) % 256) % 256 = place := by omega
      simpa [this, ← placeTaken_iff] using hf
    · exact List.mem_range.mpr (Nat.mod_lt _ (by decide))
    · intro j hj
      by_contra hc
      have hc' : ¬s.taken ((s.cash.nextPlace + j) % 256) := by
        rw [← placeTaken_iff]; simpa using hc
      have := hmin _ (Nat.mod_lt _ (by omega)) hc'
      omega
  simp only [State.dropPlace, Config.dropPlaces, hfind, Option.getD_some]

end Sys2Proof.Machine
end

