-- ==== Sys2Proof/Tests/Slice0.lean ====
section
/-! SUPPORT. Tests: ill-formed terms that the checks refuse, frames written out byte by byte, small steps of the manual's
worked cases, and states that meet the hypotheses of the statements. -/

namespace Sys2Proof.Tests

open Sys2Proof.Machine

/-! ## A small district -/

/-- Machine 214 in zone 7, at position 0, with 100 coins of room. -/
def reg214 : Registration := ⟨0, 7, .either, 100, 10, .both⟩

/-- Machine 214 Active in slot 7 of line A, with box 4417 and 640p in coins of 20p. -/
def m214 : MachineRecord :=
  { freshMachine 214 reg214 with
    link := .active ⟨.a, 7, 2⟩
    box := .installed 4417
    recorded := .installed 4417
    reconcileDue := false
    accepted := ⟨some 40335, some 23⟩
    tokens := 23
    tally := ⟨⟨0, 0, 0, 32, 0, 0, 0, 0⟩, 640, 0, 5, 32, some 40331, some 40335⟩ }

/-- Zone 7's tariff of the worked cases of 02. -/
def tariff7 : Tariff :=
  { params := ⟨50, 240, 25, 300, false⟩
    weekday := [⟨0, .free⟩, ⟨510, .charged 240⟩, ⟨720, .charged 360⟩, ⟨1110, .free⟩]
    saturday := [⟨0, .free⟩]
    sunday := [⟨0, .free⟩]
    special := [⟨0, .free⟩] }

/-- The zones of the district. -/
def zones7 : List ZoneEntry :=
  List.replicate 7 ⟨factoryTariff, 0⟩ ++ [⟨tariff7, 4⟩] ++ List.replicate 8 ⟨factoryTariff, 0⟩

/-- The district on Friday 10 April 2026 at 09:00, Running, line A before the uplink phase of slot 7. -/
def district : State :=
  { State.reset with
    power := .running
    clock := ⟨some ⟨⟨2026, 4, 10⟩, 540, 0⟩, .held, 1000, none, false, false⟩
    tariff := ⟨zones7, [], none, factoryGuard⟩
    cash := ⟨⟨1, 2, 5, 20, 50, 100, 200, 0⟩, 3, 2, 9000, none, none⟩
    machines := [m214]
    lineA := { freshLine with cycleOpen := true, phase := 14 } }

/-- The district with machine 214 changed. -/
def districtWith (m : MachineRecord) : State := { district with machines := [m] }

/-- A state with line A before a phase of its cycle. -/
def phased (k : Nat) (s : State) : State := { s with lineA := { s.lineA with phase := k } }

/-! ## Looking at one step -/

/-- What holds of the state that a command leaves. -/
def leaves (c : Instr) (s : State) (holds : State → Bool) : Bool :=
  match exec c s with
  | .next t => holds t
  | _ => false

/-- The state that a command leaves. -/
def after (c : Instr) (s : State) : State :=
  match exec c s with
  | .next t => t
  | _ => s

/-- What holds of machine 214 in a state. -/
def on214 (holds : MachineRecord → Bool) (s : State) : Bool := (s.machine? 214).any holds

/-- The link of machine 214 in the small district. -/
def fl214 : LinkFields := ⟨.a, 7, 2⟩

/-- The district at a minute of its Friday. -/
def districtAt (minute : Nat) : State :=
  { district with clock := { district.clock with time := some ⟨⟨2026, 4, 10⟩, minute, 0⟩ } }

/-! ## Ill-formed terms are refused -/

theorem test_wf_slot : (Instr.leave .a 0 214).wf = false ∧ (Instr.leave .a 33 214).wf = false := by decide
theorem test_wf_machine : (Instr.readMachine 65536).wf = false := by decide
theorem test_wf_window : (Instr.nothingHeard .a 33).wf = false := by decide
theorem test_wf_join : (Instr.join .a ⟨214, 3, 2 ^ 24, 0, 0⟩).wf = false := by decide
theorem test_wf_status_frame : (Instr.statusFrame .a 7 214 (List.replicate 16 1)).wf = false := by decide
theorem test_wf_quote : (Instr.quoteRequest .a 7 ⟨214, 256, 0, 1, 0⟩).wf = false := by decide
theorem test_wf_sale : (Instr.saleCommit .a 7 ⟨214, 1, 1, 0, 1, 0, List.replicate 16 ⟨0, 1⟩⟩).wf = false := by decide
theorem test_wf_rejected : (Instr.cabinetFrameRejected 16 [1]).wf = false := by decide
theorem test_wf_date : (Instr.specialDayAdd ⟨256, 1, 1⟩).wf = false := by decide
theorem test_wf_second : (Instr.setClock ⟨26, 4, 10⟩ 0 256).wf = false := by decide
theorem test_wf_bands : (Instr.pendingZone .off ⟨7, 0, 0, 0, 0, 0, 0, List.replicate 16 ⟨0, 0, 0⟩⟩).wf = false := by
  decide
theorem test_wf_band : (Instr.pendingZone .off ⟨7, 0, 0, 0, 0, 0, 0, [⟨0, 256, 0⟩]⟩).wf = false := by decide
theorem test_wf_permit : (Instr.permitDelete (2 ^ 32)).wf = false := by decide
theorem test_wf_option : (Instr.permitUpdate ⟨5, some 256, none, none, none⟩).wf = false := by decide
theorem test_wf_timers : (Instr.setTimers ⟨none, none, none, none, none, none, some 65536⟩).wf = false := by decide
theorem test_wf_enables : (Instr.setSlotEnable 0 (2 ^ 32)).wf = false := by decide
theorem test_wf_denominations : (Instr.setDenominations ⟨65536, 0, 0, 0, 0, 0, 0, 0⟩).wf = false := by decide
theorem test_wf_round : (Instr.roundOpen (List.replicate 128 1)).wf = false := by decide +kernel
theorem test_wf_close : (Instr.roundClose 1).wf = false := by decide

/-! ## Frames written out from 12 R203 and R204 -/

/-- The check value of this CRC over the digits 1 to 9. -/
theorem test_crc : crc16 [0x31, 0x32, 0x33, 0x34, 0x35, 0x36, 0x37, 0x38, 0x39] = 0x29B1#16 := by decide +kernel

theorem test_hear_join :
    uplinkCommand .a 0
        [0xC3, 0x0D, 0x01, 0x00, 0xD6, 0x03, 0x00, 0x9D, 0x8F, 0x00, 0x00, 0x02, 0x80, 0x11, 0x41, 0x50, 0x0B] =
      .join .a ⟨214, 3, 40335, 640, 4417⟩ := by decide +kernel
theorem test_hear_quote_after_noise :
    uplinkCommand .b 7
        [0x00, 0xC3, 0x0B, 0x04, 0x00, 0xD6, 0x01, 0x01, 0x00, 0x3C, 0x00, 0x53, 0xEF, 0x7C, 0xE2, 0xEA, 0xC3] =
      .quoteRequest .b 7 ⟨214, 1, 1, 60, 5500796⟩ := by decide +kernel
theorem test_hear_sale :
    uplinkCommand .a 7
        [0xC3, 0x13, 0x05, 0x00, 0xD6, 0x18, 0x00, 0x9D, 0x90, 0x00, 0x00, 0x78, 0x00, 0x00, 0x00, 0x00, 0x02, 0x05,
          0x01, 0x03, 0x01, 0xD3, 0x8C] =
      .saleCommit .a 7 ⟨214, 24, 40336, 0, 120, 0, [⟨5, 1⟩, ⟨3, 1⟩]⟩ := by decide +kernel
theorem test_hear_status :
    uplinkCommand .a 7 [0xC3, 0x06, 0x03, 0x00, 0xD6, 0x02, 0x02, 0x04, 0x59, 0x17] = .statusFrame .a 7 214 [2, 4] := by
  decide +kernel
theorem test_hear_box : uplinkCommand .a 7 [0xC3, 0x03, 0x06, 0x00, 0xD6, 0x06, 0x07] = .boxRemoved .a 7 214 := by decide +kernel
theorem test_hear_inserted :
    uplinkCommand .a 7 [0xC3, 0x05, 0x07, 0x00, 0xD6, 0x11, 0x41, 0x95, 0x56] = .boxInserted .a 7 214 4417 := by decide +kernel
theorem test_hear_leave : uplinkCommand .a 7 [0xC3, 0x03, 0x02, 0x00, 0xD6, 0xDA, 0xC7] = .leave .a 7 214 := by decide +kernel
/-- A wrong CRC, and a Join outside the call window. -/
theorem test_hear_nothing :
    uplinkCommand .a 7 [0xC3, 0x03, 0x02, 0x00, 0xD6, 0x00, 0x00] = .nothingHeard .a 7 ∧
      uplinkCommand .a 0 [0xC3, 0x03, 0x02, 0x00, 0xD6, 0xDA, 0xC7] = .nothingHeard .a 0 := by decide +kernel

theorem test_cabinet_status : cabinetCommand .service 16 [1, 0] = some (.status .service) := by decide
theorem test_cabinet_clock :
    cabinetCommand .off 72 [12, 6, 26, 4, 10, 0x02, 0x1C, 30, 0xEE] = some (.setClock ⟨26, 4, 10⟩ 540 30) := by decide
theorem test_cabinet_zone :
    cabinetCommand .off 144 [17, 16, 7, 0, 50, 0, 240, 25, 0x01, 0x2C, 0, 1, 1, 0, 0, 0, 0, 240] =
      some (.pendingZone .off ⟨7, 50, 240, 25, 300, 0, 1, [⟨0, 0, 240⟩]⟩) := by decide
theorem test_cabinet_permit :
    cabinetCommand .off 80 [20, 8, 0, 0x53, 0xEF, 0x7C, 0x09, 2, 0, 240] =
      some (.permitUpdate ⟨5500796, some 2, none, none, some 240⟩) := by decide
theorem test_cabinet_register :
    cabinetCommand .off 88 [23, 9, 0, 214, 7, 2, 0x04, 0xB0, 0, 100, 2] =
      some (.registerMachine ⟨214, 7, 2, 1200, 100, 2⟩) := by decide
theorem test_cabinet_timers :
    cabinetCommand .off 56 [30, 5, 0x41, 0, 30, 0, 9] =
      some (.setTimers ⟨some 30, none, none, none, none, none, some 9⟩) := by decide
theorem test_cabinet_round :
    cabinetCommand .off 56 [34, 5, 2, 0, 52, 0, 214] = some (.roundOpen [52, 214]) ∧
      cabinetCommand .off 24 [35, 1, 1] = some .roundCloseForced := by decide
theorem test_cabinet_flag : cabinetCommand .off 40 [31, 3, 0, 214, 2] = some (.setFlag 214 2) := by decide
/-- A transaction that does not end on a byte, one too short for its L, a wrong L, and no command of that code. -/
theorem test_cabinet_rejects :
    cabinetCommand .off 17 [1, 0] = none ∧ cabinetCommand .off 24 [13, 1] = none ∧
      cabinetCommand .off 32 [13, 2, 0, 0] = none ∧ cabinetCommand .off 16 [36, 0] = none := by decide

/-! ## Single steps of the manual's worked cases -/

/-- 02 Case A: 500p at 11:20 buy 96 minutes to 12:56 for a useful 496p, stopped by credit. -/
theorem test_case_a :
    leaves (.quoteRequest .a 7 ⟨214, 0, 0, 500, 0⟩) (districtAt 680) (on214 fun m =>
      m.openQuote ==
        some ⟨24, 7, 4, .standard, .cash, 96, .byMoney 500 496, ⟨⟨2026, 4, 10⟩, 776⟩, none, 1000⟩) = true := by decide

/-- The district at 18:00 with a resident permit 5 and a visitor permit 77. -/
def permitted : State :=
  { districtAt 1080 with
    nv :=
      { blankArray with
        permits :=
          [⟨5, .resident, 0xFFFF#16, ⟨2026, 1, 1⟩, ⟨2026, 12, 31⟩, .active, none⟩,
            ⟨77, .visitor, 0xFFFF#16, ⟨2026, 1, 1⟩, ⟨2026, 12, 31⟩, .active, some 100⟩] } }

/-- The district once machine 214 has asked for a Resident quote by card. -/
def asking : State := after (.quoteRequest .a 7 ⟨214, 1, 1, 60, 5⟩) permitted

/-- 02 Case B: 60 minutes for a resident at 18:00 end at 24:00, 30 minutes for 135p, CLAMPED. -/
theorem test_case_b :
    leaves .lookupCompletion asking (on214 fun m =>
      m.request.map Request.reply ==
        some (some (quotedAnswer
          ⟨24, 7, 4, .resident, .card, 30, .byTime 135, ⟨⟨2026, 4, 10⟩, 1440⟩, some 5, 1000⟩ false true false
            .horizon))) = true := by decide

/-- 02 Case D: the maximum stay and the credit bind together, and MAXSTAY is given. -/
theorem test_case_d :
    computeQuote ⟨7, ⟨2026, 4, 10⟩, 510, .standard, .cash, 1025, none, none, false⟩ district =
      .quoted 240 (.byMoney 1025 1020) ⟨⟨2026, 4, 10⟩, 750⟩ false false .maxStay := by decide

/-- 02 Case F: a card payment below the minimum is raised to it. -/
theorem test_case_f :
    computeQuote ⟨7, ⟨2026, 4, 10⟩, 710, .standard, .card, 5, none, none, false⟩ district =
      .quoted 5 (.byTime 50) ⟨⟨2026, 4, 10⟩, 715⟩ false true .timeReached ∧
    computeQuote ⟨7, ⟨2026, 4, 10⟩, 710, .standard, .cash, 20, none, none, false⟩ district =
      .reply ⟨Code.belowMinimum.byte, [0, 50]⟩ := by decide

/-- Machine 214 with the box of 03's first worked sequence nearly full. -/
def nearlyFull : MachineRecord :=
  { m214 with
    reg := ⟨0, 7, .either, 1200, 100, .both⟩
    accepted := ⟨some 40329, some 17⟩
    openQuote := some ⟨18, 7, 4, .standard, .cash, 96, .byMoney 500 496, ⟨⟨2026, 4, 10⟩, 776⟩, none, 990⟩
    tally := ⟨⟨0, 0, 0, 0, 0, 130, 52, 0⟩, 12340, 0, 211, 1196, some 40118, some 40328⟩ }

/-- 03, a box that fills: 200p twice and 100p once, with denominations 100p and 200p at indices 5 and 6. -/
theorem test_sale_fills_box :
    leaves (.saleCommit .a 7 ⟨214, 18, 40330, 0, 500, 0, [⟨6, 2⟩, ⟨5, 1⟩]⟩) (districtWith nearlyFull) (fun t =>
      on214
        (fun m =>
          m.tally == ⟨⟨0, 0, 0, 0, 0, 131, 54, 0⟩, 12840, 0, 212, 1199, some 40118, some 40330⟩ &&
            m.accepted == ⟨some 40330, some 18⟩ && m.openQuote == none && !m.faults.active .boxFull)
        t && t.store.dirty.get 0) = true := by decide

/-- 03, a serial gap across the wrap: from 999997 to 3 is 5 ahead. -/
theorem test_serial_gap :
    leaves (.saleCommit .a 7 ⟨214, 18, 3, 0, 500, 0, [⟨6, 2⟩, ⟨5, 1⟩]⟩)
      (districtWith { nearlyFull with accepted := ⟨some 999997, some 200⟩ }) (on214 fun m =>
        m.accepted == ⟨some 3, some 18⟩ && m.faults.active .tallyGap) = true := by decide

/-- Machine 214 with a visitor quote of 30 minutes for 135p on permit 77. -/
def visiting : MachineRecord :=
  { m214 with
    openQuote := some ⟨24, 7, 4, .visitor, .card, 30, .byTime 135, ⟨⟨2026, 4, 10⟩, 570⟩, some 77, 990⟩ }

/-- The district once that visitor sale has been committed. -/
def decrementing : State :=
  after (.saleCommit .a 7 ⟨214, 24, 40336, 1, 0, 9, []⟩) { permitted with machines := [visiting] }

/-- 03 R53: the decrement takes the minutes and the sale is accepted. -/
theorem test_visitor_sale :
    leaves .decrementCompletion decrementing (fun t =>
      on214 (fun m => m.cards == ⟨135, 1⟩ && m.accepted == ⟨some 40336, some 24⟩ && m.commit.isNone) t &&
        (findPermit t.nv.permits 77).map Permit.balance == some (some 70) && t.store.holder.isNone) = true := by decide

/-- 05, reconciliation of machine 214: 510p join the unitemised cash. -/
theorem test_reconcile_214 :
    leaves (.join .a ⟨214, 3, 40340, 1150, 4417⟩)
      (phased 0 (districtWith { m214 with link := .absent, reconcileDue := true, box := .unknown })) (on214 fun m =>
        m.box == .installed 4417 && m.tally.cash == 1150 && m.tally.unitemised == 510 &&
          m.accepted == ⟨some 40340, none⟩ && m.faults.active .tallyGap && m.link == .active ⟨.a, 1, 0⟩) = true := by
  decide

/-- 05, reconciliation of a changed box: the restored tally becomes a drop, CASH_TAMPER is raised. -/
theorem test_reconcile_changed :
    leaves (.join .a ⟨214, 3, 40338, 200, 3815⟩)
      (phased 0 (districtWith { m214 with link := .absent, reconcileDue := true, box := .unknown })) (fun t =>
        on214
          (fun m =>
            m.box == .installed 3815 && m.tally.cash == 200 && m.tally.unitemised == 200 &&
              m.removal == .recorded 9001 && m.faults.active .cashTamper && m.faults.active .tallyGap &&
              !m.faults.active .boxOut)
          t && t.cash.placesTaken == 3) = true := by decide

/-- 05, a full ring: the removal is HELD. -/
theorem test_full_ring :
    leaves (.boxRemoved .a 7 214) { district with cash := { district.cash with placesTaken := 256 } } (on214 fun m =>
      m.removal == .held && m.heldDrop.isSome && m.faults.active .dropHeld && m.faults.active .cashTamper &&
        m.service == .cardOnly) = true := by decide

/-- 06, one machine through a morning: COIN_JAM alone, then with DOOR_OPEN. -/
theorem test_status_service :
    leaves (.statusFrame .a 7 214 [2, 4]) district (on214 fun m => m.service == .cardOnly) = true ∧
      leaves (.statusFrame .a 7 214 [2, 4, 6]) district (on214 fun m => m.service == .outOfService) = true := by decide

/-- 06, the summary: a BOX_FULL raise has severity Fault. -/
theorem test_summary :
    leaves (.saleCommit .a 7 ⟨214, 18, 40330, 0, 500, 0, [⟨6, 2⟩, ⟨5, 1⟩]⟩)
      (districtWith { nearlyFull with reg := reg214 }) (fun t => t.summary == ⟨[214], [9, 10], some .fault⟩) = true := by
  decide

/-- A command typed at the round port. -/
def typedAt (l : Letter) (first second : Option Nat) (s : State) : State :=
  { s with roundPort := ⟨.entering l first second second.isSome, some ⟨[[1]], 2⟩, []⟩ }

/-- 09, a collector at the cabinet: the first line of T 214, and K for O at Off. -/
theorem test_port_readout :
    leaves (.tallyReadout .off .carriageReturn) (typedAt .t (some 214) none district)
        (fun t => t.roundPort.sent == [.line [214, 1, 4417, 0], .prompt]) = true ∧
      leaves (.roundPortOpen .off .carriageReturn) (typedAt .o none none district)
        (fun t => t.roundPort == ⟨.ready, none, [.keyRefused, .prompt]⟩) = true := by decide

/-- 09, arguments at their limits: U 52 without a flag, and T 52 forced. -/
theorem test_port_refusals :
    leaves (.roundPortClearFlag .service .carriageReturn) (typedAt .u (some 52) none district)
        (fun t => t.roundPort.sent == [.refusal .badRequest, .prompt]) = true ∧
      leaves (.tallyReadout .service .exclamation) (typedAt .t (some 52) none district)
        (fun t => t.roundPort.sent == [.refusal .badRequest, .prompt]) = true := by decide

/-- 01 R4: the last second of a day raises both events. -/
theorem test_midnight :
    leaves .secondTick
      (phased 66 { district with clock := { district.clock with time := some ⟨⟨2026, 2, 28⟩, 1439, 59⟩ } }) (fun t =>
      t.clock.time == some ⟨⟨2026, 3, 1⟩, 0, 0⟩ && t.clock.minuteDue && t.clock.midnightDue &&
        t.clock.counter == 1001) = true := by decide

/-- 01 R7: 10 April 2026 is a Friday, the next two days Saturday and Sunday. -/
theorem test_week : [10, 11, 12, 13].map (fun d => Date.weekClass ⟨2026, 4, d⟩) = [.weekday, .saturday, .sunday, .weekday] := by
  decide

/-- 11, a start with nothing stored: Running, RestartComplete as the first notice. -/
theorem test_start_up :
    leaves .startUpCompletion State.reset (fun t =>
      t.power == .running && t.notices.unread == 12 && t.roundPort.sent == [.lineEnd, .prompt]) = true := by decide

/-- 04 R77: a grant of the hold marks a lookup in flight UNVERIFIED, and the quote is Standard. -/
theorem test_hold_unverified :
    leaves .lookupCompletion (after .holdRequest asking) (on214 fun m =>
      (m.openQuote.map OpenQuote.rate, m.openQuote.bind OpenQuote.permit) == (some .standard, none)) = true := by decide

/-! ## States that meet the hypotheses of the statements

One theorem for a statement, or for each of its clauses, in the order of the statements; a clause with a range is met at
its boundary. -/

theorem test_meets_idle : State.reset.pending = [] := rfl

theorem test_meets_busy :
    cabinetArgs .readSummary = some (3, []) ∧ cabinetArgs (.overrideToday 0) = some (13, [0#8]) ∧
      ({ district with cabinet := district.cabinet.awaiting }).power.listens = true ∧
      ({ district with cabinet := district.cabinet.awaiting }).cabinet.outstanding = true := by decide

theorem test_meets_starting : State.reset.power.listens = false ∧ cabinetArgs (.roundClose 0) = some (35, [0#8]) := by
  decide

/-- The invariants, and a step that changes machines, notices and store. -/
theorem test_meets_invariants :
    ({ district with pending := [.boxRemoved .a 7 214] }).noticesSound = true ∧
      ({ district with pending := [.boxRemoved .a 7 214] }).outputSound = true ∧
      ({ district with pending := [.boxRemoved .a 7 214] }).servicesSound = true ∧
      ({ district with pending := [.boxRemoved .a 7 214] }).safeSound = true ∧
      ({ district with pending := [.boxRemoved .a 7 214] }).arbiterSound = true ∧
      ({ district with pending := [.boxRemoved .a 7 214] }).talliesSound = true ∧
      ({ district with pending := [.boxRemoved .a 7 214] }).machinesSound = true ∧
      ({ district with pending := [.boxRemoved .a 7 214] }).countsSound = true ∧
      State.reset.storedTalliesSound = true ∧
      ∃ t, step { district with pending := [.boxRemoved .a 7 214] } = .next t :=
  ⟨by decide, by decide, by decide, by decide, by decide, by decide, by decide, by decide, by decide, _, rfl⟩

theorem test_meets_cabinet_frames :
    (Instr.setClock ⟨255, 255, 255⟩ 65535 255).wf = true ∧
      (∃ f, cabinetFrame (.setClock ⟨255, 255, 255⟩ 65535 255) = some f) ∧
      (Instr.roundOpen []).wf = true ∧ (∃ f, cabinetFrame (.roundOpen []) = some f) ∧
      (Instr.permitUpdate ⟨0, none, none, none, some 65535⟩).wf = true ∧
      ∃ f, cabinetFrame (.permitUpdate ⟨0, none, none, none, some 65535⟩) = some f :=
  ⟨by decide, ⟨_, rfl⟩, by decide, ⟨_, rfl⟩, by decide, _, rfl⟩

/-- 10 R183: a broken byte, no bytes and one, an unknown code on either side of the table, a wrong L of the table, of a mask,
of a count, a count of 16, an L that the table allows but fewer bytes; and a frame that passes, with a byte after it. -/
theorem test_meets_frames_rejected :
    (frameRejected 17 [1, 0] ∧ frameRejected 0 [] ∧ frameRejected 8 [1] ∧ frameRejected 16 [0, 0] ∧
        frameRejected 16 [36, 0] ∧ frameRejected 24 [1, 1, 0] ∧ frameRejected 16 [13, 0] ∧
        frameRejected 40 [30, 3, 0x03, 0, 30] ∧ frameRejected 64 [20, 6, 0, 0, 0, 5, 0, 1] ∧
        frameRejected 40 [34, 3, 2, 0, 52] ∧
        frameRejected 744 ([17, 91, 7, 0, 0, 0, 0, 0, 0, 0, 0, 0, 16] ++ List.replicate 80 0) ∧
        frameRejected 24 [10, 2, 0]) ∧
      ¬frameRejected 16 [1, 0] ∧ ¬frameRejected 24 [1, 0, 1] ∧ ¬frameRejected 40 [30, 3, 0x81, 0, 30] ∧
      ¬frameRejected 56 [34, 5, 2, 0, 52, 0, 214] := by
  simp [frameRejected, lengthOfCommand]

/-- 07 R127: a frame that is sound, and one with a wrong CRC, of an unknown kind, of a wrong length and of 16 faults. -/
theorem test_meets_frames_heard :
    frameSound 3 [2, 0x00, 0xD6] 0xDA 0xC7 ∧ ¬frameSound 3 [2, 0x00, 0xD6] 0xDA 0xC6 ∧
      hear [0xC3, 0x03, 0x08, 0x00, 0xD6, 0x1D, 0x06] = none ∧ hear [0xC3, 0x04, 0x02, 0x00, 0xD6, 0x00, 0xCA, 0xE3] = none ∧
      hear ([0xC3, 0x14, 0x03, 0x00, 0xD6, 0x10] ++ List.replicate 16 0x01 ++ [0x65, 0xB7]) = none ∧
      hear [0xC3, 0x03, 0x02, 0x00, 0xD6, 0xDA] = none ∧
      hear ([0xC3, 0x03, 0x02, 0x00, 0xD6, 0xDA, 0xC6] ++ [0xC3, 0x03, 0x02, 0x00, 0xD6, 0xDA, 0xC7]) =
        some [2, 0x00, 0xD6] :=
  ⟨⟨by decide +kernel, 2, rfl, .inr (.inl ⟨rfl, rfl⟩)⟩, fun h => absurd h.1 (by decide +kernel), by decide +kernel,
    by decide +kernel, by decide +kernel, by decide +kernel, by decide +kernel⟩

/-- A Join in a slot's window, and a Leave in the call window. -/
theorem test_meets_wrong_windows :
    (∃ contents, hear [0xC3, 0x0D, 0x01, 0x00, 0xD6, 0x03, 0x00, 0x9D, 0x8F, 0x00, 0x00, 0x02, 0x80, 0x11, 0x41, 0x50, 0x0B] =
        some contents ∧ contents[0]? = some 1#8) ∧
      uplinkCommand .a 7
          [0xC3, 0x0D, 0x01, 0x00, 0xD6, 0x03, 0x00, 0x9D, 0x8F, 0x00, 0x00, 0x02, 0x80, 0x11, 0x41, 0x50, 0x0B] =
        .nothingHeard .a 7 ∧
      ∃ contents, hear [0xC3, 0x03, 0x02, 0x00, 0xD6, 0xDA, 0xC7] = some contents ∧ contents[0]? ≠ some 1#8 :=
  ⟨⟨[1, 0x00, 0xD6, 0x03, 0x00, 0x9D, 0x8F, 0x00, 0x00, 0x02, 0x80, 0x11, 0x41], by decide +kernel, rfl⟩, by decide +kernel,
    [2, 0x00, 0xD6], by decide +kernel, by decide⟩

theorem test_meets_uplink_frames :
    (Instr.leave .b 32 65535).wf = true ∧ (Instr.leave .b 32 65535).uplinkAt = some (.b, 32) ∧
      (Instr.statusFrame .a 1 0 []).wf = true ∧ (Instr.statusFrame .a 1 0 []).uplinkAt = some (.a, 1) ∧
      (Instr.join .a ⟨1, 0, 0, 0, 0⟩).wf = true ∧ (Instr.join .a ⟨1, 0, 0, 0, 0⟩).uplinkAt = some (.a, 0) ∧
      ∀ b ∈ [0x00#8, 0xFF#8], b ≠ 0xC3#8 := by decide

/-- A second inside a minute, the last of a minute, of a day and of 2099. -/
theorem test_meets_second :
    district.power ≠ .off ∧ State.reset.clock.time = none ∧ 66 ≤ ((phased 66 district).line .a).phase ∧
      (district.line .b).cycleOpen = false ∧
      district.clock.time = some ⟨⟨2026, 4, 10⟩, 540, 0⟩ ∧
      (58 < 59 ∧ 59 ≤ 59 ∧ 1438 < 1439 ∧ 1439 ≤ 1439 ∧ (⟨2026, 4, 10⟩ : Date) ≠ ⟨2099, 12, 31⟩) := by decide

/-- 01 R4: without the supply the clock runs on at a midnight, and neither event is left due. -/
theorem test_meets_second_off :
    ({ district with power := .off } : State).power = .off ∧
      leaves .secondTick { district with
        power := .off
        clock := ⟨some ⟨⟨2026, 12, 31⟩, 1439, 59⟩, .held, 1000, none, false, false⟩ } (fun t =>
          t.clock == ⟨some ⟨⟨2027, 1, 1⟩, 0, 0⟩, .held, 1000, none, false, false⟩) = true := by decide

theorem test_meets_next_date :
    (⟨2000, 2, 29⟩ : Date).valid = true ∧ (⟨2099, 12, 30⟩ : Date).valid = true ∧
      (⟨2099, 12, 30⟩ : Date) ≠ ⟨2099, 12, 31⟩ ∧ (⟨2025, 12, 31⟩ : Date).valid = true := by decide

/-- A pending set for zone 7 whose time is this minute. -/
def dueSet (isSealed : Bool) : PendingSet :=
  ⟨⟨⟨2026, 4, 10⟩, 540⟩, isSealed, [⟨7, ⟨60, 120, 0, 0, true⟩, none, some [⟨0, .noParking⟩], none, none⟩]⟩

/-- The district at a minute event, with a pending set. -/
def atMinute (p : Option PendingSet) : State :=
  { district with
    clock := { district.clock with minuteDue := true }
    tariff := { district.tariff with pendingSet := p } }

theorem test_meets_minute :
    (atMinute (some (dueSet true))).calm = true ∧ (atMinute (some (dueSet true))).clock.minuteDue = true ∧
      (dueSet true).activation.atOrBefore (⟨⟨2026, 4, 10⟩, 540, 0⟩ : ClockTime).moment = true ∧
      (dueSet true).isSealed = true ∧ (dueSet false).isSealed = false ∧
      (atMinute (some (dueSet true))).tariff.zones.length = 16 ∧
      ((dueSet true).zones.map PendingZone.zone).Pairwise (· < ·) ∧ (∀ z ∈ (dueSet true).zones, z.zone < 16) ∧
      (atMinute none).clock.minuteDue = true := by decide

/-- A set not due, and none. -/
theorem test_meets_minute_not_due :
    (∀ (p : PendingSet) (t : ClockTime), (atMinute none).tariff.pendingSet = some p →
      (atMinute none).clock.time = some t → p.activation.atOrBefore t.moment = false) ∧
    (⟨⟨2026, 4, 10⟩, 541⟩ : Moment).atOrBefore ⟨⟨2026, 4, 10⟩, 540⟩ = false :=
  ⟨nofun, by decide⟩

theorem test_meets_midnight :
    let s : State :=
      { district with
        clock := { district.clock with midnightDue := true, overrideClass := some .sunday }
        tariff := { district.tariff with specialDays := [⟨2026, 4, 9⟩, ⟨2026, 4, 10⟩] } }
    s.calm = true ∧ s.clock.midnightDue = true ∧ s.clock.time = some ⟨⟨2026, 4, 10⟩, 540, 0⟩ := by decide

/-- Values in range at their limits and beyond them, with the minute kept and changed, a due set, one not due. -/
theorem test_meets_set_clock :
    district.calm = true ∧ district.cabinetReady = true ∧ dateOfArg ⟨100, 1, 1⟩ = none ∧ 1439 < 1440 ∧ 59 < 60 ∧
      dateOfArg ⟨99, 12, 31⟩ = some ⟨2099, 12, 31⟩ ∧ dateOfArg ⟨0, 1, 1⟩ = some ⟨2000, 1, 1⟩ ∧
      district.now = some ⟨⟨2026, 4, 10⟩, 540⟩ ∧ district.now ≠ some ⟨⟨2099, 12, 31⟩, 1439⟩ ∧
      (dueSet true).activation.atOrBefore ⟨⟨2026, 4, 10⟩, 540⟩ = true ∧
      (dueSet true).activation.atOrBefore ⟨⟨2026, 4, 10⟩, 539⟩ = false ∧
      (∀ x ∈ district.tariff.specialDays, Date.key ⟨2099, 12, 31⟩ ≤ x.key) := by decide

theorem test_meets_override :
    district.cabinetReady = true ∧ district.clock.time ≠ none ∧ DayClass.ofNumber 3 = some .special ∧
      DayClass.ofNumber 4 = none ∧ DayClass.ofNumber 254 = none ∧
      ({ district with clock := { district.clock with time := none } }).cabinetReady = true := by decide

/-- The district with a pending set. -/
def withSet (p : Option PendingSet) : State := { district with tariff := { district.tariff with pendingSet := p } }

/-- A Loading set two minutes ahead. -/
def loading : PendingSet := { dueSet false with activation := ⟨⟨2026, 4, 10⟩, 542⟩ }

theorem test_meets_pending :
    (withSet (some loading)).calm = true ∧ (withSet (some loading)).cabinetReady = true ∧
      dateOfArg ⟨26, 4, 11⟩ = some ⟨2026, 4, 11⟩ ∧ loading.isSealed = false ∧ loading.zones ≠ [] ∧
      (withSet (some loading)).now = some ⟨⟨2026, 4, 10⟩, 540⟩ ∧
      (⟨⟨2026, 4, 10⟩, 540⟩ : Moment).minutes + 2 ≤ loading.activation.minutes ∧
      (∀ z ∈ loading.zones, (withSet (some loading)).writable (readKey .off) z.zone = true) ∧
      dateOfArg ⟨100, 1, 1⟩ = none ∧ 1439 < 1440 ∧ (dueSet true).isSealed = true ∧
      ({ loading with zones := [] } : PendingSet).zones = [] ∧ State.reset.clock.time = none ∧
      (dueSet false).activation.minutes < (⟨⟨2026, 4, 10⟩, 540⟩ : Moment).minutes + 2 ∧
      (withSet none).tariff.pendingSet = none := by decide

/-- Every value of PendingZone at its highest. -/
def fullZone : ZoneArgs := ⟨15, 5000, 1440, 100, 9999, 1, 3, [⟨0, 1, 0⟩, ⟨1439, 0, 9999⟩]⟩

theorem test_meets_pending_zone :
    (withSet (some loading)).calm = true ∧ loading.isSealed = false ∧
      (loading.zones.map PendingZone.zone).Pairwise (· < ·) ∧
      (∃ load, loadOfArgs fullZone = .ok load) ∧
      paramsOfArgs fullZone = some ⟨5000, 1440, 100, 9999, true⟩ ∧
      (∃ load, loadOfArgs { fullZone with dayClass := 255, bands := [] } = .ok load) ∧
      (withSet (some loading)).writable (readKey .off) 15 = true ∧
      (fullZone.zone ≤ 15 ∧ fullZone.minimum ≤ 5000 ∧ fullZone.maxStay ≤ 1440 ∧ fullZone.discount ≤ 100 ∧
        fullZone.visitorRate ≤ 9999 ∧ fullZone.carryOver ≤ 1) ∧
      [DayClass.weekday, .saturday, .sunday, .special][fullZone.dayClass]? = some .special ∧
      fullZone.bands.head?.map BandArg.start = some 0 ∧ (fullZone.bands.map BandArg.start).Pairwise (· < ·) ∧
      ∀ b ∈ fullZone.bands, b.start ≤ 1439 ∧ b.kind ≤ 2 ∧ (b.kind = 0 → b.rate ≤ 9999) :=
  ⟨by decide, by decide, by decide, ⟨_, rfl⟩, by decide, ⟨_, rfl⟩, by decide⟩

/-- Each refusal of a PendingZone: a zone, a day class, bands without one; a parameter, a schedule empty, late, unsorted. -/
theorem test_meets_pending_zone_refused :
    (withSet (some loading)).cabinetReady = true ∧ 15 < 16 ∧ (3 < 4 ∧ 4 ≠ 255) ∧ fullZone.bands ≠ [] ∧
      5000 < 5001 ∧ 1440 < 1441 ∧ 100 < 101 ∧ 9999 < 10000 ∧ fullZone.dayClass ≤ 3 ∧
      ([⟨1, 1, 0⟩] : List BandArg).head?.map BandArg.start ≠ some 0 ∧
      ¬(([⟨0, 1, 0⟩, ⟨0, 1, 0⟩] : List BandArg).map BandArg.start).Pairwise (· < ·) := by decide

/-- The district under a guard of zones 0 to 7, with a pending set. -/
def guarding (mode : GuardMode) : State :=
  { withSet (some loading) with tariff := { (withSet (some loading)).tariff with guardWord := ⟨.low, 8, false, mode⟩ } }

theorem test_meets_guarded :
    (guarding .keyed).cabinetReady = true ∧ (guarding .keyed).tariff.pendingSet = some loading ∧
      (∀ z ∈ loading.zones, (guarding .keyed).writable (readKey .between) z.zone = false) ∧
      (guarding .keyed).now = some ⟨⟨2026, 4, 10⟩, 540⟩ ∧ dateOfArg ⟨26, 4, 11⟩ ≠ none ∧
      (guarding .keyed).writable (readKey .collect) 0 = false ∧
      (∃ load, loadOfArgs { fullZone with zone := 7 } = .ok load) ∧
      (guarding .keyed).writable (readKey .off) 7 = false ∧ (guarding .keyed).writable (readKey .off) 8 = true :=
  ⟨by decide, rfl, by decide, by decide, by decide, by decide, ⟨_, rfl⟩, by decide, by decide⟩

theorem test_meets_set_guard :
    district.calm = true ∧ district.cabinetReady = true ∧ (guarding .keyed).tariff.guardWord.span ≤ 16 ∧
      3 ∉ [0, 1, 2, 4, 8, 16] ∧ [GuardSide.low, .high][1]? = some .high ∧ yesNo 2 = none ∧ yesNo 1 = some true ∧
      [GuardMode.opened, .keyed, .frozen][2]? = some .frozen ∧
      16 ∈ [0, 1, 2, 4, 8, 16] ∧ district.guardMode = .opened ∧ (guarding .keyed).guardMode = .keyed ∧
      (guarding .keyed).calm = true ∧ ({ guarding .keyed with frozenLatch := true }).guardMode = .frozen := by decide

/-- The district with a list of special days. -/
def withDays (days : List Date) : State := { district with tariff := { district.tariff with specialDays := days } }

theorem test_meets_special_days :
    (withDays [⟨2026, 4, 10⟩]).calm = true ∧ (withDays [⟨2026, 4, 10⟩]).cabinetReady = true ∧
      dateOfArg ⟨26, 2, 29⟩ = none ∧ dateOfArg ⟨26, 4, 10⟩ = some ⟨2026, 4, 10⟩ ∧
      (⟨2026, 4, 10⟩ : Date) ∈ (withDays [⟨2026, 4, 10⟩]).tariff.specialDays ∧
      (⟨2026, 4, 9⟩ : Date) ∉ (withDays [⟨2026, 4, 10⟩]).tariff.specialDays ∧
      32 ≤ (withDays (List.replicate 32 ⟨2026, 4, 10⟩)).tariff.specialDays.length ∧
      (withDays [⟨2026, 4, 10⟩]).tariff.specialDays.length < 32 ∧
      (([⟨2026, 4, 9⟩, ⟨2026, 4, 10⟩] : List Date).map Date.key).Pairwise (· < ·) ∧
      ∀ x ∈ (withDays [⟨2026, 4, 10⟩]).tariff.specialDays, x.valid = true := by decide

theorem test_meets_rates :
    9999 ≤ 9999 ∧ tariff7.params.discount ≤ 100 ∧ tariff7.params.visitorRate ≤ 9999 ∧ 0 < 9999 ∧
      ({ tariff7.params with discount := 33 } : ZoneParams).discount = 33 ∧
      ({ tariff7.params with discount := 100, visitorRate := 0 } : ZoneParams).visitorRate = 0 := by decide

/-- A cash quote stopped by credit, a card quote at the last minute of the day, a visitor's stopped by the balance. -/
theorem test_meets_quotes :
    (∀ c : DayClass, scheduleValid ((district.zone 7).tariff.schedule c) = true) ∧ 1439 < 1440 ∧
      computeQuote ⟨7, ⟨2026, 4, 10⟩, 680, .standard, .cash, 500, none, none, false⟩ district =
        .quoted 96 (.byMoney 500 496) ⟨⟨2026, 4, 10⟩, 776⟩ false false .credit ∧
      computeQuote ⟨7, ⟨2026, 4, 10⟩, 1109, .resident, .card, 60, some 5, none, false⟩ district =
        .quoted 1 (.byTime 50) ⟨⟨2026, 4, 10⟩, 1440⟩ true true .horizon ∧
      computeQuote ⟨7, ⟨2026, 4, 10⟩, 720, .visitor, .card, 60, some 77, some 40, false⟩ district =
        .quoted 40 (.byTime 200) ⟨⟨2026, 4, 10⟩, 760⟩ true false .balance :=
  ⟨fun c => by cases c <;> decide, by decide, by decide, by decide, by decide⟩

/-- A free minute of arrival with the charge 10 minutes on, a NoParking one, and what is below a minimum. -/
theorem test_meets_quote_refusals :
    district.priceAt 7 .standard ⟨2026, 4, 10⟩ 500 = some 0 ∧
      (∀ i < 10, district.priceAt 7 .standard ⟨2026, 4, 10⟩ (500 + i) = some 0) ∧
      district.priceAt 7 .standard ⟨2026, 4, 10⟩ 510 = some 240 ∧
      ({ district with
        tariff := ⟨List.replicate 16 ⟨{ tariff7 with weekday := [⟨0, .noParking⟩] }, 0⟩, [], none, factoryGuard⟩ }).priceAt
          7 .standard ⟨2026, 4, 10⟩ 500 = none ∧
      49 < tariff7.params.minimum ∧ 60 * 3 < 240 ∧ 240 ≤ 60 * 4 ∧ (district.zone 7).tariff.params = tariff7.params := by
  decide

/-- A machine in place of 214, Active in its slot, is heard in calm. -/
theorem test_meets_heard (m : MachineRecord) (number : m.number = 214) (link : m.link = .active fl214) :
    (districtWith m).calm = true ∧ (districtWith m).hears .a 7 m fl214 := by
  refine ⟨rfl, ⟨rfl, rfl, by decide⟩, ?_, ?_, link⟩
  · simp [State.holder?, districtWith, link, Link.fields?, fl214]
  · simp [State.machine?, districtWith, number]

/-- Amounts, durations and permit numbers at and beyond their limits, no time, a payment kind not allowed. -/
theorem test_meets_quote_request :
    (permitted).calm = true ∧ permitted.hears .a 7 m214 fl214 ∧ m214.request = none ∧
      RateClass.ofNumber 2 = some .visitor ∧ PayKind.ofNumber 2 = some .unpaid ∧ 2 < 3 ∧ 1 ≤ 1 ∧ 1440 ≤ 1440 ∧
      99999999 < 100000000 ∧ (RateClass.visitor ≠ .visitor ∨ PayKind.card ≠ .cash) ∧
      permitted.clock.time = some ⟨⟨2026, 4, 10⟩, 1080, 0⟩ ∧ m214.allows .card = true ∧
      ({ m214 with service := .outOfService } : MachineRecord).allows .card = false ∧
      permitted.permits.hold.closed = false ∧
      computeQuote ⟨7, ⟨2026, 4, 10⟩, 1080, .standard, .cash, 180, none, none, false⟩ permitted =
        .quoted 30 (.byMoney 180 180) ⟨⟨2026, 4, 10⟩, 1440⟩ false false .horizon ∧
      computeQuote ⟨7, ⟨2026, 4, 10⟩, 1110, .standard, .card, 5, none, none, false⟩ permitted =
        .reply (freeAnswer ⟨⟨2026, 4, 10⟩, 1440⟩ false) :=
  ⟨by decide, ⟨⟨rfl, rfl, by decide⟩, rfl, rfl, rfl⟩, rfl, by decide, by decide, by decide, by decide, by decide, by decide, by decide,
    rfl, by decide, by decide, by decide, by decide, by decide⟩

/-- A state in Flushing, a checkpoint of group 3 in progress for the flush. -/
def saving (s : State) : State :=
  { s with
    power := .flushing
    warning := true
    store :=
      { s.store with holdBack := true, flush := true, holder := some ⟨⟨.checkpoint 3, 1, .flush⟩, 0, false, .image []⟩ } }

theorem saving_steady {s : State} (h : s.store.freeing = false) : (saving s).steady := by
  have more : ¬(saving s).store.flushOver := fun o => o.2.2 _ rfl rfl
  exact ⟨.inr ⟨rfl, .inl more⟩, h, fun _ => more, .inr (.inr (.inr (.inl rfl)))⟩

/-- The district with group 3 dirty and the checkpoint period just run out. -/
def dirtyDistrict : State :=
  { district with
    store := { district.store with dirty := district.store.dirty.set 3 true, lastExpiry := 985, pointer := 7 } }

/-- The district with a table write in progress and a Granted hold, at a backlog. -/
def backlogged (backlog : Nat) : State :=
  { dirtyDistrict with
    permits := ⟨.granted, some 5, []⟩
    store :=
      { dirtyDistrict.store with
        backlog := backlog
        holder := some ⟨⟨.table (.pendingSet none), 5, .nobody⟩, 0, true, .nothing⟩ } }

/-- The district as an expiry behind a table write leaves it: the backlog at 3, an urgent checkpoint waiting and the hold
Interrupted (04 R78, 08 R162); then with machine 214 changed. -/
def interrupted : State := after .checkpointPeriodExpiry (backlogged 2)

def interruptedWith (m : MachineRecord) : State := { interrupted with machines := [m] }

theorem test_interrupted :
    interrupted.backlogged = true ∧ interrupted.permits.hold = .interrupted ∧ interrupted.cabinetReady = true ∧
      interrupted.store.holder.isSome = true ∧ interrupted.store.checkpointWaits = true := by decide

theorem interrupted_steady (m : MachineRecord) : interrupted.steady ∧ (interruptedWith m).steady :=
  ⟨State.steady_of_backlogged (by decide), State.steady_of_backlogged rfl⟩

/-- 11 R195: in Flushing a Resident quote's lookup waits for the array, and a cash quote is computed at once. -/
theorem test_meets_quote_flushing :
    ((saving permitted).steady ∧ (saving permitted).hears .a 7 m214 fl214 ∧ permitted.steady) ∧
      leaves (.quoteRequest .a 7 ⟨214, 1, 1, 60, 5⟩) (saving permitted) (fun t =>
        t.store.queue == [⟨.lookup ⟨214, permitted.nextId, 5, .resident, .card, 60, 7, ⟨2026, 4, 10⟩, 1080, false⟩, 3,
          .nobody⟩]) = true ∧
      leaves (.quoteRequest .a 7 ⟨214, 0, 0, 180, 0⟩) (saving permitted) (on214 fun m => m.openQuote.isSome) = true :=
  ⟨⟨saving_steady rfl, ⟨⟨rfl, rfl, by decide⟩, rfl, rfl, rfl⟩, State.steady_of_calm (by decide)⟩, by decide, by decide⟩

/-- A request for a Resident quote while the hold is Granted, UNVERIFIED and computed as Standard. -/
theorem test_meets_quote_unverified :
    let s : State := { permitted with permits := ⟨.granted, some 5, []⟩ }
    s.calm = true ∧ s.hears .a 7 m214 fl214 ∧ s.permits.hold = .granted ∧ m214.allows .card = true ∧
      RateClass.resident ≠ .standard ∧
      computeQuote ⟨7, ⟨2026, 4, 10⟩, 1080, .standard, .card, 60, none, none, true⟩ s =
        .quoted 30 (.byTime 180) ⟨⟨2026, 4, 10⟩, 1440⟩ true false .horizon :=
  ⟨by decide, ⟨⟨rfl, rfl, by decide⟩, rfl, rfl, rfl⟩, rfl, by decide, by decide, by decide⟩

/-- The same request while the hold is Interrupted. -/
theorem test_meets_quote_interrupted :
    ((interruptedWith m214).steady ∧ (interruptedWith m214).hears .a 7 m214 fl214 ∧
        (interruptedWith m214).permits.hold = .interrupted) ∧
      leaves (.quoteRequest .a 7 ⟨214, 2, 2, 60, 77⟩) (interruptedWith m214) (on214 fun m =>
        m.request.bind Request.reply == some Code.kindNotAllowed.plain) = true :=
  ⟨⟨(interrupted_steady m214).2, ⟨⟨rfl, rfl, by decide⟩, rfl, rfl, rfl⟩, rfl⟩, by decide⟩

/-- The lookup of permit 5 that machine 214 waits for. -/
def lookup5 (unverified : Bool) : LookupWork := ⟨214, 1, 5, .resident, .card, 60, 7, ⟨2026, 4, 10⟩, 1080, unverified⟩

/-- A lookup that finds a VALID permit. -/
theorem test_meets_lookup :
    asking.performing ⟨.lookup (lookup5 false), 3, .nobody⟩ ∧
      (∃ m r, asking.machine? 214 = some m ∧ m.request = some r ∧ r.id = (lookup5 false).id ∧ r.zoneChanged = false) ∧
      (∃ p, findPermit asking.nv.permits 5 = some p ∧
        permitCause (some p) .resident (some ⟨2026, 4, 10⟩) 7 = none ∧ (RateClass.resident ≠ .visitor)) ∧
      computeQuote ⟨7, ⟨2026, 4, 10⟩, 1080, .resident, .card, 60, some 5, none, false⟩ asking =
        .quoted 30 (.byTime 135) ⟨⟨2026, 4, 10⟩, 1440⟩ true false .horizon :=
  ⟨⟨by decide, .inr ⟨by decide, _, rfl, by decide⟩⟩, ⟨_, _, rfl, rfl, by decide, by decide⟩,
    ⟨_, rfl, by decide, by decide⟩, by decide⟩

/-- A lookup marked UNVERIFIED, of a visitor with payment kind None or not. -/
theorem test_meets_lookup_unverified :
    (after .holdRequest asking).performing ⟨.lookup (lookup5 true), 3, .nobody⟩ ∧
      (∃ m r, (after .holdRequest asking).machine? 214 = some m ∧ m.request = some r ∧ r.id = (lookup5 true).id ∧
        r.zoneChanged = false) ∧
      (lookup5 true).unverified = true ∧
      (after .holdRequest (after (.quoteRequest .a 7 ⟨214, 2, 2, 60, 77⟩) permitted)).performing
        ⟨.lookup ⟨214, 1, 77, .visitor, .unpaid, 60, 7, ⟨2026, 4, 10⟩, 1080, true⟩, 3, .nobody⟩ :=
  ⟨⟨by decide, .inr ⟨by decide, _, rfl, by decide⟩⟩, ⟨_, _, rfl, rfl, by decide, by decide⟩, rfl,
    ⟨by decide, .inr ⟨by decide, _, rfl, by decide⟩⟩⟩

/-- A permit not found, a balance of 0, a zone changed in flight, a request discarded. -/
theorem test_meets_lookup_refusals :
    let gone : State := { asking with nv := blankArray }
    let changed : State := asking.onMachine 214 fun m => { m with request := m.request.map fun r => { r with zoneChanged := true } }
    let dropped : State := asking.onMachine 214 fun m => { m with request := none }
    (gone.performing ⟨.lookup (lookup5 false), 3, .nobody⟩ ∧
        permitCause (findPermit gone.nv.permits 5) .resident (some ⟨2026, 4, 10⟩) 7 = some .notFound) ∧
      (changed.performing ⟨.lookup (lookup5 false), 3, .nobody⟩ ∧
        ∃ m r, changed.machine? 214 = some m ∧ m.request = some r ∧ r.id = (lookup5 false).id ∧ r.zoneChanged = true) ∧
      (dropped.performing ⟨.lookup (lookup5 false), 3, .nobody⟩ ∧
        ∀ m r, dropped.machine? 214 = some m → m.request = some r → r.id ≠ (lookup5 false).id) ∧
      permitCause (some ⟨77, .visitor, 0xFFFF#16, ⟨2026, 1, 1⟩, ⟨2026, 12, 31⟩, .active, some 0⟩) .visitor
        (some ⟨2026, 12, 31⟩) 7 = none :=
  ⟨⟨⟨by decide, .inr ⟨by decide, _, rfl, by decide⟩⟩, by decide⟩,
    ⟨⟨by decide, .inr ⟨by decide, _, rfl, by decide⟩⟩, _, _, rfl, rfl, by decide, by decide⟩,
    ⟨⟨by decide, .inr ⟨by decide, _, rfl, by decide⟩⟩, fun m r h g => by cases h; cases g⟩, by decide⟩

/-- Machine 214 with a cash quote of 30 minutes for 120p, issued 10 seconds ago. -/
def quoting : MachineRecord :=
  { m214 with
    openQuote := some ⟨24, 7, 4, .standard, .cash, 30, .byMoney 120 120, ⟨⟨2026, 4, 10⟩, 570⟩, none, 990⟩ }

/-- A lifetime just run out, and one with a second left. -/
theorem test_meets_expiry :
    ((districtWith quoting).machines.map MachineRecord.number).Nodup ∧ (districtWith quoting).machine? 214 = some quoting ∧
      10 ≤ ((districtWith quoting).clock.counter - 990).toNat ∧
      ((districtWith quoting).clock.counter - 990).toNat < 11 ∧
      ∀ (m : MachineRecord) (q : OpenQuote), district.machine? 214 = some m → m.openQuote = some q →
        (district.clock.counter - q.issued).toNat < district.timers.lifetime :=
  ⟨by decide, rfl, by decide, by decide, fun m q h g => by cases h; cases g⟩

/-- The cash sale of 120p in coins of 100p and 20p. -/
def cashSale : SaleFrame := ⟨214, 24, 40336, 0, 120, 0, [⟨5, 1⟩, ⟨3, 1⟩]⟩

theorem test_meets_cash_sale :
    ((districtWith quoting).calm = true ∧ (districtWith quoting).hears .a 7 quoting fl214) ∧
      ((districtWith quoting).machines.map MachineRecord.number).Nodup ∧ quoting.request = none ∧ quoting.commit = none ∧ quoting.accepted ≠ ⟨some 40336, some 24⟩ ∧
      4 = ((districtWith quoting).zone 7).generation ∧ quoting.accepted.serial = some 40335 ∧
      (1 ≤ (40336 + 999999 - 40335) % 999999 ∧ (40336 + 999999 - 40335) % 999999 ≤ 1000 ∧
        false = decide (2 ≤ (40336 + 999999 - 40335) % 999999)) ∧
      (1 ≤ (41335 + 999999 - 40335) % 999999 ∧ (41335 + 999999 - 40335) % 999999 ≤ 1000 ∧
        true = decide (2 ≤ (41335 + 999999 - 40335) % 999999)) ∧
      quoting.allows .cash = true ∧ quoting.box = .installed 4417 ∧ cashSale.coins ≠ [] ∧ cashSale.coins.length ≤ 8 ∧
      (cashSale.coins.map CoinPair.index).Nodup ∧
      (∀ c ∈ cashSale.coins, c.index ≤ 7 ∧ 1 ≤ c.count ∧ 1 ≤ district.cash.denominations.get c.index) ∧
      (cashSale.coins.map fun c => c.count * district.cash.denominations.get c.index).sum = cashSale.tendered ∧
      (QuotePrice.byMoney 120 120).amount = cashSale.tendered :=
  ⟨test_meets_heard quoting rfl rfl, by decide⟩

/-- Each refusal of a commit: its form, an earlier sale in flight, a repeat, no quote, a stale one, a serial at
distance 0, 1001 and within it, a kind not allowed, a wrong coin sum. -/
theorem test_meets_sale_refusals :
    ((districtWith quoting).calm = true ∧ (districtWith quoting).hears .a 7 quoting fl214) ∧ 255 < 256 ∧
      999999 < 1000000 ∧ saleForm cashSale = some .cash ∧
      (∃ c, ({ quoting with commit := some ⟨0, 1, 1, false, ⟨1, 7, 4, .visitor, .card, 1, .byTime 1, ⟨⟨2026, 4, 10⟩, 1⟩,
        some 77, 990⟩, false⟩ } : MachineRecord).commit = some c) ∧
      saleForm { cashSale with token := 23, serial := 40335 } = some .cash ∧
      quoting.accepted = ⟨some 40335, some 23⟩ ∧ (24 ≠ 25) ∧ 3 ≠ ((districtWith quoting).zone 7).generation ∧
      (40335 + 999999 - 40335) % 999999 = 0 ∧ 1000 < (41336 + 999999 - 40335) % 999999 ∧
      PayKind.card ≠ .cash ∧ saleForm { cashSale with payKind := 1 } = some .card ∧
      (∀ box, ({ quoting with box := .out } : MachineRecord).box ≠ .installed box) ∧
      ([⟨5, 1⟩].map fun x : CoinPair => x.count * district.cash.denominations.get x.index).sum ≠ 120 ∧
      district.cash.denominations.get 7 = 0 :=
  ⟨test_meets_heard quoting rfl rfl, by decide, by decide, by decide, ⟨_, rfl⟩, by decide, by decide, by decide,
    by decide, by decide, by decide, by decide, by decide, nofun, by decide, by decide⟩

/-- Machine 214 with a card quote for 135p. -/
def cardQuoting : MachineRecord :=
  { m214 with
    openQuote := some ⟨24, 7, 4, .standard, .card, 30, .byTime 135, ⟨⟨2026, 4, 10⟩, 570⟩, none, 990⟩ }

theorem test_meets_card_sale :
    ((districtWith cardQuoting).calm = true ∧ (districtWith cardQuoting).hears .a 7 cardQuoting fl214) ∧
      ((districtWith visiting).calm = true ∧ (districtWith visiting).hears .a 7 visiting fl214) ∧
      cardQuoting.request = none ∧ cardQuoting.commit = none ∧ cardQuoting.accepted ≠ ⟨some 40336, some 24⟩ ∧
      4 = (district.zone 7).generation ∧ cardQuoting.accepted.serial = some 40335 ∧
      (1 ≤ (40336 + 999999 - 40335) % 999999 ∧ false = decide (2 ≤ (40336 + 999999 - 40335) % 999999)) ∧
      cardQuoting.allows .card = true ∧ visiting.allows .card = true ∧ RateClass.standard ≠ .visitor ∧
      (districtWith visiting).permits.hold.closed = false ∧
      ({ districtWith visiting with permits := ⟨.granted, some 5, []⟩ }).permits.hold.closed = true ∧
      ({ districtWith visiting with permits := ⟨.granted, some 5, []⟩ }).calm = true :=
  ⟨test_meets_heard _ rfl rfl, test_meets_heard _ rfl rfl, by decide⟩

/-- 04 R78: a visitor sale while the hold is Interrupted is refused, its quote open again. -/
theorem test_meets_card_sale_interrupted :
    ((interruptedWith visiting).power = .running ∧ (interruptedWith visiting).steady ∧
        (interruptedWith visiting).hears .a 7 visiting fl214 ∧ (interruptedWith visiting).permits.hold = .interrupted ∧
        (interruptedWith visiting).store.backlog = 3) ∧
      leaves (.saleCommit .a 7 ⟨214, 24, 40336, 1, 0, 9, []⟩) (interruptedWith visiting) (on214 fun m =>
        m.request.bind Request.reply == some Code.permitUnavailable.plain && m.openQuote == visiting.openQuote) =
        true :=
  ⟨⟨rfl, (interrupted_steady visiting).2, ⟨⟨rfl, rfl, by decide⟩, rfl, rfl, rfl⟩, rfl, rfl⟩, by decide⟩

/-- The decrement of that visitor sale, taken, refused, too small and stale. -/
theorem test_meets_decrement :
    (∃ h m c, decrementing.completing h ∧ h.op.work = .decrement ⟨214, 1, 77, 30, 7⟩ ∧ h.data = .decision .taken ∧
      decrementing.machine? 214 = some m ∧ m.commit = some c ∧ c.id = 1 ∧
      c.quote.generation = (decrementing.zone c.quote.zone).generation ∧ c.quote.price = .byTime 135) ∧
    (∃ h m c, State.completing { decrementing with tariff := ⟨List.replicate 16 ⟨tariff7, 9⟩, [], none, factoryGuard⟩ } h ∧
      h.op.work = .decrement ⟨214, 1, 77, 30, 7⟩ ∧ h.data = .decision .taken ∧ decrementing.machine? 214 = some m ∧
      m.commit = some c ∧
      c.quote.generation ≠
        (State.zone { decrementing with tariff := ⟨List.replicate 16 ⟨tariff7, 9⟩, [], none, factoryGuard⟩ }
          c.quote.zone).generation) :=
  ⟨⟨_, _, _, ⟨by decide, by decide, rfl⟩, by decide, by decide, rfl, rfl, by decide, by decide, by decide⟩,
    ⟨_, _, _, ⟨by decide, by decide, rfl⟩, by decide, by decide, rfl, rfl, by decide⟩⟩

/-- A decrement whose commit has been discarded meanwhile, and one decided while the clock is Unset. -/
theorem test_meets_decrement_discarded :
    (∃ h, State.completing { decrementing with machines := [m214] } h ∧
        h.op.work = .decrement ⟨214, 1, 77, 30, 7⟩ ∧ h.data = .decision .taken ∧
        ∀ m c, State.machine? { decrementing with machines := [m214] } 214 = some m → m.commit = some c → c.id ≠ 1) ∧
      (∃ p, findPermit permitted.nv.permits 77 = some p ∧ p.kind = .visitor ∧ p.state = .active) ∧
      State.reset.clock.time = none :=
  ⟨⟨_, ⟨by decide, by decide, rfl⟩, by decide, by decide, fun m c h g => by cases h; cases g⟩,
    ⟨_, rfl, by decide, by decide⟩, rfl⟩

/-- The other decisions: no such permit, and a balance below the minutes. -/
theorem test_meets_decrement_refused :
    let asked (permits : List Permit) : State :=
      after (.saleCommit .a 7 ⟨214, 24, 40336, 1, 0, 9, []⟩)
        { permitted with machines := [visiting], nv := { blankArray with permits := permits } }
    (∃ h, (asked []).completing h ∧ h.op.work = .decrement ⟨214, 1, 77, 30, 7⟩ ∧
        h.data = .decision (.refused .notFound)) ∧
      ∃ h, (asked [⟨77, .visitor, 0xFFFF#16, ⟨2026, 1, 1⟩, ⟨2026, 12, 31⟩, .active, some 29⟩]).completing h ∧
        h.op.work = .decrement ⟨214, 1, 77, 30, 7⟩ ∧ h.data = .decision .short :=
  ⟨⟨_, ⟨by decide, by decide, rfl⟩, by decide, by decide⟩, ⟨_, ⟨by decide, by decide, rfl⟩, by decide, by decide⟩⟩

/-- A PermitInsert at its limits. -/
def inserting : PermitArgs := ⟨99999999, 1, 65535, ⟨0, 1, 1⟩, ⟨99, 12, 31⟩, 2, 1, 65535⟩

theorem test_meets_permit_commands :
    district.calm = true ∧ district.cabinetReady = true ∧ PermitKind.ofNumber 1 = some .visitor ∧
      PermitKind.ofNumber 0 = some .resident ∧ dateOfArg inserting.validFrom = some ⟨2000, 1, 1⟩ ∧
      dateOfArg inserting.validTo = some ⟨2099, 12, 31⟩ ∧ PermitState.ofNumber 2 = some .revoked ∧
      Date.key ⟨2000, 1, 1⟩ ≤ Date.key ⟨2099, 12, 31⟩ ∧ 1 ≤ inserting.number ∧ inserting.number ≤ 99999999 ∧
      inserting.zones ≤ 65535 ∧ inserting.balance ≤ 65535 ∧ 65535 < 65536 ∧
      interrupted.cabinetReady = true ∧ interrupted.permits.hold = .interrupted ∧
      district.permits.hold ≠ .interrupted ∧
      leaves (.permitInsert { inserting with balancePresence := 2 }) district (fun t =>
        t.cabinet.answer == some Code.badRequest.plain) = true := by decide

/-- 04 R70: HOLD_INTERRUPTED at a backlog of 3; there a read suspends the write in progress, and while Flushing a write
waits behind the hold-back. -/
theorem test_meets_permit_interrupted :
    (interrupted.steady ∧ (saving district).steady ∧ (saving district).cabinetReady = true) ∧
      (∀ c ∈ [.permitInsert inserting, .permitUpdate ⟨5, some 1, none, none, none⟩, .permitDelete 5],
        leaves c interrupted (fun t => t.cabinet.answer == some Code.holdInterrupted.plain) = true) ∧
      leaves (.permitRead 5) interrupted (fun t => t.store.serving == some ⟨.permitRead 5, 3, .cabinet⟩) = true ∧
      leaves (.permitDelete 5) (saving district) (fun t =>
        t.store.queue == [⟨.permitDelete 5, 5, .cabinet⟩] && t.cabinet.result == .waiting) = true :=
  ⟨⟨(interrupted_steady m214).1, saving_steady rfl, by decide⟩, by decide, by decide, by decide⟩

/-- A PermitUpdate in form with every value at its highest, one for each check that fails, and the last date of a February. -/
theorem test_meets_permit_change :
    let last : PermitChange := ⟨99999999, some 2, some (⟨0, 1, 1⟩, ⟨0, 1, 1⟩), some 65535, some 65535⟩
    (∃ d vf vt, last.dates = some d ∧ dateOfArg d.1 = some vf ∧ dateOfArg d.2 = some vt ∧ vf.key ≤ vt.key) ∧
      (∀ a ∈ [⟨0, some 2, none, none, none⟩, ⟨100000000, some 2, none, none, none⟩, ⟨5, none, none, none, none⟩,
          ⟨5, some 3, none, none, none⟩, ⟨5, none, some (⟨0, 1, 2⟩, ⟨0, 1, 1⟩), none, none⟩,
          ⟨5, none, some (⟨100, 1, 1⟩, ⟨0, 1, 1⟩), none, none⟩, ⟨5, none, none, some 0, none⟩,
          ⟨5, none, none, some 65536, none⟩, ⟨5, none, none, none, some 65536⟩],
        leaves (.permitUpdate a) district (fun t => t.cabinet.answer == some Code.badRequest.plain) = true) ∧
      leaves (.permitUpdate last) district (fun t => t.cabinet.answer == some Code.pending.plain) = true ∧
      dateOfArg ⟨24, 2, 29⟩ = some ⟨2024, 2, 29⟩ ∧ dateOfArg ⟨23, 2, 29⟩ = none := by
  refine ⟨⟨_, _, _, rfl, rfl, rfl, by decide⟩, by decide, by decide, by decide, by decide⟩

/-- The district with a permit operation in progress. -/
def permitOp (c : Instr) : State := after c permitted

/-- A table with no room: 4096 records. -/
def fullTable : List Permit :=
  List.replicate 4096 ⟨5, .resident, 1#16, ⟨2026, 1, 1⟩, ⟨2026, 12, 31⟩, .active, none⟩

/-- A new permit, one that stands, and a full table. -/
theorem test_meets_permit_insert :
    (∃ h p, (permitOp (.permitInsert inserting)).completing h ∧ h.op = ⟨.permitInsert p, 5, .cabinet⟩ ∧
      findPermit permitted.nv.permits p.number = none ∧ permitted.nv.permits.length < 4096 ∧
      (permitted.nv.permits.map Permit.number).Pairwise (· < ·)) ∧
    (∃ h p, (permitOp (.permitInsert { inserting with number := 77 })).completing h ∧
      h.op = ⟨.permitInsert p, 5, .cabinet⟩ ∧ findPermit permitted.nv.permits p.number ≠ none) ∧
    ∃ h p, State.completing { permitOp (.permitInsert inserting) with
        nv := { blankArray with permits := fullTable } } h ∧
      h.op = ⟨.permitInsert p, 5, .cabinet⟩ ∧ findPermit fullTable p.number = none ∧ 4096 ≤ fullTable.length :=
  ⟨⟨_, _, ⟨by decide, by decide, rfl⟩, rfl, by decide, by decide, by decide⟩,
    ⟨_, _, ⟨by decide, by decide, rfl⟩, rfl, by decide⟩,
    ⟨_, _, ⟨by decide, by decide, rfl⟩, rfl, by decide +kernel, by decide +kernel⟩⟩

/-- An update of a permit not there, of a resident's balance, of a revoked permit, and one that is made. -/
theorem test_meets_permit_update :
    (∃ h u, (permitOp (.permitUpdate ⟨6, some 1, none, none, none⟩)).completing h ∧
      h.op = ⟨.permitUpdate u, 5, .cabinet⟩ ∧ findPermit permitted.nv.permits u.number = none) ∧
    (∃ h u p, (permitOp (.permitUpdate ⟨5, none, none, none, some 1⟩)).completing h ∧
      h.op = ⟨.permitUpdate u, 5, .cabinet⟩ ∧ findPermit permitted.nv.permits u.number = some p ∧ u.balance ≠ none ∧
      p.kind = .resident) ∧
    (∃ h u p, (permitOp (.permitUpdate ⟨77, some 2, none, none, some 65535⟩)).completing h ∧
      h.op = ⟨.permitUpdate u, 5, .cabinet⟩ ∧ findPermit permitted.nv.permits u.number = some p ∧ p.kind = .visitor ∧
      (p.state ≠ .revoked ∨ u.state = some .revoked)) ∧
    ∃ h u p, State.completing { permitOp (.permitUpdate ⟨77, some 1, none, none, none⟩) with
        nv := { blankArray with
          permits := [⟨77, .visitor, 1#16, ⟨2026, 1, 1⟩, ⟨2026, 12, 31⟩, .revoked, some 100⟩] } } h ∧
      h.op = ⟨.permitUpdate u, 5, .cabinet⟩ ∧
      findPermit [⟨77, .visitor, 1#16, ⟨2026, 1, 1⟩, ⟨2026, 12, 31⟩, .revoked, some 100⟩] u.number = some p ∧
      u.balance = none ∧ p.state = .revoked ∧ u.state ≠ none ∧ u.state ≠ some .revoked :=
  ⟨⟨_, _, ⟨by decide, by decide, rfl⟩, rfl, by decide⟩,
    ⟨_, _, _, ⟨by decide, by decide, rfl⟩, rfl, rfl, by decide, by decide⟩,
    ⟨_, _, _, ⟨by decide, by decide, rfl⟩, rfl, rfl, by decide, by decide⟩,
    ⟨_, _, _, ⟨by decide, by decide, rfl⟩, rfl, rfl, by decide, by decide, by decide, by decide⟩⟩

/-- A deletion, a read and a return, of a permit that is there. -/
theorem test_meets_permit_rest :
    (∃ h, (permitOp (.permitDelete 5)).completing h ∧ h.op = ⟨.permitDelete 5, 5, .cabinet⟩ ∧
      findPermit permitted.nv.permits 5 ≠ none ∧ findPermit permitted.nv.permits 6 = none) ∧
    ((permitOp (.permitRead 5)).performing ⟨.permitRead 5, 3, .cabinet⟩) ∧
    ∃ h p, State.completing { permitted with
        store := permitted.store.taking ⟨.giveBack ⟨77, 30⟩, 4, .nobody⟩ } h ∧
      h.op = ⟨.giveBack ⟨77, 30⟩, 4, .nobody⟩ ∧ findPermit permitted.nv.permits 77 = some p ∧ p.kind = .visitor :=
  ⟨⟨_, ⟨by decide, by decide, rfl⟩, by decide, by decide, by decide⟩,
    ⟨by decide, .inr ⟨by decide, _, rfl, by decide⟩⟩, ⟨_, _, ⟨by decide, by decide, rfl⟩, rfl, rfl, by decide⟩⟩

/-- Each hold state, a permit program in progress, and a limit just reached and not yet. -/
theorem test_meets_hold :
    let held (state : HoldState) : State := { district with permits := ⟨state, some 5, [⟨77, 30⟩]⟩ }
    (held .granted).calm = true ∧ (held .granted).cabinetReady = true ∧ (held .granted).permits.hold ≠ .free ∧
      district.permits.hold = .free ∧ district.store.permitProgram = false ∧
      (permitOp (.permitDelete 5)).store.permitProgram = true ∧ (permitOp (.permitDelete 5)).calm = true ∧
      ({ permitOp (.permitDelete 5) with cabinet := district.cabinet }).cabinetReady = true ∧
      (held .requested).permits.hold = .requested ∧ (held .requested).store.permitProgram = false ∧
      20 * 60 ≤ ((1205 : Seconds) - 5).toNat ∧ ((1204 : Seconds) - 5).toNat < 20 * 60 ∧
      (held .interrupted).permits.holdStart = some 5 := by decide

/-- A hold Interrupted at a backlog of 3: requested again, released and timed out, a return passed on to the queue; and one
that is asked for, or Requested, at that backlog. -/
theorem test_meets_hold_interrupted :
    let s (state : HoldState) : State := { interrupted with permits := ⟨state, some 5, [⟨77, 30⟩]⟩ }
    let late : State := { s .interrupted with clock := { district.clock with counter := 1205 } }
    ((s .interrupted).steady ∧ (s .free).steady ∧ late.steady) ∧
      ((s .interrupted).cabinetReady = true ∧ 3 ≤ (s .free).store.backlog ∧ late.timers.holdLimit = 20) ∧
      leaves .holdRequest (s .interrupted) (fun t => t.cabinet.answer == some Code.holdActive.plain) = true ∧
      leaves .holdRelease (s .interrupted) (fun t =>
        t.permits == ⟨.free, none, []⟩ && t.store.queue.getLast? == some ⟨.giveBack ⟨77, 30⟩, 4, .nobody⟩) = true ∧
      leaves .holdTimeout late (fun t => t.permits == ⟨.free, none, []⟩ && t.store.queue.length == 2) = true ∧
      leaves .holdRequest (s .free) (fun t => t.permits.hold == .requested) = true ∧
      leaves .holdGrant (s .requested) (fun t => t.permits == (s .requested).permits) = true :=
  ⟨⟨State.steady_of_backlogged rfl, State.steady_of_backlogged rfl, State.steady_of_backlogged rfl⟩, by decide, by decide,
    by decide, by decide, by decide, by decide⟩

/-- The district with a round that lists machines 52 and 214, and the drop counter at its end. -/
def rounding : State :=
  { district with
    cash :=
      { district.cash with
        dropCounter := 65535
        round := some ⟨13, true, .cabinet, none, 100, [⟨52, .pending, none⟩, ⟨214, .pending, none⟩]⟩ } }

/-- A removal with cash, scheduled and not, with a place and none, and an empty box. -/
theorem test_meets_box_removal :
    (district.calm = true ∧ district.hears .a 7 m214 fl214 ∧ m214.request = none ∧ m214.box = .installed 4417) ∧
      ((decide (0 < m214.tally.cash) && m214.heldDrop.isNone) = true ∧ decide (district.cash.placesTaken < 256) = true ∧
        decide (255 < 256) = true ∧ decide (256 < 256) = false ∧
        decide (district.openEntry? 214 = some .pending) = false) ∧
      (rounding.calm = true ∧ rounding.hears .a 7 m214 fl214 ∧
        decide (rounding.openEntry? 214 = some .pending) = true ∧ 65535 ≤ rounding.cash.dropCounter) ∧
      ((districtWith { m214 with tally := emptyTally }).calm = true ∧
        (districtWith { m214 with tally := emptyTally }).hears .a 7 { m214 with tally := emptyTally } fl214) :=
  ⟨⟨by decide, ⟨⟨rfl, rfl, by decide⟩, rfl, rfl, rfl⟩, rfl, rfl⟩, by decide, ⟨by decide, ⟨⟨rfl, rfl, by decide⟩, rfl, rfl, rfl⟩, by decide, by decide⟩,
    test_meets_heard _ rfl rfl⟩

/-- A record of the ring with a drop number. -/
def dropAt (place number : Nat) (fetched : Bool) : DropPlace :=
  ⟨place, ⟨number, ⟨214, none, 4417, none, Octet.const 0, 0, 0, 0, none, none⟩⟩, fetched⟩

/-- The place that a drop takes: the next one, the last of the ring, and one past a place that is taken. -/
theorem test_meets_places :
    district.takes 3 ∧ State.takes { district with cash := { district.cash with nextPlace := 255 } } 255 ∧
      State.takes { district with nv := { blankArray with places := [dropAt 3 9000 false] } } 4 := by
  refine ⟨⟨by decide, by decide, ?_, ?_⟩, ⟨by decide, by decide, ?_, ?_⟩, ⟨by decide, by decide, ?_, ?_⟩⟩
  · simp [State.taken, district, State.reset, blankArray, StoreControl.asked]
  · exact fun p _ _ => Nat.zero_le _
  · simp [State.taken, district, State.reset, blankArray, StoreControl.asked]
  · exact fun p _ _ => Nat.zero_le _
  · simp [State.taken, dropAt, district, State.reset, StoreControl.asked]
  · intro p low free
    have other : p ≠ 3 := by
      rintro rfl
      exact free (.inl ⟨dropAt 3 9000 false, by simp, rfl, rfl⟩)
    simp only [district]
    omega

/-- A removal repeated, with a result held and with none. -/
theorem test_meets_box_removal_repeated :
    let out : MachineRecord := { m214 with box := .out, removal := .recorded 9001 }
    let never : MachineRecord := { m214 with box := .unknown }
    ((districtWith out).calm = true ∧ (districtWith out).hears .a 7 out fl214) ∧ out.request = none ∧
      out.removal ≠ .nothing ∧ (∀ box, out.box ≠ .installed box) ∧
      ((districtWith never).calm = true ∧ (districtWith never).hears .a 7 never fl214) ∧ never.removal = .nothing ∧
      ∀ box, never.box ≠ .installed box :=
  ⟨test_meets_heard _ rfl rfl, rfl, by decide, nofun, test_meets_heard _ rfl rfl, rfl, nofun⟩

/-- An insertion of the box held, from Out in a BoxOut entry with a conflict, and of another box. -/
theorem test_meets_box_insertion :
    let out : MachineRecord := { m214 with box := .out }
    let boxOut : State :=
      { districtWith out with
        cash := { district.cash with round := some ⟨13, true, .cabinet, none, 640, [⟨214, .boxOut, some 9001⟩]⟩ } }
    (district.calm = true ∧ district.hears .a 7 m214 fl214 ∧ m214.box = .installed 4417 ∧ 4417 ≠ 65535) ∧
      (boxOut.calm = true ∧ boxOut.hears .a 7 out fl214 ∧ out.request = none ∧ out.box = .out ∧
        boxOut.openEntry? 214 = some .boxOut) ∧
      ((true = true ↔ 0 = 0 ∨ ∃ x ∈ boxOut.machines, x.number ≠ 214 ∧ x.box = .installed 0) ∧
        (false = true ↔ 4418 = 0 ∨ ∃ x ∈ boxOut.machines, x.number ≠ 214 ∧ x.box = .installed 4418)) ∧
      (rounding.openEntry? 214 ≠ some .boxOut ∧ decide (rounding.openEntry? 214 = some .pending) = true ∧
        district.openEntry? 214 ≠ some .boxOut ∧ decide (district.openEntry? 214 = some .pending) = false) :=
  ⟨⟨by decide, ⟨⟨rfl, rfl, by decide⟩, rfl, rfl, rfl⟩, rfl, by decide⟩,
    ⟨by decide, ⟨⟨rfl, rfl, by decide⟩, rfl, rfl, rfl⟩, rfl, rfl, by decide⟩, by decide, by decide⟩

/-- The district with the write of a removal in progress, and the ring's last place next. -/
def recording : State :=
  after (.boxRemoved .a 7 214) { rounding with cash := { rounding.cash with nextPlace := 255 } }

/-- A box write with a drop, and the write of a held drop. -/
theorem test_meets_box_writes :
    (∃ h w m, recording.completing h ∧ h.op.work = .boxWrite w ∧ recording.machine? w.machine = some m ∧
      w.heldMade = none ∧ (∃ place record, w.drop = some (place, record) ∧ place = 255)) ∧
    ∃ h w m, State.completing { recording with
        store := { recording.store with
          holder :=
            some ⟨⟨.heldWrite ⟨214, 0, ⟨1, ⟨214, none, 4417, none, Octet.const 0, 0, 0, 0, none, none⟩⟩⟩, 2,
              .nobody⟩, 0, false, .nothing⟩ } } h ∧
      h.op.work = .heldWrite w ∧ recording.machine? w.machine = some m :=
  ⟨⟨_, _, _, ⟨by decide, by decide, rfl⟩, rfl, rfl, by decide, _, _, rfl, by decide⟩,
    ⟨_, _, _, ⟨by decide, by decide, rfl⟩, rfl, rfl⟩⟩

/-- A box write that makes a held drop, still held, and one with no drop. -/
theorem test_meets_box_write_held :
    (∃ h w m, (after (.boxRemoved .a 7 214) { district with cash := { district.cash with placesTaken := 256 } }).completing
        h ∧ h.op.work = .boxWrite w ∧ w.heldMade ≠ none ∧ w.drop = none ∧
      (after (.boxRemoved .a 7 214) { district with cash := { district.cash with placesTaken := 256 } }).machine? 214 =
        some m ∧ m.heldDrop = w.heldMade) :=
  ⟨_, _, _, ⟨by decide, by decide, rfl⟩, rfl, by decide, by decide, rfl, by decide⟩

/-- The district with three records, the oldest unfetched one at place 255. -/
def ringed : State :=
  { district with
    nv := { blankArray with places := [dropAt 2 9000 false, dropAt 254 8998 true, dropAt 255 8999 false] } }

theorem test_meets_fetch :
    district.calm = true ∧ district.cabinetReady = true ∧ (∀ p ∈ district.nv.places, p.fetched = true) ∧
      ringed.calm = true ∧ ringed.cabinetReady = true ∧ dropAt 255 8999 false ∈ ringed.nv.places ∧
      ∀ q ∈ ringed.nv.places, q.fetched = false → q ≠ dropAt 255 8999 false →
        (ringed.cash.dropCounter + 65535 - q.record.number) % 65535 <
          (ringed.cash.dropCounter + 65535 - 8999) % 65535 := by decide

theorem test_meets_fetch_completions :
    ((after .fetchDrop ringed).performing ⟨.fetchRead 255, 3, .cabinet⟩ ∧
      (after .fetchDrop ringed).store.holder ≠ none) ∧
    ∃ h, (after .fetchDropReadCompletion (after .fetchDrop ringed)).completing h ∧
      h.op = ⟨.fetchMark (dropAt 255 8999 false).place, 2, .cabinet⟩ ∧
      (after .fetchDropReadCompletion (after .fetchDrop ringed)).nv.placeAt? 255 = some (dropAt 255 8999 false) ∧
      ∀ m ∈ (after .fetchDropReadCompletion (after .fetchDrop ringed)).machines, m.heldDrop = none ∨ m.heldAsked ≠ none :=
  ⟨⟨⟨by decide, .inr ⟨by decide, _, rfl, by decide⟩⟩, by decide⟩,
    ⟨_, ⟨by decide, by decide, rfl⟩, by decide, by decide, by decide⟩⟩

/-- Machine 214 with a held drop of the round held. -/
def holding : MachineRecord :=
  { m214 with heldDrop := some ⟨214, some 13, 4417, none, Octet.const 0, 640, 0, 5, none, none⟩ }

/-- The marking of a record completes while machine 214 has a held drop, the ring full. -/
theorem test_meets_fetch_held :
    let s : State :=
      { rounding with
        machines := [holding]
        cash := { rounding.cash with placesTaken := 256 }
        store := rounding.store.taking ⟨.fetchMark 255, 2, .cabinet⟩ }
    (∃ h, s.completing h ∧ h.op = ⟨.fetchMark 255, 2, .cabinet⟩) ∧
      (s.machines.map MachineRecord.number).Pairwise (· < ·) ∧ holding ∈ s.machines ∧ holding.heldAsked = none ∧
      (∀ x ∈ s.machines, x.heldDrop ≠ none → x.heldAsked = none → holding.number ≤ x.number) ∧
      s.cash.placesTaken ≤ 256 ∧ s.warning = false ∧ s.restartAsked = false :=
  ⟨⟨_, ⟨by decide, by decide, rfl⟩, rfl⟩, by decide, by decide, by decide, by decide, by decide, by decide, by decide⟩

/-- Denominations at and beyond 50000, a held coin's value kept and changed, machine numbers at their limits. -/
theorem test_meets_cash_commands :
    district.calm = true ∧ district.cabinetReady = true ∧
      (∃ i < 8, 50000 < (⟨1, 2, 5, 20, 50, 100, 200, 50001⟩ : Octet Nat).get i) ∧
      (∀ i < 8, (⟨1, 2, 5, 20, 50, 100, 200, 50000⟩ : Octet Nat).get i ≤ 50000) ∧
      0 < m214.tally.counts.get 3 ∧ district.cash.denominations.get 3 = 20 ∧ m214.tally.counts.get 7 = 0 ∧
      999 < 1000 ∧ district.machine? 999 = none ∧ district.machine? 1 = none ∧
      district.machine? 214 = some m214 := by decide

/-- Which denominations the district holds. -/
theorem test_meets_cash_held :
    ∀ i < 8, decide (i = 3) = true ↔ ∃ m ∈ district.machines, 0 < m.tally.counts.get i ∨
      ∃ d, m.heldDrop = some d ∧ 0 < d.counts.get i := by
  intro i hi
  have none : m214.heldDrop = none := rfl
  simp only [district, List.mem_singleton, exists_eq_left, none, reduceCtorEq, false_and, exists_false, or_false]
  revert hi
  revert i
  decide

/-- A round opened at each port, and each refusal. -/
theorem test_meets_round_open :
    (district.calm = true ∧ district.cabinetReady = true ∧
        (∀ r, district.cash.round = some r → r.isOpen = false)) ∧
      (∃ r, rounding.cash.round = some r ∧ r.isOpen = true) ∧
      (State.typed (typedAt .o none none district) .o none none ∧ readKey .collect ≠ .off ∧
        [214] = ((typedAt .o none none district).machines.filter fun m => !m.flags.noRound).map MachineRecord.number) ∧
      (64 < (List.replicate 65 214).length ∧ district.machine? 52 = none ∧ ¬[214, 214].Nodup ∧
        (∀ n ∈ [214], district.machine? n ≠ none) ∧ [214].Nodup ∧
        65535 ≤ (some 65535 : Option Nat).getD 0) :=
  ⟨⟨by decide, by decide, nofun⟩, ⟨_, rfl, rfl⟩, ⟨⟨by decide, _, rfl⟩, by decide, by decide⟩, by decide⟩

/-- No machine free of NO_ROUND at the round port. -/
theorem test_meets_round_open_empty :
    let none_ : State := typedAt .o none none (districtWith { m214 with flags := ⟨false, false, true⟩ })
    none_.calm = true ∧ none_.typed .o none none ∧
      ([] : List Nat) = (none_.machines.filter fun m => !m.flags.noRound).map MachineRecord.number :=
  ⟨by decide, ⟨by decide, _, rfl⟩, by decide⟩

/-- The district with a round whose one entry stands in a state. -/
def roundOf (state : EntryState) : State :=
  { district with cash := { district.cash with round := some ⟨13, true, .cabinet, none, 0, [⟨214, state, none⟩]⟩ } }

/-- A round closed, an entry absent, pending and not, and a close blocked, plain and forced, at each port. -/
theorem test_meets_round_changes :
    ((roundOf .pending).calm = true ∧ (roundOf .pending).cabinetReady = true) ∧
      (State.typed (typedAt .s (some 214) none (roundOf .pending)) .s (some 214) none ∧ readKey .service ≠ .off ∧
        (typedAt .s (some 214) none (roundOf .pending)).calm = true) ∧
      State.typed (typedAt .s (some 999) none (roundOf .pending)) .s (some 999) none ∧
      State.typed (typedAt .c none none (roundOf .boxOut)) .c none none ∧
      (∃ r e, (roundOf .pending).cash.round = some r ∧ r.isOpen = true ∧ r.entry? 214 = some e ∧ e.state = .pending ∧
        r.entry? 999 = none ∧ ∀ e ∈ r.entries, e.state ≠ .boxOut) ∧
      (∃ r e, (roundOf .boxOut).cash.round = some r ∧ r.isOpen = true ∧ r.entry? 214 = some e ∧ e.state ≠ .pending ∧
        ∃ e ∈ r.entries, e.state = .boxOut) ∧
      ∀ r, district.cash.round = some r → r.isOpen = false :=
  ⟨⟨by decide, by decide⟩, ⟨⟨by decide, _, rfl⟩, by decide, by decide⟩, ⟨by decide, _, rfl⟩, ⟨by decide, _, rfl⟩,
    ⟨_, _, rfl, rfl, rfl, by decide, by decide, by decide⟩,
    ⟨_, _, rfl, rfl, rfl, by decide, by decide⟩, nofun⟩

theorem test_meets_status_frame :
    district.hears .a 7 m214 fl214 ∧ m214.service = deriveService m214.reg.fitted m214.faults m214.flags ∧
      FaultKind.batteryLow.number ≤ 7 ∧ FaultKind.batteryLow.number ∈ [1, 7] ∧
      m214.faults.active .batteryLow = false :=
  ⟨⟨⟨rfl, rfl, by decide⟩, rfl, rfl, rfl⟩, by decide⟩

/-- Machine 214 with TALLY_GAP active. -/
def gapped : MachineRecord := { m214 with faults := m214.faults.set .tallyGap ⟨true, none, none, 1, none⟩ }

/-- An acknowledgement and a flag at each port, and what each refusal needs. -/
theorem test_meets_ack_and_flags :
    ((districtWith gapped).calm = true ∧ (districtWith gapped).cabinetReady = true) ∧
      (State.typed (typedAt .a (some 214) (some 15) (districtWith gapped)) .a (some 214) (some 15) ∧
        readKey .service = .service ∧ (typedAt .a (some 214) (some 15) (districtWith gapped)).calm = true) ∧
      State.typed (typedAt .p (some 214) (some 3) (districtWith gapped)) .p (some 214) (some 3) ∧
      State.typed (typedAt .u (some 1000) (some 4) (districtWith gapped)) .u (some 1000) (some 4) ∧
      (districtWith gapped).machine? 214 = some gapped ∧ (districtWith gapped).machine? 999 = none ∧
      (FaultKind.tallyGap.number = 15 ∧ 15 ∈ [11, 12, 15] ∧ gapped.faults.active .tallyGap = true ∧
        m214.faults.active .tallyGap = false ∧ FaultKind.dropHeld.number = 13 ∧ 13 ∉ [11, 12, 15] ∧ 15 < 16) ∧
      (gapped.flags = ⟨false, false, false⟩ ∧ (⟨false, false, true⟩ : ServiceFlags) ≠ ⟨false, false, false⟩ ∧ 3 < 4) :=
  ⟨by decide, ⟨⟨by decide, _, rfl⟩, by decide, by decide⟩, ⟨by decide, _, rfl⟩, ⟨by decide, _, rfl⟩, rfl, by decide,
    by decide, by decide⟩

theorem test_meets_summary :
    district.cabinetReady = true ∧ district.machine? 214 ≠ none ∧
      ∃ t, exec .noticeTimeout { district with summary := ⟨[214], [9], some .warning⟩ } = .next t ∧
        t.power.listens = true :=
  ⟨by decide, by decide, _, rfl, by decide⟩

/-- The district before machine 214 has joined, and its Join. -/
def joining (recorded : RecordedBox) (box : BoxState) : MachineRecord :=
  { m214 with link := .absent, reconcileDue := true, recorded := recorded, box := box }

/-- Refusals of a Join, a slot given and one kept. -/
theorem test_meets_join :
    (district.calm = true ∧ (phased 0 district).stands .a 0 ∧ district.machine? 5 = none) ∧
      (({ reg214 with permitted := .lineB } : Registration).permitted = .lineB) ∧
      (∀ slot, 1 ≤ slot → slot ≤ 32 →
        (({ district with lineA := { district.lineA with enable := 0 } }).line .a).slotEnabled slot = true → False) ∧
      (m214.link.fields?.map LinkFields.line = some .a ∧ m214.link.fields?.map LinkFields.slot = some 7) ∧
      ((joining (.installed 4417) .unknown).link.fields?.map LinkFields.line ≠ some .a ∧
        ((districtWith (joining (.installed 4417) .unknown)).line .a).slotEnabled 1 = true ∧
        (districtWith (joining (.installed 4417) .unknown)).holder? .a 1 = none) ∧
      m214.reconcileDue = false ∧ (joining .out .out).reconcileDue = true ∧
      (∀ lower, 1 ≤ lower → lower < 1 → False) := by
  refine ⟨⟨by decide, ⟨rfl, rfl, by decide⟩, by decide⟩, by decide, ?_, by decide, by decide, by decide, by decide, by omega⟩
  intro slot low high
  interval_cases slot <;> decide

/-- 11 R195, 08 R164: a Join heard in Flushing is granted; its reconciliation asks the class-2 write and, for the group it
marks dirty, the flush's class-1 checkpoint. -/
theorem test_meets_join_flushing :
    ((saving (phased 0 district)).steady ∧ (saving (phased 0 district)).stands .a 0 ∧ district.steady ∧
        ((saving district).power = .running → False)) ∧
      leaves (.join .a ⟨214, 3, 41335, 1150, 4417⟩)
        (saving (phased 0 (districtWith (joining (.installed 4417) .unknown)))) (fun t =>
          t.store.dirty.get 0 && t.store.queue.map StoreOp.cls == [2, 1] &&
            t.store.queue.map StoreOp.requester == [.nobody, .flush] && t.power == .flushing) = true :=
  ⟨⟨saving_steady rfl, ⟨rfl, rfl, by decide⟩, State.steady_of_calm (by decide), nofun⟩, by decide⟩

/-- The serial and cash part: equal serials, one 1 ahead, 1000 and 1001 ahead, no report, nothing held. -/
theorem test_meets_reconciliation :
    (3 / 2 % 2 = 1 ∧ (joining .nothing .unknown).recorded = .nothing ∧
        (joining (.installed 4417) .unknown).recorded = .installed 4417) ∧
      (district.takes 3 ∧ district.openEntry? 214 ≠ some .pending ∧ rounding.openEntry? 214 = some .pending ∧
        (joining .out .out).recorded = .out ∧ (joining .out .out).box = .out ∧ 1 / 2 % 2 ≠ 1) ∧
      (JoinFrame.lastSerial ⟨214, 3, 40335, 700, 4417⟩ = some 40335 ∧ (40335 + 999999 - 40335) % 999999 = 0 ∧
        true = decide (m214.tally.cash ≠ 700)) ∧
      (JoinFrame.lastSerial ⟨214, 3, 41335, 1150, 4417⟩ = some 41335 ∧
        (41335 + 999999 - 40335) % 999999 = 1000 ∧ max m214.tally.cash 1150 = 1150) ∧
      (41336 + 999999 - 40335) % 999999 = 1001 ∧ JoinFrame.lastSerial ⟨214, 2, 0, 700, 4417⟩ = none ∧
      ({ m214 with accepted := ⟨none, none⟩ } : MachineRecord).accepted.serial = none :=
  ⟨by decide, ⟨test_meets_places.1, by decide⟩, by decide⟩

/-- An Active machine at each side of the silence limit, a Silent one at each side of the release limit. -/
theorem test_meets_silence :
    (district.stands .a (2 * 7) ∧ district.holder? .a 7 = some m214 ∧ district.machine? m214.number = some m214 ∧
        m214.link = .active fl214) ∧
      (3 + 1 < district.timers.silence ∧ district.timers.silence ≤ 4 + 1 ∧ 58 + 1 < district.timers.release ∧
        district.timers.release ≤ 59 + 1) ∧
      (districtWith { m214 with link := .silent ⟨.a, 7, 59⟩ }).holder? .a 7 =
        some { m214 with link := .silent ⟨.a, 7, 59⟩ } :=
  ⟨⟨⟨rfl, rfl, by decide⟩, by decide⟩, by decide, by decide⟩

/-- A frame from a Silent machine; a phase before a later row, the last before the tick, and a row whose phase is over. -/
theorem test_meets_phases :
    heardIn (.leave .a 7 214) = some (.a, 7, 214) ∧ district.stands .a 14 ∧
      (∃ u, exec (if 14 % 2 = 0 then .nothingHeard .a (14 / 2) else .downlinkPhase .a (14 / 2)) district = .next u) ∧
      phaseOf (.downlinkPhase .a 32) = some (.a, 65) ∧ (phased 65 district).stands .a 65 ∧ district.power ≠ .off ∧
      phaseOf (.join .a ⟨214, 0, 0, 0, 0⟩) = some (.a, 0) ∧ 0 < (district.line .a).phase ∧
      phaseOf (.leave .b 1 214) = some (.b, 2) ∧ (district.line .b).cycleOpen = false :=
  ⟨rfl, ⟨rfl, rfl, by decide⟩, ⟨_, rfl⟩, rfl, ⟨rfl, rfl, by decide⟩, by decide, rfl, by decide, rfl, rfl⟩

/-- Machine 214 with a request pending, its reply ready or not. -/
def waiting (reply : Option Answer) : MachineRecord := { m214 with request := some ⟨.saleCommit, 1, reply, false⟩ }

/-- The line A of the district with something for a downlink. -/
def hearing (heard : Heard) : State :=
  phased 15 { district with lineA := { district.lineA with heard := heard } }

theorem test_meets_downlinks :
    ((districtWith (waiting none)).calm = true ∧ (districtWith (waiting none)).hears .a 7 (waiting none) fl214) ∧
      (waiting none).request ≠ none ∧
      (State.hears { district with power := .flushing } .a 7 m214 fl214 ∧ m214.request = none ∧
        RequestKind.saleCommit ≠ .quoteRequest) ∧
      (∀ n, ((hearing (.note 7 .saleCommit .busy)).line .a).heard ≠ .left 7 n) ∧
      (∀ kind code, some (RequestKind.saleCommit, Code.busy) = some (kind, code) ↔
        ((hearing (.note 7 .saleCommit .busy)).line .a).heard = .note 7 kind code) ∧
      (hearing (.left 7 214)).stands .a (2 * 7 + 1) ∧ ((hearing (.left 7 214)).line .a).heard = .left 7 214 ∧
      (phased 1 (hearing (.joined 214 7))).stands .a 1 ∧ ((hearing (.joined 214 7)).line .a).heard = .joined 214 7 ∧
      ((hearing (.joinRefused 214 .lineFull)).line .a).heard = .joinRefused 214 .lineFull ∧
      (∀ m f, district.holder? .a 8 = some m → m.link ≠ .active f) ∧
      (district.machines.map MachineRecord.number).Nodup :=
  ⟨test_meets_heard _ rfl rfl, by decide, ⟨⟨⟨rfl, rfl, by decide⟩, rfl, rfl, rfl⟩, rfl, by decide⟩, nofun,
    fun kind code => by simp [hearing, phased, State.line], ⟨rfl, rfl, by decide⟩, rfl, ⟨rfl, rfl, by decide⟩, rfl, rfl,
    fun m f h => (by cases h), by decide⟩

/-- The call window with nothing heard in it, and the window of a Leave whose machine has been deregistered since. -/
theorem test_meets_silent_windows :
    ((phased 1 (hearing .nothing)).stands .a 1 ∧ (∀ n slot, ((hearing .nothing).line .a).heard ≠ .joined n slot) ∧
        ∀ n code, ((hearing .nothing).line .a).heard ≠ .joinRefused n code) ∧
      (hearing (.left 7 9)).stands .a (2 * 7 + 1) ∧ ((hearing (.left 7 9)).line .a).heard = .left 7 9 ∧
      (hearing (.left 7 9)).machine? 9 = none ∧ State.holder? { hearing (.left 7 9) with machines := [] } .a 7 = none :=
  ⟨⟨⟨rfl, rfl, by decide⟩, nofun, nofun⟩, ⟨rfl, rfl, by decide⟩, rfl, by decide, by decide⟩

/-- Registrations at and beyond their limits, a full directory, and a machine that may be removed. -/
theorem test_meets_registrations :
    district.calm = true ∧ district.cabinetReady = true ∧ 1 < 2 ∧ lineNumber .b = 1 ∧
      PermittedLine.ofNumber 2 = some .either ∧ Fitted.ofNumber 2 = some .both ∧ district.machine? 999 = none ∧
      district.machines.length < 64 ∧ 64 ≤ (List.replicate 64 m214).length ∧ district.machine? 214 = some m214 ∧
      (districtWith (joining .nothing .unknown)).machine? 214 = some (joining .nothing .unknown) ∧
      ({ joining .nothing .unknown with tally := emptyTally } : MachineRecord).link = .absent ∧
      emptyTally.cash = 0 ∧ district.openEntry? 214 = none ∧ 0 < m214.tally.cash ∧ m214.link ≠ .absent := by decide

/-- A slot of line B lost by a machine permitted on line A alone. -/
theorem test_meets_registration_lost :
    (true = true ↔ ∃ f, ({ m214 with link := .active ⟨.b, 1, 0⟩ } : MachineRecord).link.fields? = some f ∧
      (PermittedLine.lineA = .lineA ∧ f.line = .b ∨ PermittedLine.lineA = .lineB ∧ f.line = .a)) :=
  ⟨fun _ => ⟨_, rfl, by decide⟩, fun _ => rfl⟩

/-- The district with an operation holding the array. -/
def performingOp (op : StoreOp) : State := { district with store := district.store.taking op }

/-- A table write of the cabinet's and one of the round port's, and a round write. -/
theorem test_meets_table_writes :
    (∃ h, (performingOp ⟨.table (.flags 214 ⟨true, false, false⟩), 5, .roundPort⟩).completing h ∧
      h.op = ⟨.table (.flags 214 ⟨true, false, false⟩), 5, .roundPort⟩) ∧
    (∃ h, (performingOp ⟨.table (.activation [(7, tariff7), (15, factoryTariff)]), 5, .nobody⟩).completing h ∧
      h.op = ⟨.table (.activation [(7, tariff7), (15, factoryTariff)]), 5, .nobody⟩) ∧
    (∃ h, (performingOp ⟨.table (.registration 214 reg214 true), 5, .cabinet⟩).completing h ∧
      h.op = ⟨.table (.registration 214 reg214 true), 5, .cabinet⟩) ∧
    (∃ h, (performingOp ⟨.roundWrite none, 2, .cabinet⟩).completing h ∧ h.op = ⟨.roundWrite none, 2, .cabinet⟩) ∧
    [(7, tariff7), (15, factoryTariff)].map Prod.fst = [7, 15] ∧ [7, 15].Nodup :=
  ⟨⟨_, ⟨by decide, by decide, rfl⟩, rfl⟩, ⟨_, ⟨by decide, by decide, rfl⟩, rfl⟩, ⟨_, ⟨by decide, by decide, rfl⟩, rfl⟩,
    ⟨_, ⟨by decide, by decide, rfl⟩, rfl⟩, by decide, by decide⟩

/-- Every kind of table write, at work. -/
theorem test_meets_table_kinds :
    ∀ w ∈ [TableWrite.specialDays [], .pendingSet none, .activation [], .guardWord factoryGuard,
        .registration 214 reg214 false, .deregistration 214, .flags 214 ⟨true, false, false⟩, .slotEnable .a 0,
        .slotEnable .b 0, .denominations (Octet.const 0), .timers ⟨some 30, none, none, none, none, none, none⟩],
      (performingOp ⟨.table w, 5, .cabinet⟩).calm = true ∧ (performingOp ⟨.table w, 5, .cabinet⟩).store.serving = none ∧
        (performingOp ⟨.table w, 5, .cabinet⟩).store.holder = some ⟨⟨.table w, 5, .cabinet⟩, 0, true, .nothing⟩ := by
  decide

/-- The district with the array freed and operations waiting. -/
def freed (queue : List StoreOp) (hold : HoldState) : State :=
  { permitted with
    machines := [{ visiting with commit := some ⟨1, 24, 40336, false, ⟨24, 7, 4, .visitor, .card, 30, .byTime 135,
      ⟨⟨2026, 4, 10⟩, 570⟩, some 77, 990⟩, false⟩ }]
    permits := ⟨hold, some 5, []⟩
    store := { district.store with freeing := true, queue := queue } }

/-- Nothing that may be granted; a checkpoint of class 1 behind a write of class 5; a decrement, a return, a read; a hold
Requested. -/
theorem test_meets_grants :
    (∀ o ∈ (freed [] .free).store.queue, (freed [] .free).store.holdBack = true ∧ 4 ≤ o.cls ∨ o.cls = 0 ∨ 6 < o.cls) ∧
      (freed [⟨.table (.pendingSet none), 5, .nobody⟩, ⟨.checkpoint 0, 1, .flush⟩] .free).store.queue =
        [⟨.table (.pendingSet none), 5, .nobody⟩] ++ ⟨.checkpoint 0, 1, .flush⟩ :: [] ∧
      (∀ o ∈ [(⟨.table (.pendingSet none), 5, .nobody⟩ : StoreOp)], 1 < o.cls) ∧
      (freed [⟨.decrement ⟨214, 1, 77, 30, 7⟩, 4, .nobody⟩] .granted).permits.hold.closed = true ∧
      (freed [⟨.giveBack ⟨77, 30⟩, 4, .nobody⟩] .free).permits.hold.closed = false ∧
      (freed [⟨.permitRead 5, 3, .cabinet⟩] .requested).store.holder = none ∧
      (freed [⟨.permitRead 5, 3, .cabinet⟩] .requested).permits.hold = .requested ∧
      (freed [⟨.permitRead 5, 3, .cabinet⟩] .requested).store.backlog < 3 ∧
      (∃ m c, (freed [] .granted).machine? 214 = some m ∧ m.commit = some c ∧ c.id = 1) :=
  ⟨by decide, by decide, by decide, by decide, by decide, by decide, by decide, by decide, _, _, rfl, rfl, by decide⟩

/-- 03 R60: a quote opened while the sale is in flight, and discarded since, keeps the claimed quote from coming back. -/
theorem test_superseded :
    let granted (superseded : Bool) : State :=
      State.arrayFreed { freed [⟨.decrement ⟨214, 1, 77, 30, 7⟩, 4, .nobody⟩] .granted with
        machines := (freed [] .granted).machines.map fun m =>
          { m with openQuote := none, commit := m.commit.map fun c => { c with superseded := superseded } } }
    on214 (fun m => m.commit.isNone && m.openQuote.isNone) (granted true) = true ∧
      on214 (fun m => m.commit.isNone && m.openQuote.isSome) (granted false) = true := by decide

/-- A read served while a write is suspended, with another read waiting or none, and a write no longer suspendable. -/
theorem test_meets_serving :
    let s (suspendable : Bool) (queue : List StoreOp) : StoreControl :=
      { district.store with
        holder := some ⟨⟨.table (.pendingSet none), 5, .nobody⟩, 1, suspendable, .nothing⟩
        serving := some ⟨.permitRead 5, 3, .cabinet⟩
        queue := queue }
    (s true [⟨.checkpoint 0, 1, .flush⟩, ⟨.fetchRead 0, 3, .cabinet⟩]).queue =
        [⟨.checkpoint 0, 1, .flush⟩] ++ ⟨.fetchRead 0, 3, .cabinet⟩ :: [] ∧
      (StoreWork.fetchRead 0).isRead = true ∧ (StoreWork.checkpoint 0).isRead = false ∧
      (∀ o ∈ (s true []).queue, o.work.isRead = false) ∧
      ((s false []).holder.map Holder.suspendable) = some false := by decide

theorem test_meets_checkpoint_expiry :
    (dirtyDistrict.power = .running ∧ dirtyDistrict.store.flush = false ∧ dirtyDistrict.store.holdBack = false ∧
        dirtyDistrict.store.freeing = false) ∧
      (15 ≤ (dirtyDistrict.clock.counter - 985).toNat ∧ (dirtyDistrict.clock.counter - 986).toNat < 15 ∧
        dirtyDistrict.timers.period = 15) ∧
      ((∀ i < 8, district.store.dirty.get i = false) ∧ district.store.checkpointWaits = false ∧
        district.store.checkpointHeld = false ∧ district.store.backlog = 0) ∧
      ((∃ i < 8, dirtyDistrict.store.dirty.get i = true) ∧ (∀ o ∈ dirtyDistrict.store.queue, 5 < o.cls)) ∧
      (performingOp ⟨.checkpoint 0, 6, .nobody⟩).store.checkpointHeld = true ∧
      ((backlogged 2).power = .running ∧ (backlogged 2).store.backlog = 2 ∧
        (backlogged 2).store.checkpointWaits = false ∧ (backlogged 2).store.checkpointHeld = false ∧
        (backlogged 2).store.nextDirty = some 3 ∧ (backlogged 2).permits.hold = .granted ∧
        15 ≤ ((backlogged 2).clock.counter - (backlogged 2).store.lastExpiry).toNat) ∧
      ∃ h, (backlogged 2).store.holder = some h :=
  ⟨by decide, by decide, by decide, by decide, by decide, by decide, _, rfl⟩

/-- An expiry while a dirty group waits behind a class-5 operation, and a rise to 3 on a Free array. -/
theorem test_meets_busy_expiry :
    let s (backlog : Nat) (queue : List StoreOp) : State :=
      { dirtyDistrict with store := { dirtyDistrict.store with backlog := backlog, queue := queue } }
    ((∃ i < 8, (s 1 [⟨.permitDelete 5, 5, .cabinet⟩]).store.dirty.get i = true) ∧
        (∃ o ∈ (s 1 [⟨.permitDelete 5, 5, .cabinet⟩]).store.queue, o.cls ≤ 5)) ∧
      (s 2 []).store.holder = none ∧ (s 2 []).store.checkpointWaits = false ∧ (s 2 []).store.nextDirty = some 3 ∧
      leaves .checkpointPeriodExpiry (s 2 []) (fun t =>
        t.store.urgent == 2 && t.store.backlog == 3 && t.store.pointer == 4 && !t.store.dirty.get 3 &&
          t.store.holder.map Holder.op == some ⟨.checkpoint 3, 1, .nobody⟩) = true := by decide

/-- The next dirty group is the first from the pointer on, around 8; the array held and Free. -/
theorem test_meets_trickle :
    dirtyDistrict.store.dirty.get 3 = true ∧ 0 < (backlogged 1).store.backlog ∧ dirtyDistrict.store.pointer < 8 ∧
      (∀ i < (3 + 8 - dirtyDistrict.store.pointer) % 8,
        dirtyDistrict.store.dirty.get ((dirtyDistrict.store.pointer + i) % 8) = false) ∧
      (backlogged 1).store.holder ≠ none ∧ dirtyDistrict.store.holder = none ∧
      (∀ o ∈ (backlogged 1).store.queue, 5 < o.cls) := by decide

/-- A checkpoint in progress, with no group dirty, one dirty, and a hold interrupted. -/
theorem test_meets_checkpoint_completion :
    let running (backlog : Nat) (dirty : Octet Bool) : State :=
      { district with
        permits := ⟨.interrupted, some 5, []⟩
        store :=
          { district.store with
            backlog := backlog
            dirty := dirty
            holder := some ⟨⟨.checkpoint 7, 6, .nobody⟩, 0, true, .image []⟩ } }
    (running 1 (Octet.const false)).store.serving = none ∧
      (∃ h, (running 2 (Octet.const false)).store.holder = some h ∧ h.op.work = .checkpoint 7 ∧ h.data = .image []) ∧
      (∀ i < 8, (running 2 (Octet.const false)).store.dirty.get i = false) ∧
      (∃ i < 8, (running 2 (Octet.const true)).store.dirty.get i = true) ∧
      (running 3 (Octet.const true)).store.backlog = 3 ∧ (running 3 (Octet.const true)).permits.hold = .interrupted ∧
      (running 3 (Octet.const true)).store.urgent = 0 ∧ (running 3 (Octet.const true)).power = .running :=
  ⟨rfl, ⟨_, rfl, rfl, rfl⟩, by decide, by decide, rfl, rfl, rfl, rfl⟩

/-- A checkpoint in progress when the backlog rises to 3, an expiry there, and an urgent completion with a group dirty and
with none. -/
theorem test_meets_urgent :
    let s (backlog urgent : Nat) (dirty : Octet Bool) : State :=
      { dirtyDistrict with
        store :=
          { dirtyDistrict.store with
            backlog := backlog
            urgent := urgent
            dirty := dirty
            holder := some ⟨⟨.checkpoint 7, 6, .nobody⟩, 0, true, .image []⟩ } }
    (s 2 0 (Octet.const true)).store.checkpointHeld = true ∧
      15 ≤ ((s 2 0 (Octet.const true)).clock.counter - (s 2 0 (Octet.const true)).store.lastExpiry).toNat ∧
      (s 3 0 (Octet.const true)).store.backlog = 3 ∧ (s 3 2 (Octet.const true)).store.nextDirty = some 7 ∧
      (s 3 2 (Octet.const true)).store.checkpointWaits = false ∧ 1 ≤ (s 3 2 (Octet.const true)).store.urgent ∧
      (s 3 2 (Octet.const false)).store.nextDirty = none ∧ district.permits.hold = .free := by decide

/-- A notice area with 14 bytes free, its write position near the end of the ring. -/
def nearlyFullArea : NoticeArea := ⟨[], 4090, 8, 4082, [⟨8, 4082, 0⟩], false, true⟩

theorem test_meets_notices :
    nearlyFullArea.sound = true ∧ 3 ≤ (List.replicate 13 (0 : Byte)).length ∧ 14 ≤ 4096 - nearlyFullArea.unread ∧
      4096 - nearlyFullArea.unread < 16 ∧ (0 : Nat) < 4096 ∧ 14 ≤ (8 + 4096 - nearlyFullArea.writePos) % 4096 := by decide

/-- 12 R205: a RoundClosed of a round with an entry of each state that it counts, and a PendingAbandoned of no zone. -/
theorem test_round_closed_notice :
    (∃ count : EntryState → Nat, ∀ state,
        count state = ([].filter fun e : RoundEntry => decide (e.state = state)).length) ∧
      roundClosedNotice ⟨13, false, .roundPort, some ⟨⟨2026, 4, 10⟩, 540⟩, 640,
          [⟨52, .collected, some 9000⟩, ⟨214, .skipped, none⟩, ⟨215, .unfinished, none⟩]⟩ =
        [3, 17, 0, 13, 1, 1, 1, 0, 0, 0x02, 0x80, 1, 26, 4, 10, 0x02, 0x1C] ∧
      pendingAbandonedNotice ⟨⟨⟨2026, 4, 10⟩, 540⟩, true, []⟩ = [5, 8, 26, 4, 10, 0x02, 0x1C, 0] :=
  ⟨⟨fun _ => 0, fun _ => rfl⟩, by decide, by decide⟩

/-- The district with two notices unread. -/
def noticing : State := notify (holdGrantedNotice false) (notify holdEndedNotice district)

theorem test_meets_cabinet_reads :
    district.power.listens = true ∧ district.cabinet.result = .nothing ∧
      ({ district with cabinet := district.cabinet.awaiting }).cabinet.result = .waiting ∧
      (after .permitReadCompletion (permitOp (.permitRead 6))).cabinet.result = .final Code.notFound.plain ∧
      256 < 257 ∧ 257 % 2 = 1 ∧ 256 % 2 = 0 ∧
      (2 ≠ noticing.notices.writePos ∧ ∀ n ∈ noticing.notices.index, n.start ≠ 2) ∧
      (8 = noticing.notices.writePos ∧ noticing.notices.unread = spanOf noticing.notices.index) ∧
      (∃ i < 63, i = 62) ∧ Code.conflict.number = 62 := by decide

/-- Freeing up to the second notice. -/
theorem test_meets_advance :
    4 ≠ noticing.notices.writePos ∧
      ∃ before n rest, noticing.notices.index = before ++ n :: rest ∧ n.start = 4 ∧ (∀ x ∈ before, x.start ≠ 4) :=
  ⟨by decide, [⟨0, 4, 1000⟩], ⟨4, 4, 1000⟩, [], by decide, by decide, by decide⟩

/-- Every timer at its lowest and its highest; nothing carried; a silence limit above the release limit. -/
theorem test_meets_timers :
    let low : TimerArgs := ⟨some 30, some 1, some 2, some 10, some 5, some 16, some 1⟩
    let high : TimerArgs := ⟨some 600, some 60, some 30, some 255, some 255, some 4080, some 255⟩
    district.calm = true ∧ district.cabinetReady = true ∧ low ≠ ⟨none, none, none, none, none, none, none⟩ ∧
      high ≠ ⟨none, none, none, none, none, none, none⟩ ∧ 2 ≤ 10 ∧ 30 ≤ 255 ∧ ¬(30 ≤ 10) ∧
      (TimerArgs.mk (some 30) none none none none none none).period = none ∧
      (TimerArgs.mk none (some 1) none none none none none).holdLimit ≠ none ∧
      ({ district with permits := ⟨.granted, some 940, []⟩ }).permits.hold = .granted ∧
      ({ district with permits := ⟨.granted, some 940, []⟩ }).calm = true ∧
      1 * 60 ≤ ((1000 : Seconds) - 940).toNat ∧ 15 ≤ (dirtyDistrict.clock.counter - 985).toNat ∧
      dirtyDistrict.calm = true ∧ (∃ i < 8, dirtyDistrict.store.dirty.get i = true) := by decide

/-- A SetTimers whose expiry occasions a trickle checkpoint behind its write; one that ends a hold with a return waiting. -/
theorem test_meets_timers_at_once :
    let timers : TimerArgs := ⟨none, some 1, none, none, some 5, none, none⟩
    let k := StoreControl.taking { dirtyDistrict.store with lastExpiry := 1000, backlog := 1 }
      ⟨.table (.timers timers), 5, .cabinet⟩
    let held : State := { dirtyDistrict with permits := ⟨.interrupted, some 940, [⟨77, 30⟩]⟩ }
    (k.dirty.get 3 = true ∧ 0 < k.backlog ∧ k.pointer < 8 ∧
        (∀ i < (3 + 8 - k.pointer) % 8, k.dirty.get ((k.pointer + i) % 8) = false) ∧ k.checkpointWaits = false ∧
        k.checkpointHeld = false ∧ (∀ o ∈ k.queue, 5 < o.cls)) ∧
      held.calm = true ∧ held.cabinetReady = true ∧ held.permits.holdStart = some 940 ∧
      leaves (.setTimers timers) dirtyDistrict (fun t => t.store.queue == [⟨.checkpoint 3, 6, .nobody⟩]) = true ∧
      leaves (.setTimers timers) held (fun t =>
        t.store.queue == [⟨.table (.timers timers), 5, .cabinet⟩] && t.permits == ⟨.free, none, []⟩ &&
          t.store.holder.map Holder.op == some ⟨.giveBack ⟨77, 30⟩, 4, .nobody⟩ && t.store.backlog == 1) = true := by
  decide

/-- A SetTimers at a backlog of 3: an Interrupted hold that a new limit ends, and an expiry there that leaves the backlog. -/
theorem test_meets_timers_interrupted :
    let timers : TimerArgs := ⟨none, some 1, none, none, some 5, none, none⟩
    let s : State := { interrupted with
      permits := ⟨.interrupted, some 940, [⟨77, 30⟩]⟩, store := { interrupted.store with lastExpiry := 985 } }
    s.backlogged = true ∧ s.cabinetReady = true ∧ s.permits.holdStart = some 940 ∧
      leaves (.setTimers timers) s (fun t =>
        t.permits == ⟨.free, none, []⟩ && t.store.backlog == 3 && t.store.lastExpiry == 1000 &&
          (t.store.queue.drop 1).map StoreOp.work == [.giveBack ⟨77, 30⟩, .table (.timers timers)]) = true := by decide

theorem test_meets_digits :
    (∀ d ≤ 9, PortChar.kind (.char (BitVec.ofNat 8 (48 + d))) = .digit d) ∧ PortChar.kind (.char 0x2C) = .comma ∧
    district.power.listens = true ∧ 9 ≤ 9 ∧ [0, 0, 0, 0, 2, 1, 4] ≠ [] ∧ (∀ d ∈ [0, 0, 0, 0, 2, 1, 4], d ≤ 9) ∧
      ({ district with roundPort := ⟨.entering .t none none false, none, []⟩ }).roundPort.state =
        .entering .t none none false ∧
      (typedAt .p (some 52) (some 2) district).roundPort.state = .entering .p (some 52) (some 2) true ∧
      (0 = 0 ∨ 999 < 0) ∧ 999 < 1000 := by decide

/-- The port in each of its states, and characters at the edges of the table. -/
theorem test_meets_characters :
    district.power.listens = true ∧ district.roundPort.state = .ready ∧
      (typedAt .t none none district).roundPort.state = .entering .t none none false ∧
      (∃ b : Byte, b ∉ [0x20, 0x0D, 0x1B] ∧ b.toNat ≠ 84 ∧ b.toNat ≠ 116) ∧ (47 < 48 ∧ 57 < 58) ∧
      ({ district with roundPort := ⟨.error, none, []⟩ }).roundPort.state = .error ∧
      ({ district with roundPort := ⟨.awaiting [1], none, []⟩ }).roundPort.state = .awaiting [1] :=
  ⟨by decide, rfl, rfl, ⟨0x30, by decide⟩, by decide, rfl, rfl⟩

/-- 09 R174, R175: a held drop of 640p and an entry BoxOut in line 14 and 16 of T 214, and the two entries of F 214. -/
theorem test_readout_lines :
    let m : MachineRecord := { holding with
      faults := ((freshEntries.set .tallyGap ⟨true, some ⟨⟨2026, 4, 10⟩, 0⟩, none, 2, none⟩).set .coinJam
        ⟨false, some ⟨⟨2026, 4, 9⟩, 5⟩, some ⟨⟨2026, 4, 9⟩, 5⟩, 1, some ⟨⟨2026, 4, 9⟩, 6⟩⟩) }
    let s : State := { districtWith m with cash := { district.cash with round := some ⟨13, true, .cabinet, none, 0,
      [⟨214, .boxOut, none⟩]⟩ } }
    (tallyLines m s)[13]? = some [1, 640] ∧ (tallyLines m s)[15]? = some [13, 2, 0] ∧
      (faultLines m).tail =
        [[4, 0, 1, 20260409, 5, 20260409, 5, 20260409, 6], [15, 1, 2, 20260410, 0, 0, 0, 0, 0]] := by decide

/-- Commands typed, keys that allow them or not, the last line of a readout and none left. -/
theorem test_meets_port :
    State.typed (typedAt .t (some 214) none district) .t (some 214) none ∧
      State.typed (typedAt .f (some 999) none district) .f (some 999) none ∧
      State.typed (typedAt .n none none district) .n none none ∧
      (readKey .between = .off ∧ readKey .collect ≠ .service ∧ readKey .service = .service) ∧
      (1 ≤ 1 ∧ 999 ≤ 999 ∧ district.machine? 214 = some m214 ∧ district.machine? 999 = none) ∧
      (∃ r line, (typedAt .n none none
          { district with roundPort := ⟨.ready, none, []⟩ }).roundPort.readout = some r ∧ 1 ≤ r.cursor ∧
        r.lines.length < r.cursor ∧ ({ r with cursor := 1 } : Readout).lines[1 - 1]? = some line) :=
  ⟨⟨by decide, _, rfl⟩, ⟨by decide, _, rfl⟩, ⟨by decide, _, rfl⟩, by decide, by decide,
    ⟨_, _, rfl, by decide, by decide, rfl⟩⟩

theorem test_meets_starts :
    ({ district with power := .off }).power = .off ∧
      ({ district with power := .off }).clock.time = some ⟨⟨2026, 4, 10⟩, 540, 0⟩ ∧
      ({ State.reset with power := .off }).clock.time = none ∧ district.power ≠ .off ∧
      ({ district with power := .resetHeld }).power = .resetHeld ∧ district.power ≠ .resetHeld ∧
      ({ district with power := .off, resetInput := true }).resetInput = true ∧ district.resetInput = false := by decide

/-- A store with machine 214, its checkpoint and its box. -/
def kept : NvArray :=
  { blankArray with
    directory := [⟨214, reg214, ⟨false, false, true⟩, 3, 3⟩]
    timers := ⟨some 60, none, none, none, none, none, none⟩
    images := blankArray.images.set 0 ⟨some ⟨5, [⟨214, 0, m214.tally, ⟨7, 1⟩, m214.accepted⟩]⟩, none⟩
    boxes := [⟨214, .installed 4417, .nothing, none, 4, 4⟩]
    specialDays := [⟨2026, 4, 10⟩] }

/-- A start with a store written, with and without the warning, and with a clock at the activation of a pending set. -/
theorem test_meets_start_up :
    let start : State :=
      { State.reset with
        clock := ⟨some ⟨⟨2026, 4, 10⟩, 540, 0⟩, .held, 0, none, false, false⟩
        nv := { kept with pendingSet := some (dueSet true) } }
    start.power = .starting .powerOn ∧ start.store = State.reset.store ∧ start.restartAsked = false ∧
      (start.nv.directory.map StoredEntry.machine).Pairwise (· < ·) ∧ start.warning = false ∧
      ({ start with warning := true }).warning = true ∧ kept.directory ≠ [] ∧ 3 < 5 ∧ 4 ≤ 5 ∧
      (start.nv.pendingSet.filter fun p => p.activation.atOrBefore ⟨⟨2026, 4, 10⟩, 540⟩) = some (dueSet true) := by decide

/-- 11 R200: a past-due set is activated and a held drop written at a start; the write of the set waits behind it. -/
theorem test_start_up_writes :
    leaves .startUpCompletion
      { State.reset with
        clock := ⟨some ⟨⟨2026, 4, 10⟩, 541, 0⟩, .held, 0, none, false, false⟩
        nv := { kept with pendingSet := some (dueSet true), boxes := [⟨214, .out, .held, holding.heldDrop, 4, 4⟩] } }
      (fun t =>
        on214 (fun m => m.heldAsked == some (0, 1) && m.box == .out) t && (t.zone 7).generation == 1 &&
          t.store.queue.map StoreOp.cls == [5] && (t.store.holder.map fun h => h.op.cls) == some 2) = true := by decide

/-- A start that restores a tally from its checkpoint, and nothing where the machine was registered since. -/
theorem test_start_up_restores :
    leaves .startUpCompletion { State.reset with nv := kept } (on214 fun m =>
      m.tally == m214.tally && m.cards == ⟨7, 1⟩ && m.accepted == m214.accepted && m.box == .unknown &&
        m.reconcileDue && m.flags == ⟨false, false, true⟩) = true ∧
      leaves .startUpCompletion
        { State.reset with nv := { kept with directory := [⟨214, reg214, ⟨false, false, true⟩, 6, 6⟩] } }
        (on214 fun m => m.tally == emptyTally && m.accepted == ⟨none, none⟩) = true := by decide

/-- The district at work on a table write, the cabinet ready again. -/
def atWork : State :=
  { performingOp ⟨.table (.pendingSet none), 5, .nobody⟩ with
    permits := ⟨.granted, some 5, []⟩
    store := { (performingOp ⟨.table (.pendingSet none), 5, .nobody⟩).store with dirty := Octet.const true } }

/-- The district Flushing, everything stored. -/
def flushed (restart warning : Bool) : State :=
  { district with
    power := .flushing
    warning := warning
    restartAsked := restart
    store := { district.store with holdBack := true, queue := [⟨.table (.pendingSet none), 5, .nobody⟩] } }

theorem flushOver_iff (c : StoreControl) :
    c.flushOver ↔
      (∀ g < 8, c.dirty.get g = false) ∧ (∀ o ∈ c.queue, o.requester ≠ .flush) ∧
        (c.holder.all fun h => decide (h.op.requester ≠ .flush)) = true := by
  unfold StoreControl.flushOver
  cases c.holder <;> simp

theorem writing_iff (c : StoreControl) :
    c.writing ↔ (∃ o ∈ c.queue, o.cls ≤ 2) ∨ (c.holder.any fun h => !h.op.work.isRead) = true := by
  unfold StoreControl.writing
  cases c.holder <;> simp

/-- The district with a read of the cabinet's in progress. -/
def readingAlone : State := performingOp ⟨.permitRead 5, 3, .cabinet⟩

/-- The warning with a write in progress, with a read, and with the array Free: the flush goes on, or is over at once. -/
theorem test_meets_warning :
    (atWork.power = .running ∧ atWork.store.freeing = false ∧ atWork.restartAsked = false ∧
        (atWork.machines.map MachineRecord.number).Pairwise (· < ·)) ∧
      ¬(State.flushAsked { atWork with warning := true }).store.flushOver ∧
      ((State.flushAsked { readingAlone with warning := true }).store.flushOver ∧
        ¬(State.flushAsked { readingAlone with warning := true }).store.writing) ∧
      (State.flushAsked { district with warning := true }).store.flushOver ∧
      ¬(State.flushAsked { dirtyDistrict with warning := true }).store.flushOver :=
  ⟨by decide, by rw [flushOver_iff]; decide, by rw [flushOver_iff, writing_iff]; decide, by rw [flushOver_iff]; decide,
    by rw [flushOver_iff]; decide⟩

/-- The warning while a write of the cabinet's is in progress and nothing is to be saved. -/
theorem test_meets_warning_writing :
    let s : State := performingOp ⟨.table (.pendingSet none), 5, .cabinet⟩
    (State.flushAsked { s with warning := true }).store.flushOver ∧
      (State.flushAsked { s with warning := true }).store.writing :=
  ⟨by rw [flushOver_iff]; decide, by rw [writing_iff]; decide⟩

theorem test_meets_flushed :
    (flushed false true).power = .flushing ∧ (flushed false true).store.flushOver ∧
      ¬(flushed false true).store.writing ∧ (flushed false true).restartAsked = false ∧
      (flushed false true).store.holder = none ∧ (flushed true false).restartAsked = true ∧
      (flushed true false).warning = false ∧ (flushed true false).store.flushOver ∧
      ¬(flushed true false).store.writing := by
  simp only [flushOver_iff, writing_iff]
  decide

/-- The last checkpoint of a flush in progress, and a withdrawal while it goes on under a restart. -/
theorem test_meets_last_checkpoint :
    let s : State :=
      { flushed true true with
        store :=
          { (flushed true true).store with
            holder := some ⟨⟨.checkpoint 0, 1, .flush⟩, 0, false, .image []⟩ } }
    s.power = .flushing ∧ s.store.serving = none ∧ (∃ h, s.store.holder = some h ∧ h.op.work = .checkpoint 0 ∧
        h.data = .image [] ∧ h.op.requester = .flush) ∧ s.permits.hold = .free ∧
      (∀ i < 8, s.store.dirty.get i = false) ∧ (∀ o ∈ s.store.queue, s.store.holdBack = true ∧ 4 ≤ o.cls) ∧
      (∀ o ∈ s.store.queue, o.requester ≠ .flush) ∧ s.restartAsked = true ∧ s.warning = true :=
  ⟨rfl, rfl, ⟨_, rfl, rfl, rfl, rfl⟩, rfl, by decide, by decide, by decide, rfl, rfl⟩

theorem test_meets_parked :
    let s : State := { flushed false true with power := .parked }
    district.power ≠ .flushing ∧ district.power ≠ .parked ∧ State.reset.power ≠ .running ∧
      ({ flushed true true with power := .parked }).power = .parked ∧ s.cabinetReady = true ∧
      s.machine? 214 = some m214 ∧ s.store.freeing = false ∧ s.store.groupWaits m214.group = false ∧
      s.store.holder = none ∧ s.store.backlog = 0 ∧ s.store.flush = false ∧ s.permits.hold ≠ .requested ∧
      atWork.store.holder ≠ none ∧ atWork.store.groupWaits m214.group = false ∧ atWork.store.backlog ≤ 2 ∧
      atWork.warning = false ∧ atWork.cabinetReady = true := by decide

/-- 11 R197: ClearCardTotals in Parked withdraws the safe output, and its checkpoint's completion asserts it again. -/
theorem test_parked_and_back :
    let s : State := after (.clearCardTotals 214) { flushed false true with power := .parked, safe := true }
    s.power = .flushing ∧ s.safe = false ∧
      leaves .checkpointCompletion s (fun t => t.power == .parked && t.safe && t.nv.stamp == 1) = true := by decide

/-- 11 R201: an OrderlyRestart with nothing to save starts at once, and its transaction has shifted out the former
answer. -/
theorem test_restart_at_once :
    leaves .orderlyRestart { district with cabinet := district.cabinet.answered Code.empty.plain } (fun t =>
      t.power == .starting .orderlyRestart && t.cabinet.shifted == some Code.empty.plain && t.cabinet.answer == none) =
      true := by decide

/-- 11, a warning that passes: groups 1 and 4 wait for their checkpoints behind a write that cannot be suspended. -/
theorem test_warning :
    leaves .powerFailWarning
      { atWork with
        store := { atWork.store with dirty := ((Octet.const false).set 1 true).set 4 true } } (fun t =>
        t.power == .flushing && !t.safe && t.store.queue.map StoreOp.work == [.checkpoint 1, .checkpoint 4] &&
          t.store.holder.any fun h => !h.suspendable) = true := by decide

end Sys2Proof.Tests
end

/-! PROOFS. The effective rates of 02 R30: what each rate class pays by the hour, and what a walk sees of a band. -/

namespace Sys2Proof.Machine

/-! ## The rate of each class -/

@[simp] theorem effectiveRate_standard (p : ZoneParams) (r : Nat) : effectiveRate p .standard r = r := rfl

@[simp] theorem effectiveRate_resident (p : ZoneParams) (r : Nat) :
    effectiveRate p .resident r = (r * (100 - p.discount) + 99) / 100 := rfl

@[simp] theorem effectiveRate_visitor (p : ZoneParams) (r : Nat) :
    effectiveRate p .visitor r = if 0 < r then p.visitorRate else 0 := rfl

/-- The resident rate is the discounted base rate rounded up to the penny. -/
theorem effectiveRate_resident_rounds_up (p : ZoneParams) (r : Nat) :
    r * (100 - p.discount) ≤ 100 * effectiveRate p .resident r ∧
      100 * effectiveRate p .resident r < r * (100 - p.discount) + 100 := by
  rw [effectiveRate_resident]
  omega

/-- A discount never raises a rate. -/
theorem effectiveRate_resident_le (p : ZoneParams) (r : Nat) : effectiveRate p .resident r ≤ r := by
  have hdiscount : r * (100 - p.discount) ≤ r * 100 := Nat.mul_le_mul_left r (Nat.sub_le 100 p.discount)
  rw [effectiveRate_resident]
  omega

theorem effectiveRate_visitor_le (p : ZoneParams) (r : Nat) : effectiveRate p .visitor r ≤ p.visitorRate := by
  rw [effectiveRate_visitor]
  split
  · exact Nat.le_refl _
  · exact Nat.zero_le _

/-- No class pays more than a bound on both the base rate and the visitor rate. -/
theorem effectiveRate_le (p : ZoneParams) (rate : RateClass) {r bound : Nat} (hbase : r ≤ bound)
    (hvisitor : p.visitorRate ≤ bound) : effectiveRate p rate r ≤ bound := by
  cases rate with
  | standard => exact hbase
  | resident => exact (effectiveRate_resident_le p r).trans hbase
  | visitor => exact (effectiveRate_visitor_le p r).trans hvisitor

/-! ## The price of a band -/

@[simp] theorem BandKind.price_charged (p : ZoneParams) (rate : RateClass) (r : Nat) :
    BandKind.price p rate (.charged r) = some (effectiveRate p rate r) := rfl

@[simp] theorem BandKind.price_free (p : ZoneParams) (rate : RateClass) :
    BandKind.price p rate .free = some 0 := rfl

@[simp] theorem BandKind.price_noParking (p : ZoneParams) (rate : RateClass) :
    BandKind.price p rate .noParking = none := rfl

/-! ## What a walk sees of a band -/

/-- The bands walked depend on each band by its start and its price only. -/
theorem daySegments_map (offset : Nat) (price : BandKind → Option Nat) (f : Band → Band)
    (hstart : ∀ b, (f b).start = b.start) (hprice : ∀ b, price (f b).kind = price b.kind) (bands : List Band) :
    daySegments offset price (bands.map f) = daySegments offset price bands := by
  induction bands with
  | nil => rfl
  | cons b rest ih =>
    cases rest with
    | nil => simp [daySegments, hstart, hprice]
    | cons c rest =>
      rw [List.map_cons] at ih
      simp [daySegments, hstart, hprice, ih]

/-- A zero-priced band is walked exactly as a Free one (02 R30). -/
theorem daySegments_zero_priced_as_free (p : ZoneParams) (rate : RateClass) (offset : Nat) (bands : List Band) :
    daySegments offset (BandKind.price p rate)
        (bands.map fun b => if BandKind.price p rate b.kind = some 0 then { b with kind := .free } else b) =
      daySegments offset (BandKind.price p rate) bands := by
  apply daySegments_map
  case hstart =>
    intro b
    split <;> rfl
  case hprice =>
    intro b
    split
    case isTrue hzero => rw [hzero, BandKind.price_free]
    case isFalse => rfl

/-- Settles O25: each class's formula, the rounding and the bound from the lemmas above, the walk by
`daySegments_zero_priced_as_free`. -/
theorem effectiveRatesFollowTheClass : Obligations.EffectiveRatesFollowTheClass := by
  refine ⟨?charged, ?walked, ?discounted, ?fullDiscount, ?freeVisitors⟩
  case charged =>
    intro p r hbase _ hvisitor
    refine ⟨by rw [BandKind.price_charged, effectiveRate_standard],
      ⟨_, BandKind.price_charged p .resident r, effectiveRate_resident_rounds_up p r⟩, ?_, ?_,
      fun rate => effectiveRate_le p rate hbase hvisitor⟩
    · intro hpos
      rw [BandKind.price_charged, effectiveRate_visitor, if_pos hpos]
    · rintro rfl
      rfl
  case walked =>
    exact fun p rate => ⟨BandKind.price_free p rate, BandKind.price_noParking p rate,
      fun offset bands => (daySegments_zero_priced_as_free p rate offset bands).symm⟩
  case discounted =>
    intro p hdiscount
    rw [effectiveRate_resident, hdiscount]
  case fullDiscount =>
    intro p r hdiscount
    simp [hdiscount]
  case freeVisitors =>
    intro p r hfree
    simp [hfree]

end Sys2Proof.Machine

/-! PROOFS. The district fault summary (06 R121, R122): what a raise adds to it, and the operations that leave it. -/

namespace Sys2Proof.Machine

/-! ## What a raise adds -/

/-- A number put into a list is in it, with what was there. -/
theorem mem_insertNumber {x n : Nat} {l : List Nat} : x ∈ insertNumber n l ↔ x = n ∨ x ∈ l := by
  induction l with
  | nil => simp [insertNumber]
  | cons y rest ih =>
    unfold insertNumber
    split
    · simp
    · split
      case isTrue heq => simp [heq]
      case isFalse => simp [ih, or_left_comm]

/-- The higher of two severities is one of them, and neither is above it. -/
theorem Severity.join_spec (a : Option Severity) (b : Severity) :
    ∃ top, Severity.join a b = some top ∧ b.number ≤ top.number ∧
      (∀ old, a = some old → old.number ≤ top.number) ∧ (top = b ∨ a = some top) := by
  cases a with
  | none => exact ⟨b, rfl, Nat.le_refl _, by simp, .inl rfl⟩
  | some old =>
    by_cases hlt : old.number < b.number
    · exact ⟨b, by simp [Severity.join, hlt], Nat.le_refl _, by simpa using hlt.le, .inl rfl⟩
    · exact ⟨old, by simp [Severity.join, hlt], Nat.le_of_not_lt hlt, by simp, .inr rfl⟩

/-- A raise for a registered machine enters the summary. -/
theorem raiseFault_summary {n : Nat} {k : FaultKind} {s : State} (h : s.machine? n ≠ none) :
    (raiseFault n k s).summary = s.summary.add n k := by
  obtain ⟨m, hm⟩ := Option.ne_none_iff_exists'.mp h
  simp only [raiseFault, hm]
  rfl

/-- A machine that is not registered has no entries to raise. -/
theorem raiseFault_unregistered {n : Nat} {k : FaultKind} {s : State} (h : s.machine? n = none) :
    raiseFault n k s = s := by
  simp only [raiseFault, h]

/-! ## Summaries that have lost nothing -/

/-- One summary within another: its numbers are all there, and its severity is not above the other's. -/
structure Summary.Within (x y : Summary) : Prop where
  machines : ∀ n ∈ x.machines, n ∈ y.machines
  kinds : ∀ k ∈ x.kinds, k ∈ y.kinds
  highest : ∀ old, x.highest = some old → ∃ top, y.highest = some top ∧ old.number ≤ top.number

theorem Summary.Within.refl (x : Summary) : x.Within x :=
  ⟨fun _ h => h, fun _ h => h, fun old h => ⟨old, h, Nat.le_refl _⟩⟩

/-- A raise added takes nothing out. -/
theorem Summary.Within.add {x y : Summary} (h : x.Within y) (n : Nat) (k : FaultKind) : x.Within (y.add n k) where
  machines i hi := mem_insertNumber.mpr (.inr (h.machines i hi))
  kinds i hi := mem_insertNumber.mpr (.inr (h.kinds i hi))
  highest old hold := by
    obtain ⟨top, htop, hle⟩ := h.highest old hold
    obtain ⟨joined, hjoined, -, habove, -⟩ := Severity.join_spec y.highest k.severity
    exact ⟨joined, hjoined, hle.trans (habove top htop)⟩

/-- What an event keeps of a summary: all of it, where the PD64 listens after the event (11 R195, R199). -/
structure State.Keeps (t : State) (x : Summary) : Prop where
  within : t.power.listens = true → x.Within t.summary

theorem State.Keeps.of_within {x : Summary} {t : State} (h : x.Within t.summary) : t.Keeps x := ⟨fun _ => h⟩

theorem State.Keeps.of_same {s t : State} (h : t.summary = s.summary) : t.Keeps s.summary :=
  .of_within (by rw [h]; exact .refl _)

/-- A start that has begun keeps nothing, and nothing is asked of it. -/
theorem State.Keeps.of_deaf {x : Summary} {t : State} (h : t.power.listens = false) : t.Keeps x :=
  ⟨fun hl => absurd hl (by simp [h])⟩

/-! ## Operations that leave the summary: machines, ports, the arbiter and the store -/

/-- A step done on a condition leaves the summary where the step does. -/
theorem summary_ite_of_same (c : Prop) [Decidable c] {s t : State} (h : t.summary = s.summary) :
    (if c then t else s).summary = s.summary := by
  split
  · exact h
  · rfl

@[simp] theorem giveReply_summary (n id : Nat) (a : Answer) (s : State) :
    (giveReply n id a s).summary = s.summary := rfl

@[simp] theorem releaseSlot_summary (n : Nat) (s : State) : (releaseSlot n s).summary = s.summary := rfl

@[simp] theorem reopenQuote_summary (n : Nat) (q : OpenQuote) (s : State) :
    (reopenQuote n q s).summary = s.summary := by
  obtain ⟨ms, h⟩ := reopenQuote_frame n q s
  rw [h]

@[simp] theorem clearFault_summary (n : Nat) (k : FaultKind) (c : ClearCause) (s : State) :
    (clearFault n k c s).summary = s.summary := by
  obtain ⟨ms, na, h⟩ := clearFault_frame n k c s
  rw [h]

@[simp] theorem ask_summary (op : StoreOp) (s : State) : (ask op s).summary = s.summary := by
  obtain ⟨pw, sf, ms, ws, st, h⟩ := ask_frame op s
  rw [h]

@[simp] theorem askTable_summary (w : TableWrite) (r : Requester) (s : State) :
    (askTable w r s).summary = s.summary := ask_summary _ s

@[simp] theorem askCheckpoint_summary (g cls : Nat) (s : State) : (askCheckpoint g cls s).summary = s.summary :=
  ask_summary _ s

@[simp] theorem askFlushCheckpoint_summary (g : Nat) (s : State) : (askFlushCheckpoint g s).summary = s.summary :=
  ask_summary _ s

@[simp] theorem markDirty_summary (g : Nat) (s : State) : (markDirty g s).summary = s.summary := by
  obtain ⟨pw, sf, ms, ws, st, h⟩ := markDirty_frame g s
  rw [h]

@[simp] theorem markMachineDirty_summary (n : Nat) (s : State) : (markMachineDirty n s).summary = s.summary := by
  unfold markMachineDirty
  split
  · exact markDirty_summary _ s
  · rfl

@[simp] theorem askTrickle_summary (s : State) : (askTrickle s).summary = s.summary := by
  obtain ⟨pw, sf, ms, ws, st, h⟩ := askTrickle_frame s
  rw [h]

@[simp] theorem endFlush_summary (s : State) : (endFlush s).summary = s.summary := by
  obtain ⟨st, h⟩ := endFlush_frame s
  rw [h]

@[simp] theorem enterParkedNow_summary (s : State) : (enterParkedNow s).summary = s.summary := rfl

@[simp] theorem freeArray_summary (s : State) : (freeArray s).summary = s.summary := by
  obtain ⟨ms, ws, st, h⟩ := freeArray_frame s
  rw [h]

@[simp] theorem endServing_summary (s : State) : (endServing s).summary = s.summary := by
  obtain ⟨sv, q, h⟩ := endServing_frame s
  rw [h]

@[simp] theorem tryGrantHold_summary (s : State) : (tryGrantHold s).summary = s.summary := by
  obtain ⟨pm, st, na, h⟩ := tryGrantHold_frame s
  rw [h]

@[simp] theorem setBacklog_summary (v : Nat) (s : State) : (setBacklog v s).summary = s.summary := by
  obtain ⟨fc, pm, st, na, h⟩ := setBacklog_frame v s
  rw [h]

@[simp] theorem askReturns_summary (rs : List Return) (s : State) : (askReturns rs s).summary = s.summary := by
  induction rs generalizing s with
  | nil => rfl
  | cons r rest ih => rw [askReturns, ih, ask_summary]

@[simp] theorem endHold_summary (s : State) : (endHold s).summary = s.summary := askReturns_summary _ _

@[simp] theorem timeOutHold_summary (s : State) : (timeOutHold s).summary = s.summary :=
  summary_ite_of_same _ (endHold_summary s)

@[simp] theorem releaseReply_summary (s : State) : (releaseReply s).summary = s.summary := by
  unfold releaseReply
  split <;> rfl

@[simp] theorem finish_summary (r : Requester) (a : Answer) (s : State) : (finish r a s).summary = s.summary := by
  cases r with
  | nobody => rfl
  | flush => rfl
  | cabinet => rfl
  | roundPort => exact releaseReply_summary s

@[simp] theorem FromPort.await_summary (p : FromPort) (line : List Nat) (s : State) :
    (p.await line s).summary = s.summary := by cases p <;> rfl

@[simp] theorem FromPort.reply_summary (p : FromPort) (line : List Nat) (s : State) :
    (p.reply line s).summary = s.summary := by cases p <;> rfl

@[simp] theorem FromPort.refuse_summary (p : FromPort) (c : Code) (s : State) :
    (p.refuse c s).summary = s.summary := by cases p <;> rfl

/-! ## Operations that leave the summary: tariffs and the clock -/

@[simp] theorem activate_summary (p : PendingSet) (s : State) : (activate p s).summary = s.summary := by
  simp [activate]

@[simp] theorem abandon_summary (p : PendingSet) (s : State) : (abandon p s).summary = s.summary := by
  simp [abandon]

@[simp] theorem activationCheck_summary (s : State) : (activationCheck s).summary = s.summary := by
  unfold activationCheck
  split
  · split
    · split
      · exact activate_summary _ s
      · exact abandon_summary _ s
    · rfl
  · rfl

@[simp] theorem pruneDays_summary (s : State) : (pruneDays s).summary = s.summary := by
  unfold pruneDays
  split
  · rfl
  · dsimp only
    split
    · rfl
    · exact askTable_summary _ _ _

@[simp] theorem takeMinuteEvent_summary (s : State) : (takeMinuteEvent s).summary = s.summary :=
  activationCheck_summary _

@[simp] theorem takeMidnightEvent_summary (s : State) : (takeMidnightEvent s).summary = s.summary :=
  pruneDays_summary _

@[simp] theorem passSecond_summary (s : State) : (passSecond s).summary = s.summary := rfl

@[simp] theorem beginCycles_summary (s : State) : (beginCycles s).summary = s.summary :=
  summary_ite_of_same _ rfl

/-! ## Operations that leave the summary: quotes and permits -/

@[simp] theorem openQuote_summary (n id : Nat) (q : QuoteWork) (minutes : Nat) (price : QuotePrice) (expiry : Moment)
    (clamped minApplied : Bool) (stop : StopReason) (s : State) :
    (openQuote n id q minutes price expiry clamped minApplied stop s).summary = s.summary := by
  unfold openQuote
  split <;> rfl

@[simp] theorem finishQuote_summary (n id : Nat) (q : QuoteWork) (s : State) :
    (finishQuote n id q s).summary = s.summary := by
  unfold finishQuote
  split
  · rfl
  · exact openQuote_summary ..

@[simp] theorem walkUnlessMoved_summary (n id : Nat) (q : QuoteWork) (moved : Bool) (s : State) :
    (walkUnlessMoved n id q moved s).summary = s.summary := by
  unfold walkUnlessMoved
  split
  · rfl
  · exact finishQuote_summary n id q s

@[simp] theorem takeUnverified_summary (w : LookupWork) (moved : Bool) (s : State) :
    (takeUnverified w moved s).summary = s.summary := by
  unfold takeUnverified
  split
  · rfl
  · exact walkUnlessMoved_summary ..

@[simp] theorem takeLookup_summary (w : LookupWork) (moved : Bool) (s : State) :
    (takeLookup w moved s).summary = s.summary := by
  unfold takeLookup
  dsimp only
  split
  · rfl
  · split
    · rfl
    · exact walkUnlessMoved_summary ..

@[simp] theorem askLookup_summary (w : LookupWork) (s : State) : (askLookup w s).summary = s.summary := by
  unfold askLookup
  split
  · exact takeUnverified_summary w false s
  · exact ask_summary _ s

@[simp] theorem quoteArrival_summary (f : QuoteFrame) (m : MachineRecord) (id : Nat) (s : State) :
    (quoteArrival f m id s).summary = s.summary := by
  unfold quoteArrival
  split
  · rfl
  · split
    · rfl
    · split
      · rfl
      · split
        · exact finishQuote_summary ..
        · exact askLookup_summary _ s

@[simp] theorem lookupDone_summary (w : LookupWork) (s : State) : (lookupDone w s).summary = s.summary := by
  unfold lookupDone
  split
  · rfl
  · split
    · split
      · exact takeUnverified_summary ..
      · exact takeLookup_summary ..
    · rfl

@[simp] theorem lookupEffect_summary (h : Holder) (s : State) : (lookupEffect h s).summary = s.summary := by
  unfold lookupEffect
  split
  · exact lookupDone_summary _ s
  · rfl

@[simp] theorem expireQuotes_summary (s : State) : (expireQuotes s).summary = s.summary := rfl

@[simp] theorem storePermits_summary (table : List Permit) (s : State) :
    (storePermits table s).summary = s.summary := rfl

@[simp] theorem permitWritten_summary (r : Requester) (checked : Except Code (List Permit)) (s : State) :
    (permitWritten r checked s).summary = s.summary := by
  unfold permitWritten
  split <;> simp

@[simp] theorem permitWriteEffect_summary (h : Holder) (s : State) :
    (permitWriteEffect h s).summary = s.summary := by
  unfold permitWriteEffect
  split
  case h_4 => rfl
  all_goals exact permitWritten_summary ..

@[simp] theorem permitReadEffect_summary (h : Holder) (s : State) : (permitReadEffect h s).summary = s.summary := by
  unfold permitReadEffect
  split
  · exact finish_summary ..
  · rfl

@[simp] theorem returnEffect_summary (h : Holder) (s : State) : (returnEffect h s).summary = s.summary := by
  unfold returnEffect
  split
  · split <;> rfl
  · rfl

/-! ## Operations that leave the summary: rounds, drops and box writes -/

@[simp] theorem putChangedRound_summary (r : Round) (s : State) : (putChangedRound r s).summary = s.summary := by
  unfold putChangedRound
  split <;> rfl

@[simp] theorem roundWriteEffect_summary (h : Holder) (s : State) : (roundWriteEffect h s).summary = s.summary := by
  unfold roundWriteEffect
  split
  · simp
  · rfl

@[simp] theorem insertionRound_summary (n : Nat) (s : State) : (insertionRound n s).summary = s.summary := by
  unfold insertionRound
  split
  · split
    · exact putChangedRound_summary _ s
    · rfl
  · rfl

@[simp] theorem takePlace_summary (snap : Snapshot) (s : State) : (takePlace snap s).2.summary = s.summary := rfl

@[simp] theorem askBoxWrite_summary (n id : Nat) (e : BoxEffect) (a : Option Answer) (before s : State) :
    (askBoxWrite n id e a before s).summary = s.summary := by
  unfold askBoxWrite
  split
  · rfl
  · exact ask_summary _ s

@[simp] theorem endBoxEvent_summary (n id : Nat) (e : BoxEffect) (a : Option Answer) (before s : State) :
    (endBoxEvent n id e a before s).summary = s.summary := by
  unfold endBoxEvent
  dsimp only
  split <;> simp

@[simp] theorem repeatRemoval_summary (m : MachineRecord) (id : Nat) (s : State) :
    (repeatRemoval m id s).summary = s.summary := by
  unfold repeatRemoval
  dsimp only
  split <;> rfl

@[simp] theorem numberEntry_summary (n : Nat) (d : DropRecord) (s : State) :
    (numberEntry n d s).summary = s.summary := by
  unfold numberEntry
  split
  · rfl
  · split
    · simp
    · rfl

@[simp] theorem askHeldDrop_summary (r : Requester) (s : State) : (askHeldDrop r s).summary = s.summary := by
  unfold askHeldDrop
  split
  · rfl
  · split
    · simp
    · rfl

@[simp] theorem askHeldDrops_summary (r : Requester) (fuel : Nat) (s : State) :
    (askHeldDrops r fuel s).summary = s.summary := by
  induction fuel generalizing s with
  | zero => rfl
  | succ fuel ih => rw [askHeldDrops, ih, askHeldDrop_summary]

@[simp] theorem recordDrop_summary (d : Option (Nat × DropRecord)) (s : State) :
    (recordDrop d s).summary = s.summary := by cases d <;> rfl

@[simp] theorem boxWritten_summary (w : BoxWork) (s : State) : (boxWritten w s).summary = s.summary := by
  unfold boxWritten
  dsimp only
  split <;> simp

@[simp] theorem heldWritten_summary (w : HeldWork) (s : State) : (heldWritten w s).summary = s.summary := by
  simp [heldWritten]

@[simp] theorem dropFetched_summary (place : Nat) (r : Requester) (s : State) :
    (dropFetched place r s).summary = s.summary := by
  unfold dropFetched
  split
  · rfl
  · simp

@[simp] theorem boxWriteEffect_summary (h : Holder) (s : State) : (boxWriteEffect h s).summary = s.summary := by
  unfold boxWriteEffect
  split
  · exact boxWritten_summary _ s
  · rfl

@[simp] theorem heldWriteEffect_summary (h : Holder) (s : State) : (heldWriteEffect h s).summary = s.summary := by
  unfold heldWriteEffect
  split
  · exact heldWritten_summary _ s
  · rfl

@[simp] theorem fetchReadEffect_summary (h : Holder) (s : State) : (fetchReadEffect h s).summary = s.summary := by
  unfold fetchReadEffect
  split
  · exact ask_summary _ s
  · rfl

@[simp] theorem fetchMarkEffect_summary (h : Holder) (s : State) : (fetchMarkEffect h s).summary = s.summary := by
  unfold fetchMarkEffect
  split
  · exact dropFetched_summary _ _ s
  · rfl

/-! ## Operations that leave the summary: table writes and checkpoints -/

@[simp] theorem tableEffect_summary (h : Holder) (s : State) : (tableEffect h s).summary = s.summary := by
  unfold tableEffect
  split
  · simp
  · rfl

@[simp] theorem askUrgent_summary (s : State) : (askUrgent s).summary = s.summary := by
  unfold askUrgent
  split
  · simp
  · rfl

@[simp] theorem checkpointDone_summary (g : Nat) (entries : List ImageEntry) (s : State) :
    (checkpointDone g entries s).summary = s.summary := by
  unfold checkpointDone
  dsimp only
  split
  · split <;> simp
  · simp

@[simp] theorem checkpointEffect_summary (h : Holder) (s : State) : (checkpointEffect h s).summary = s.summary := by
  unfold checkpointEffect
  split
  · exact checkpointDone_summary _ _ s
  · rfl

@[simp] theorem beginUrgent_summary (s : State) : (beginUrgent s).summary = s.summary := by
  unfold beginUrgent
  dsimp only
  split
  · split <;> simp
  · simp

@[simp] theorem periodExpiry_summary (s : State) : (periodExpiry s).summary = s.summary := by
  unfold periodExpiry
  dsimp only
  split
  · split <;> simp
  · simp

@[simp] theorem flushGroup_summary (s : State) (g : Nat) : (flushGroup s g).summary = s.summary :=
  summary_ite_of_same _ (askFlushCheckpoint_summary g s)

@[simp] theorem flushGroups_summary (s : State) : (flushGroups s).summary = s.summary := by
  simp [flushGroups]

/-! ## Operations that leave the summary: downlinks, readouts and timers -/

@[simp] theorem slotDownlink_summary (line : LineId) (slot : Nat) (s : State) :
    (slotDownlink line slot s).summary = s.summary := by
  unfold slotDownlink
  dsimp only
  split
  · simp
  · split <;> simp
  · simp

@[simp] theorem downlink_summary (line : LineId) (slot : Nat) (s : State) :
    (downlink line slot s).summary = s.summary := by
  unfold downlink
  split <;> simp

@[simp] theorem hearMachine_summary (n : Nat) (s : State) : (hearMachine n s).summary = s.summary := by
  unfold hearMachine
  split <;> simp

@[simp] theorem leave_summary (line : LineId) (slot : Nat) (m : MachineRecord) (s : State) :
    (leave line slot m s).summary = s.summary := by
  simp [leave]

@[simp] theorem takeReadout_summary (lines : MachineRecord → State → List (List Nat)) (n : Nat) (s : State) :
    (takeReadout lines n s).summary = s.summary := by
  unfold takeReadout
  split
  · rfl
  · split <;> rfl

@[simp] theorem nextLine_summary (s : State) : (nextLine s).summary = s.summary := by
  unfold nextLine
  split
  · rfl
  · split <;> rfl

@[simp] theorem applyTimers_summary (a : TimerArgs) (s : State) : (applyTimers a s).summary = s.summary := by
  unfold applyTimers
  dsimp only
  rw [decideOutput_summary, summary_ite_of_same _ (periodExpiry_summary _),
    summary_ite_of_same _ (timeOutHold_summary _), summary_ite_of_same _ (expireQuotes_summary _)]

end Sys2Proof.Machine

/-! PROOFS. No command takes anything out of the district fault summary but a ReadSummary that the port takes (06 R122),
and no event but a start, after which the PD64 does not listen until start-up completes. -/

namespace Sys2Proof.Machine

/-! ## Operations that only add to the summary: raises -/

theorem raiseFault_within {x : Summary} {s : State} (n : Nat) (k : FaultKind) (h : x.Within s.summary) :
    x.Within (raiseFault n k s).summary := by
  by_cases hm : s.machine? n = none
  · rw [raiseFault_unregistered hm]
    exact h
  · rw [raiseFault_summary hm]
    exact h.add n k

theorem raiseInactive_within {x : Summary} {s : State} (n : Nat) (k : FaultKind) (h : x.Within s.summary) :
    x.Within (raiseInactive n k s).summary := by
  unfold raiseInactive
  split
  · exact h
  · split
    · exact h
    · exact raiseFault_within n k h

/-- A raise that depends on a condition. -/
theorem raiseInactive_if_within {x : Summary} {s : State} (c : Prop) [Decidable c] (n : Nat) (k : FaultKind)
    (h : x.Within s.summary) : x.Within (if c then raiseInactive n k s else s).summary := by
  split
  · exact raiseInactive_within n k h
  · exact h

theorem reportKind_within {x : Summary} {s : State} (n : Nat) (listed : List Nat) (k : FaultKind)
    (h : x.Within s.summary) : x.Within (reportKind n listed k s).summary := by
  unfold reportKind
  split
  · exact raiseInactive_within n k h
  · simpa using h

theorem statusReport_within {x : Summary} {s : State} (n : Nat) (listed : List Nat) (h : x.Within s.summary) :
    x.Within (statusReport n listed s).summary := by
  unfold statusReport
  induction machineKinds generalizing s with
  | nil => exact h
  | cons k rest ih => exact ih (reportKind_within n listed k h)

/-! ## Operations that only add to the summary: sales -/

theorem checkBoxFill_within {x : Summary} {s : State} (n : Nat) (h : x.Within s.summary) :
    x.Within (checkBoxFill n s).summary := by
  unfold checkBoxFill
  split
  · exact h
  · exact raiseInactive_if_within _ n _ (raiseInactive_if_within _ n _ h)

theorem acceptSale_within {x : Summary} {s : State} (n id token serial : Nat) (gap : Bool) (h : x.Within s.summary) :
    x.Within (acceptSale n id token serial gap s).summary := by
  unfold acceptSale
  dsimp only
  split
  · exact raiseFault_within n _ h
  · exact h

theorem acceptCash_within {x : Summary} {s : State} (n id : Nat) (gap : Bool) (f : SaleFrame)
    (h : x.Within s.summary) : x.Within (acceptCash n id gap f s).summary := by
  unfold acceptCash
  rw [markMachineDirty_summary]
  exact checkBoxFill_within n (acceptSale_within n id _ _ gap h)

theorem acceptCard_within {x : Summary} {s : State} (n id token serial : Nat) (gap : Bool) (q : OpenQuote)
    (h : x.Within s.summary) : x.Within (acceptCard n id token serial gap q s).summary := by
  unfold acceptCard
  rw [markMachineDirty_summary]
  exact acceptSale_within n id token serial gap h

@[simp] theorem refuseReopened_summary (n id : Nat) (q : OpenQuote) (c : Code) (s : State) :
    (refuseReopened n id q c s).summary = s.summary := reopenQuote_summary n q s

@[simp] theorem askDecrement_summary (n id : Nat) (f : SaleFrame) (gap : Bool) (q : OpenQuote) (s : State) :
    (askDecrement n id f gap q s).summary = s.summary := by
  unfold askDecrement
  split <;> simp

@[simp] theorem askReturn_summary (r : Return) (s : State) : (askReturn r s).summary = s.summary := by
  unfold askReturn
  split <;> simp

theorem checkClaimed_within {x : Summary} {s : State} (m : MachineRecord) (id : Nat) (f : SaleFrame) (pay : PayKind)
    (q : OpenQuote) (h : x.Within s.summary) : x.Within (checkClaimed m id f pay q s).summary := by
  unfold checkClaimed
  dsimp only
  split
  · exact h
  · split
    · simpa using h
    · split
      · simpa using h
      · split
        · split
          · exact acceptCash_within _ id _ f h
          · simpa using h
        · split
          · simpa using h
          · exact acceptCard_within _ id _ _ _ q h

theorem saleArrival_within {x : Summary} {s : State} (f : SaleFrame) (m : MachineRecord) (id : Nat)
    (h : x.Within s.summary) : x.Within (saleArrival f m id s).summary := by
  unfold saleArrival
  dsimp only
  split
  · exact h
  · split
    · exact h
    · split
      · exact h
      · split
        · exact h
        · split
          · exact checkClaimed_within m id f _ _ h
          · exact h

theorem takeDecrement_within {x : Summary} {s : State} (w : DecrementWork) (c : CommitInFlight) (r : DecrementResult)
    (h : x.Within s.summary) : x.Within (takeDecrement w c r s).summary := by
  unfold takeDecrement
  dsimp only
  split
  · split
    · exact acceptCard_within _ _ _ _ _ _ h
    · simpa using h
  · exact h
  · exact h

theorem decrementDone_within {x : Summary} {s : State} (w : DecrementWork) (r : DecrementResult)
    (h : x.Within s.summary) : x.Within (decrementDone w r s).summary := by
  have hstored : x.Within
      (if r = .taken then storePermits (lowerBalance w.permit w.minutes s.nv.permits) s else s).summary := by
    rwa [summary_ite_of_same _ (storePermits_summary _ s)]
  unfold decrementDone
  dsimp only
  split
  · exact takeDecrement_within w _ r hstored
  · exact hstored

theorem decrementEffect_within {x : Summary} {s : State} (o : Holder) (h : x.Within s.summary) :
    x.Within (decrementEffect o s).summary := by
  unfold decrementEffect
  split
  · exact decrementDone_within _ _ h
  · exact h

/-! ## Operations that only add to the summary: box events and reconciliation -/

theorem removalRound_within {x : Summary} {s : State} (n cash : Nat) (h : x.Within s.summary) :
    x.Within (removalRound n cash s).summary := by
  unfold removalRound
  split
  · split
    · exact h
    · exact raiseFault_within n _ h
  · exact raiseFault_within n _ h

theorem removalBox_within {x : Summary} {s : State} (n : Nat) (h : x.Within s.summary) :
    x.Within (removalBox n s).summary := by
  simp only [removalBox, clearFault_summary]
  exact raiseFault_within n _ h

theorem dropOrHold_within {x : Summary} {s : State} (n : Nat) (snap : Snapshot) (h : x.Within s.summary) :
    x.Within (dropOrHold n snap s).2.summary := by
  unfold dropOrHold
  split
  · dsimp only
    split
    · split
      · exact h
      · exact h
    · exact h
  · exact raiseFault_within n _ h

theorem removeBox_within {x : Summary} {s : State} (n box : Nat) (h : x.Within s.summary) :
    x.Within (removeBox n box s).2.summary := by
  unfold removeBox
  split
  · exact h
  · rename_i m _
    by_cases htakes : (decide (0 < m.tally.cash) && m.heldDrop.isNone) = true
    · simp only [htakes, if_true]
      exact dropOrHold_within n _ (removalBox_within n (removalRound_within n _ h))
    · simp only [htakes]
      exact removalBox_within n (removalRound_within n _ h)

theorem installBox_within {x : Summary} {s : State} (n box : Nat) (h : x.Within s.summary) :
    x.Within (installBox n box s).summary := by
  have hcleared : x.Within
      (clearFault n .boxOut .inserted (s.onMachine n fun m => { m with box := .installed box })).summary := by
    simpa using h
  unfold installBox
  dsimp only
  split
  · exact raiseFault_within n _ hcleared
  · exact hcleared

theorem insertBox_within {x : Summary} {s : State} (n box : Nat) (h : x.Within s.summary) :
    x.Within (insertBox n box s).summary := by
  unfold insertBox
  rw [insertionRound_summary]
  exact installBox_within n box h

theorem boxRemovedArrival_within {x : Summary} {s : State} (m : MachineRecord) (id : Nat) (h : x.Within s.summary) :
    x.Within (boxRemovedArrival m id s).summary := by
  unfold boxRemovedArrival
  split
  · rw [endBoxEvent_summary]
    exact removeBox_within m.number _ h
  · simpa using h

theorem boxInsertedArrival_within {x : Summary} {s : State} (box : Nat) (m : MachineRecord) (id : Nat)
    (h : x.Within s.summary) : x.Within (boxInsertedArrival box m id s).summary := by
  unfold boxInsertedArrival
  split
  · split
    · exact h
    · rw [endBoxEvent_summary]
      exact insertBox_within m.number box (removeBox_within m.number _ h)
  · rw [endBoxEvent_summary]
    exact insertBox_within m.number box h

theorem reconcileBox_within {x : Summary} {s : State} (n : Nat) (recorded : RecordedBox) (report : Option Nat)
    (h : x.Within s.summary) : x.Within (reconcileBox n recorded report s).2.summary := by
  cases recorded with
  | installed old =>
    cases report with
    | some box =>
      by_cases hsame : old = box
      · simp only [reconcileBox, hsame, if_true]
        exact installBox_within n box h
      · simp only [reconcileBox, hsame, if_false]
        exact insertBox_within n box (removeBox_within n old h)
    | none => exact removeBox_within n old h
  | out =>
    cases report with
    | some box => exact insertBox_within n box h
    | none => exact raiseFault_within n _ h
  | nothing =>
    cases report with
    | some box => exact installBox_within n box h
    | none => exact raiseFault_within n _ h

theorem raiseRestored_within {x : Summary} {s : State} (n : Nat) (h : x.Within s.summary) :
    x.Within (raiseRestored n s).summary := by
  unfold raiseRestored
  split
  · exact h
  · exact raiseInactive_if_within _ n _ (raiseInactive_if_within _ n _
      (raiseInactive_if_within _ n _ (raiseInactive_if_within _ n _ h)))

theorem reconcile_within {x : Summary} {s : State} (m : MachineRecord) (f : JoinFrame) (h : x.Within s.summary) :
    x.Within (reconcile m f s).summary := by
  have hbox := reconcileBox_within m.number m.recorded (JoinFrame.boxReport f) h
  unfold reconcile
  dsimp only
  split
  · exact hbox
  · rename_i b _
    have hraised : ∀ (gap : Bool) (u : State), x.Within u.summary →
        x.Within (raiseRestored m.number (if gap then raiseFault m.number .tallyGap u else u)).summary := by
      intro gap u hu
      cases gap with
      | false => exact raiseRestored_within _ hu
      | true => exact raiseRestored_within _ (raiseFault_within _ _ hu)
    split
    · rw [markMachineDirty_summary]
      split
      · rw [askBoxWrite_summary]
        exact hraised _ _ hbox
      · exact hraised _ _ hbox
    · split
      · rw [askBoxWrite_summary]
        exact hraised _ _ hbox
      · exact hraised _ _ hbox

/-! ## Operations that only add to the summary: the phases of a cycle -/

theorem unheard_within {x : Summary} {s : State} (n : Nat) (h : x.Within s.summary) :
    x.Within (unheard n s).summary := by
  unfold unheard
  split
  · dsimp only
    split
    · exact raiseFault_within n _ h
    · exact h
  · dsimp only
    split
    · exact h
    · exact h
  · exact h

theorem unheardPhase_within {x : Summary} {s : State} (line : LineId) (slot : Nat) (h : x.Within s.summary) :
    x.Within (unheardPhase line slot s).summary := by
  have hpassed : x.Within (passPhase line s).summary := by simpa using h
  unfold unheardPhase
  dsimp only
  split
  · exact hpassed
  · exact unheard_within _ hpassed

theorem quietPhases_within {x : Summary} {s : State} (line : LineId) (k : Nat) (h : x.Within s.summary) :
    x.Within (quietPhases line k s).summary := by
  induction k generalizing s with
  | zero => exact h
  | succ k ih =>
    refine ih ?_
    unfold quietPhase
    dsimp only
    split
    · exact unheardPhase_within line _ h
    · simpa using h

theorem runTo_within {x : Summary} {s : State} (line : LineId) (k : Nat) (h : x.Within s.summary) :
    x.Within (runTo line k s).summary := quietPhases_within line _ h

theorem endCycle_within {x : Summary} {s : State} (line : LineId) (h : x.Within s.summary) :
    x.Within (endCycle line s).summary := by
  unfold endCycle
  split
  · exact runTo_within line _ h
  · exact h

theorem secondTick_within {x : Summary} {s : State} (h : x.Within s.summary) : x.Within (secondTick s).summary := by
  unfold secondTick
  split
  · exact h
  · rw [decideOutput_summary, beginCycles_summary, passSecond_summary]
    exact endCycle_within .b (endCycle_within .a h)

/-! ## What every event's end keeps -/

/-- An event's own work done, the PD64 goes on with the same summary or begins a start. -/
theorem settle_keeps {x : Summary} {s : State} (h : x.Within s.summary) : (settle s).Keeps x := by
  have hasked : x.Within (endFlush (askTrickle s)).summary := by simpa using h
  rcases parkOrRestart_cases (endFlush (askTrickle s)) with ⟨hstart, -⟩ | ⟨hparked, -⟩ | hsame
  · exact .of_deaf (by rw [settle, hstart]; rfl)
  · exact .of_within (by rw [settle, hparked]; exact hasked)
  · exact .of_within (by rw [settle, hsame]; exact hasked)

theorem settle_keeps_of_same {s t : State} (h : t.summary = s.summary) : (settle t).Keeps s.summary :=
  settle_keeps (by rw [h]; exact .refl _)

/-- An event that ends by settling where its condition holds, and changes nothing where it does not. -/
theorem settle_if_keeps {s t : State} (c : Prop) [Decidable c] (h : t.summary = s.summary) :
    (if c then settle t else s).Keeps s.summary := by
  split
  · exact settle_keeps_of_same h
  · exact .of_same rfl

theorem onCompletion_keeps {x : Summary} {s : State} (awaited : StoreWork → Bool) {effect : Holder → State → State}
    (heffect : ∀ (o : Holder) (t : State), x.Within t.summary → x.Within (effect o t).summary)
    (h : x.Within s.summary) : (onCompletion awaited effect s).Keeps x := by
  unfold onCompletion
  split
  · split
    · exact settle_keeps (heffect _ _ (by simpa using h))
    · exact .of_within h
  · split
    · split
      · refine settle_keeps ?_
        rw [freeArray_summary, tryGrantHold_summary]
        exact heffect _ _ h
      · exact .of_within h
    · exact .of_within h

/-- The completion of work whose effect leaves the summary as it is. -/
theorem onCompletion_keeps_of_same (awaited : StoreWork → Bool) {effect : Holder → State → State}
    (heffect : ∀ (o : Holder) (t : State), (effect o t).summary = t.summary) (s : State) :
    (onCompletion awaited effect s).Keeps s.summary :=
  onCompletion_keeps awaited (fun o t h => by rw [heffect o t]; exact h) (.refl _)

/-- A transaction keeps what its command keeps. -/
theorem transaction_keeps {body : State → State} (s : State)
    (hbody : ∀ t : State, (body t).Keeps t.summary) : (transaction body s).Keeps s.summary := by
  unfold transaction
  split
  · exact hbody _
  · exact .of_within (.refl _)

/-- A command keeps what its block keeps. -/
theorem command_keeps {body : State → State} (s : State)
    (hbody : ∀ t : State, (body t).Keeps t.summary) : (command body s).Keeps s.summary := by
  refine transaction_keeps s fun t => ?_
  dsimp only
  split
  · exact .of_within (.refl _)
  · exact hbody _

/-! ## What the cabinet's commands keep -/

theorem takenTable_keeps {s t : State} (w : TableWrite) (h : t.summary = s.summary) :
    (takenTable w t).Keeps s.summary := settle_keeps_of_same (by simpa using h)

theorem putPendingSet_keeps (p : Option PendingSet) (s : State) : (putPendingSet p s).Keeps s.summary :=
  takenTable_keeps _ rfl

theorem pendingBegin_keeps (key : KeyPosition) (date : DateArg) (minute : Nat) (s : State) :
    (pendingBegin key date minute s).Keeps s.summary := by
  unfold pendingBegin
  split
  · exact .of_same rfl
  · split
    · exact .of_same rfl
    · split
      · exact .of_same rfl
      · exact putPendingSet_keeps _ s

theorem pendingZone_keeps (key : KeyPosition) (a : ZoneArgs) (s : State) :
    (pendingZone key a s).Keeps s.summary := by
  unfold pendingZone
  split
  · exact .of_same rfl
  · split
    · exact .of_same rfl
    · split
      · exact .of_same rfl
      · exact .of_same rfl
      · exact .of_same rfl
      · split
        · exact .of_same rfl
        · exact putPendingSet_keeps _ s

theorem pendingSeal_keeps (key : KeyPosition) (s : State) : (pendingSeal key s).Keeps s.summary := by
  unfold pendingSeal
  split
  · exact .of_same rfl
  · split
    · exact .of_same rfl
    · split
      · exact .of_same rfl
      · split
        · exact .of_same rfl
        · split
          · exact .of_same rfl
          · split
            · exact .of_same rfl
            · exact putPendingSet_keeps _ s

theorem pendingCancel_keeps (key : KeyPosition) (s : State) : (pendingCancel key s).Keeps s.summary := by
  unfold pendingCancel
  split
  · exact .of_same rfl
  · split
    · exact .of_same rfl
    · exact putPendingSet_keeps _ s

theorem setGuard_keeps (key : KeyPosition) (side span complement mode : Nat) (s : State) :
    (setGuard key side span complement mode s).Keeps s.summary := by
  unfold setGuard
  split
  · split
    · exact .of_same rfl
    · split
      · exact .of_same rfl
      · split
        · exact .of_same rfl
        · exact takenTable_keeps _ rfl
  · exact .of_same rfl

theorem specialDayAdd_keeps (date : DateArg) (s : State) : (specialDayAdd date s).Keeps s.summary := by
  unfold specialDayAdd
  split
  · exact .of_same rfl
  · split
    · exact .of_same rfl
    · split
      · exact .of_same rfl
      · exact takenTable_keeps _ rfl

theorem specialDayRemove_keeps (date : DateArg) (s : State) : (specialDayRemove date s).Keeps s.summary := by
  unfold specialDayRemove
  split
  · exact .of_same rfl
  · split
    · exact takenTable_keeps _ rfl
    · exact .of_same rfl

theorem setClock_keeps (date : DateArg) (minute second : Nat) (s : State) :
    (setClock date minute second s).Keeps s.summary := by
  unfold setClock
  split
  · exact .of_same rfl
  · split
    · exact .of_same rfl
    · refine settle_keeps_of_same ?_
      rw [summary_ite_of_same _ (takeMinuteEvent_summary _).symm, takeMinuteEvent_summary]
      split
      · simp
      · split
        · rfl
        · simp

theorem overrideToday_keeps (n : Nat) (s : State) : (overrideToday n s).Keeps s.summary := by
  unfold overrideToday
  split
  · exact .of_same rfl
  · split
    · exact .of_same rfl
    · split <;> exact .of_same rfl

theorem askForCabinet_keeps {s t : State} (work : StoreWork) (cls : Nat) (h : t.summary = s.summary) :
    (askForCabinet work cls t).Keeps s.summary := settle_keeps_of_same (by simpa using h)

theorem takePermitWrite_keeps (work : StoreWork) (s : State) : (takePermitWrite work s).Keeps s.summary := by
  unfold takePermitWrite
  split
  · exact .of_same rfl
  · exact askForCabinet_keeps _ _ rfl

theorem permitInsert_keeps (a : PermitArgs) (s : State) : (permitInsert a s).Keeps s.summary := by
  unfold permitInsert
  split
  · exact .of_same rfl
  · exact takePermitWrite_keeps _ s

theorem permitUpdate_keeps (a : PermitChange) (s : State) : (permitUpdate a s).Keeps s.summary := by
  unfold permitUpdate
  split
  · exact .of_same rfl
  · exact takePermitWrite_keeps _ s

theorem permitDelete_keeps (n : Nat) (s : State) : (permitDelete n s).Keeps s.summary := by
  unfold permitDelete
  split
  · exact takePermitWrite_keeps _ s
  · exact .of_same rfl

theorem permitRead_keeps (n : Nat) (s : State) : (permitRead n s).Keeps s.summary := by
  unfold permitRead
  split
  · exact askForCabinet_keeps _ _ rfl
  · exact .of_same rfl

theorem holdRequest_keeps (s : State) : (holdRequest s).Keeps s.summary := by
  unfold holdRequest
  split
  · exact settle_keeps_of_same (by simp)
  · exact .of_same rfl

theorem holdRelease_keeps (s : State) : (holdRelease s).Keeps s.summary := by
  unfold holdRelease
  split
  · exact .of_same rfl
  · exact settle_keeps_of_same (by simp)

theorem fetchDrop_keeps (s : State) : (fetchDrop s).Keeps s.summary := by
  unfold fetchDrop
  split
  · exact .of_same rfl
  · exact askForCabinet_keeps _ _ rfl

theorem setDenominations_keeps (values : Octet Nat) (s : State) : (setDenominations values s).Keeps s.summary := by
  unfold setDenominations
  split
  · exact .of_same rfl
  · split
    · exact .of_same rfl
    · exact takenTable_keeps _ rfl

theorem clearCardTotals_keeps (n : Nat) (s : State) : (clearCardTotals n s).Keeps s.summary := by
  unfold clearCardTotals
  split
  · exact .of_same rfl
  · split
    · exact .of_same rfl
    · exact settle_keeps_of_same (by simp)

theorem readMachine_keeps (n : Nat) (s : State) : (readMachine n s).Keeps s.summary := by
  unfold readMachine
  split
  · exact .of_same rfl
  · split <;> exact .of_same rfl

theorem setSlotEnable_keeps (lineField enables : Nat) (s : State) :
    (setSlotEnable lineField enables s).Keeps s.summary := by
  unfold setSlotEnable
  split
  · exact .of_same rfl
  · exact takenTable_keeps _ (State.onLine_summary ..)

theorem registerMachine_keeps (a : RegisterArgs) (s : State) : (registerMachine a s).Keeps s.summary := by
  unfold registerMachine
  split
  · exact .of_same rfl
  · split
    · exact takenTable_keeps _ rfl
    · split
      · exact .of_same rfl
      · exact takenTable_keeps _ (markMachineDirty_summary ..)

theorem deregisterMachine_keeps (n : Nat) (s : State) : (deregisterMachine n s).Keeps s.summary := by
  unfold deregisterMachine
  split
  · exact .of_same rfl
  · split
    · exact .of_same rfl
    · split
      · exact .of_same rfl
      · exact takenTable_keeps _ (markDirty_summary ..)

theorem status_keeps (key : KeyPosition) (s : State) : (status key s).Keeps s.summary := .of_same rfl

theorem result_keeps (s : State) : (result s).Keeps s.summary := by
  unfold result
  split <;> exact .of_same rfl

theorem readNotices_keeps (count : Nat) (s : State) : (readNotices count s).Keeps s.summary := by
  unfold readNotices
  split <;> exact .of_same rfl

theorem advanceNotices_keeps (position : Nat) (s : State) : (advanceNotices position s).Keeps s.summary := by
  unfold advanceNotices
  split
  · exact .of_same rfl
  · split <;> exact .of_same rfl

theorem setTimers_keeps (a : TimerArgs) (s : State) : (setTimers a s).Keeps s.summary := by
  unfold setTimers
  split
  · exact .of_same rfl
  · exact takenTable_keeps _ (applyTimers_summary ..)

/-! ## What the commands of both ports keep -/

theorem recordRound_keeps {s t : State} (p : FromPort) (line : List Nat) (h : t.summary = s.summary) :
    (recordRound p line t).Keeps s.summary := settle_keeps_of_same (by simpa using h)

theorem FromPort.refuse_keeps (p : FromPort) (c : Code) (s : State) : (p.refuse c s).Keeps s.summary :=
  .of_same (p.refuse_summary c s)

theorem openRound_keeps (p : FromPort) (by_ : OpenedBy) (machines : List Nat) (s : State) :
    (openRound p by_ machines s).Keeps s.summary := recordRound_keeps p _ rfl

theorem roundOpenCabinet_keeps (machines : List Nat) (s : State) :
    (roundOpenCabinet machines s).Keeps s.summary := by
  unfold roundOpenCabinet
  split
  · exact .of_same rfl
  · split
    · exact .of_same rfl
    · exact openRound_keeps ..

theorem roundOpenPort_keeps (s : State) : (roundOpenPort s).Keeps s.summary := by
  unfold roundOpenPort
  split
  · exact .of_same rfl
  · split
    · exact .of_same rfl
    · exact openRound_keeps ..

theorem roundSkip_keeps (p : FromPort) (n : Nat) (s : State) : (roundSkip p n s).Keeps s.summary := by
  unfold roundSkip
  split
  · exact p.refuse_keeps _ s
  · split
    · exact p.refuse_keeps _ s
    · split
      · exact recordRound_keeps p _ (putChangedRound_summary ..)
      · exact p.refuse_keeps _ s

theorem roundClose_keeps (p : FromPort) (s : State) : (roundClose p s).Keeps s.summary := by
  unfold roundClose
  split
  · exact p.refuse_keeps _ s
  · split
    · exact p.refuse_keeps _ s
    · exact recordRound_keeps p _ rfl

theorem roundCloseForced_keeps (p : FromPort) (s : State) : (roundCloseForced p s).Keeps s.summary := by
  unfold roundCloseForced
  split
  · exact p.refuse_keeps _ s
  · exact recordRound_keeps p _ rfl

theorem ackFault_keeps (p : FromPort) (n kind : Nat) (s : State) : (ackFault p n kind s).Keeps s.summary := by
  unfold ackFault
  split
  · split
    · exact p.refuse_keeps _ s
    · split
      · exact p.refuse_keeps _ s
      · split
        · exact p.refuse_keeps _ s
        · exact settle_keeps_of_same (by simp)
  · exact p.refuse_keeps _ s

theorem changeFlag_keeps (p : FromPort) (n flag : Nat) (value : Bool) (s : State) :
    (changeFlag p n flag value s).Keeps s.summary := by
  unfold changeFlag
  split
  · split
    · exact p.refuse_keeps _ s
    · dsimp only
      split
      · exact .of_same (p.reply_summary _ s)
      · exact settle_keeps_of_same (by simp)
  · exact p.refuse_keeps _ s

theorem passCommand_keeps (l : Letter) (ended : Terminator) (a b : Nat) (s : State) :
    (passCommand l ended a b s).Keeps s.summary := by
  cases l with
  | t => exact .of_same (takeReadout_summary ..)
  | f => exact .of_same (takeReadout_summary ..)
  | n => exact .of_same (nextLine_summary s)
  | o => exact roundOpenPort_keeps s
  | s =>
    simp only [passCommand]
    split
    · exact roundSkip_keeps .roundPort a s
    · exact FromPort.roundPort.refuse_keeps _ s
  | c =>
    simp only [passCommand]
    split
    · exact roundCloseForced_keeps .roundPort s
    · exact roundClose_keeps .roundPort s
  | a => exact ackFault_keeps .roundPort a b s
  | p => exact changeFlag_keeps .roundPort a b true s
  | u => exact changeFlag_keeps .roundPort a b false s

theorem execute_keeps (key : KeyPosition) (l : Letter) (ended : Terminator) (first second : Option Nat) (s : State) :
    (execute key l ended first second s).Keeps s.summary := by
  have hended : (if l = .n then s else { s with roundPort := { s.roundPort with readout := none } }).summary =
      s.summary := by split <;> rfl
  have hpassed := passCommand_keeps l ended (first.getD 0) (second.getD 0)
    (if l = .n then s else { s with roundPort := { s.roundPort with readout := none } })
  rw [hended] at hpassed
  unfold execute
  dsimp only
  split
  · exact .of_same hended
  · split
    · exact .of_same hended
    · exact hpassed

theorem portCommand_keeps (l : Letter) (key : KeyInput) (ended : Terminator) (s : State) :
    (portCommand l key ended s).Keeps s.summary := by
  unfold portCommand
  split
  · split
    · exact execute_keeps ..
    · exact .of_same rfl
  · exact .of_same rfl

theorem charInReady_summary (c : CharKind) (s : State) : (charInReady c s).summary = s.summary := by
  unfold charInReady
  split <;> rfl

theorem charInEntering_keeps (key : KeyPosition) (l : Letter) (first second : Option Nat) (comma : Bool) (c : CharKind)
    (s : State) : (charInEntering key l first second comma c s).Keeps s.summary := by
  cases c with
  | digit d =>
    unfold charInEntering
    dsimp only
    split <;> exact .of_same rfl
  | comma =>
    unfold charInEntering
    dsimp only
    split <;> exact .of_same rfl
  | terminator t => exact execute_keeps key l t first second s
  | letter l => exact .of_same rfl
  | space => exact .of_same rfl
  | escape => exact .of_same rfl
  | other => exact .of_same rfl

theorem portCharacter_keeps (key : KeyPosition) (c : CharKind) (s : State) :
    (portCharacter key c s).Keeps s.summary := by
  unfold portCharacter
  split
  · exact .of_same rfl
  · split
    · exact .of_same (charInReady_summary c s)
    · exact charInEntering_keeps ..
    · split <;> exact .of_same rfl
    · exact .of_same rfl

/-! ## What the lines' events keep -/

/-- What happens in a phase keeps what its own work keeps. -/
theorem inPhase_keeps {body : State → State} (line : LineId) (k : Nat) (s : State)
    (hbody : ∀ t : State, s.summary.Within t.summary → (body t).Keeps s.summary) :
    (inPhase line k body s).Keeps s.summary := by
  unfold inPhase
  split
  · exact hbody _ (runTo_within line k (.refl _))
  · exact .of_same rfl

theorem unheardPhase_inPhase_keeps (line : LineId) (k slot : Nat) (s : State) :
    (inPhase line k (unheardPhase line slot) s).Keeps s.summary :=
  inPhase_keeps line k s fun _ h => .of_within (unheardPhase_within line slot h)

/-- A valid uplink keeps what the block it is passed to keeps. -/
theorem validUplink_keeps {body : MachineRecord → State → State} (line : LineId) (slot machine : Nat) (s : State)
    (hbody : ∀ (m : MachineRecord) (t : State), s.summary.Within t.summary → (body m t).Keeps s.summary) :
    (validUplink line slot machine body s).Keeps s.summary := by
  refine inPhase_keeps line _ s fun t h => ?_
  have hheard : s.summary.Within (hearMachine machine (passPhase line t)).summary := by simpa using h
  split
  · exact .of_within (unheardPhase_within line slot h)
  · split
    · dsimp only
      split
      · exact .of_within hheard
      · exact hbody _ _ hheard
    · exact .of_within (unheardPhase_within line slot h)

/-- A request keeps what the block it is passed to keeps. -/
theorem request_keeps {body : MachineRecord → Nat → State → State} (line : LineId) (slot machine : Nat)
    (kind : RequestKind) (s : State)
    (hbody : ∀ (m : MachineRecord) (id : Nat) (t : State), s.summary.Within t.summary →
      s.summary.Within (body m id t).summary) :
    (request line slot machine kind body s).Keeps s.summary := by
  refine validUplink_keeps line slot machine s fun m t h => ?_
  split
  · exact .of_within (by simpa using h)
  · split
    · exact .of_within (by simpa using h)
    · exact settle_keeps (hbody m _ _ h)

theorem grantJoin_keeps {x : Summary} {s : State} (line : LineId) (slot : Nat) (m : MachineRecord) (f : JoinFrame)
    (h : x.Within s.summary) : (grantJoin line slot m f s).Keeps x := by
  unfold grantJoin
  refine settle_keeps ?_
  rw [notify_summary]
  split
  · exact reconcile_within m f (by simpa using h)
  · simpa using h

theorem decideJoin_keeps {x : Summary} {s : State} (line : LineId) (f : JoinFrame) (h : x.Within s.summary) :
    (decideJoin line f s).Keeps x := by
  unfold decideJoin
  split
  · exact .of_within (by simpa using h)
  · rename_i m _
    have hreleased : x.Within (if m.link = .absent then s else releaseSlot f.machine s).summary := by
      rwa [summary_ite_of_same _ (releaseSlot_summary _ s).symm]
    dsimp only
    split
    · exact .of_within (by simpa using hreleased)
    · split
      · exact .of_within (by simpa using hreleased)
      · exact grantJoin_keeps line _ _ f hreleased

theorem join_keeps (line : LineId) (f : JoinFrame) (s : State) : (join line f s).Keeps s.summary :=
  inPhase_keeps line _ s fun _ h => decideJoin_keeps line f (by simpa using h)

/-- An unheard phase that is an event of its own only where a limit is reached. -/
theorem limitReached_keeps (line : LineId) (slot k : Nat) (c : Prop) [Decidable c] (s : State) :
    (if c then unheardPhase line slot (runTo line k s) else s).Keeps s.summary := by
  split
  · exact .of_within (unheardPhase_within line slot (runTo_within line k (.refl _)))
  · exact .of_same rfl

/-! ## What the power states keep -/

theorem enterFlushing_keeps {s t : State} (h : t.summary = s.summary) : (enterFlushing t).Keeps s.summary :=
  settle_keeps_of_same (by simpa using h)

theorem resumeRunning_keeps {s t : State} (h : t.summary = s.summary) : (resumeRunning t).Keeps s.summary := by
  unfold resumeRunning
  refine settle_keeps_of_same ?_
  rw [← h]
  exact summary_ite_of_same _ (freeArray_summary _)

theorem powerFailWarning_keeps (s : State) : (powerFailWarning s).Keeps s.summary := by
  unfold powerFailWarning
  dsimp only
  split
  · exact enterFlushing_keeps rfl
  · exact .of_same rfl

theorem warningWithdrawn_keeps (s : State) : (warningWithdrawn s).Keeps s.summary := by
  unfold warningWithdrawn
  dsimp only
  split
  · split
    · exact .of_deaf rfl
    · exact resumeRunning_keeps rfl
  · split
    · exact settle_keeps_of_same rfl
    · exact resumeRunning_keeps rfl
  · exact .of_same rfl

theorem orderlyRestart_keeps (s : State) : (orderlyRestart s).Keeps s.summary := by
  unfold orderlyRestart
  split
  · exact .of_same rfl
  · exact enterFlushing_keeps (setBacklog_summary ..)

theorem startUpDone_keeps (cause : StartCause) (s : State) : (startUpDone cause s).Keeps s.summary := by
  unfold startUpDone
  dsimp only
  split
  · exact enterFlushing_keeps (by simp [loadAll])
  · exact resumeRunning_keeps (by simp [loadAll])

theorem startUpCompletion_keeps (s : State) : (startUpCompletion s).Keeps s.summary := by
  unfold startUpCompletion
  split
  · exact startUpDone_keeps _ s
  · exact .of_same rfl

theorem powerOn_keeps (kept : Bool) (s : State) : (powerOn kept s).Keeps s.summary := by
  unfold powerOn
  split
  · dsimp only
    split
    · exact .of_deaf rfl
    · exact .of_deaf rfl
  · exact .of_same rfl

theorem resetAsserted_keeps (s : State) : (resetAsserted s).Keeps s.summary := by
  unfold resetAsserted
  dsimp only
  split
  · exact .of_same rfl
  · exact .of_deaf rfl

theorem resetReleased_keeps (s : State) : (resetReleased s).Keeps s.summary := by
  unfold resetReleased
  dsimp only
  split
  · exact .of_deaf rfl
  · exact .of_same rfl

/-! ## ReadSummary -/

/-- A ReadSummary that the port takes is answered with the summary, which it empties. -/
theorem readSummary_ready {s : State} (h : s.cabinetReady = true) :
    exec .readSummary s =
      .next { s with
        summary := ⟨[], [], none⟩, cabinet := s.cabinet.answered ⟨Code.done.byte, s.summary.bytes⟩ } := by
  change Host.Outcome.next (command readSummary s) = _
  rw [command_ready h]
  rfl

/-- A ReadSummary that the port does not take reads nothing. -/
theorem readSummary_not_ready_keeps {s : State} (h : s.cabinetReady = false) :
    (command readSummary s).Keeps s.summary := by
  cases hl : s.power.listens with
  | false => exact .of_same (by rw [command_deaf hl])
  | true =>
    have ho : s.cabinet.outstanding = true := by simpa [State.cabinetReady, hl] using h
    exact .of_same (by rw [command_busy hl ho])

/-! ## What every command keeps -/

/-- Every command keeps the summary but a ReadSummary that the port takes, and but for a start. -/
theorem exec_keeps_summary (s : State) : ∀ c : Instr, (c = .readSummary → s.cabinetReady = false) →
    ∃ t, exec c s = .next t ∧ t.Keeps s.summary
  | .secondTick, _ => ⟨_, rfl, .of_within (secondTick_within (.refl _))⟩
  | .minuteEvent, _ => ⟨_, rfl, settle_if_keeps _ (takeMinuteEvent_summary s)⟩
  | .midnightEvent, _ => ⟨_, rfl, settle_if_keeps _ (takeMidnightEvent_summary s)⟩
  | .join line frame, _ => ⟨_, rfl, join_keeps line frame s⟩
  | .leave line slot machine, _ =>
    ⟨_, rfl, validUplink_keeps line slot machine s fun m t h => .of_within (by rw [leave_summary]; exact h)⟩
  | .statusFrame line slot machine kinds, _ =>
    ⟨_, rfl, validUplink_keeps line slot machine s fun m _ h => .of_within (statusReport_within m.number kinds h)⟩
  | .quoteRequest line slot frame, _ =>
    ⟨_, rfl, request_keeps line slot _ _ s fun m id t h => by rw [quoteArrival_summary]; exact h⟩
  | .lookupCompletion, _ => ⟨_, rfl, onCompletion_keeps_of_same _ lookupEffect_summary s⟩
  | .quoteExpiry machine, _ => ⟨_, rfl, .of_same rfl⟩
  | .saleCommit line slot frame, _ =>
    ⟨_, rfl, request_keeps line slot _ _ s fun m id _ h => saleArrival_within frame m id h⟩
  | .decrementCompletion, _ => ⟨_, rfl, onCompletion_keeps _ (fun o _ h => decrementEffect_within o h) (.refl _)⟩
  | .returnCompletion, _ => ⟨_, rfl, onCompletion_keeps_of_same _ returnEffect_summary s⟩
  | .boxRemoved line slot machine, _ =>
    ⟨_, rfl, request_keeps line slot machine _ s fun m id _ h => boxRemovedArrival_within m id h⟩
  | .boxInserted line slot machine box, _ =>
    ⟨_, rfl, request_keeps line slot machine _ s fun m id _ h => boxInsertedArrival_within box m id h⟩
  | .nothingHeard line slot, _ => ⟨_, rfl, unheardPhase_inPhase_keeps line _ slot s⟩
  | .silenceLimitReached line slot, _ => ⟨_, rfl, limitReached_keeps line slot _ _ s⟩
  | .releaseLimitReached line slot, _ => ⟨_, rfl, limitReached_keeps line slot _ _ s⟩
  | .downlinkPhase line slot, _ =>
    ⟨_, rfl, inPhase_keeps line _ s fun t h => .of_within (by rw [downlink_summary]; exact h)⟩
  | .boxWriteCompletion, _ => ⟨_, rfl, onCompletion_keeps_of_same _ boxWriteEffect_summary s⟩
  | .heldDropWriteCompletion, _ => ⟨_, rfl, onCompletion_keeps_of_same _ heldWriteEffect_summary s⟩
  | .roundWriteCompletion, _ => ⟨_, rfl, onCompletion_keeps_of_same _ roundWriteEffect_summary s⟩
  | .fetchDropReadCompletion, _ => ⟨_, rfl, onCompletion_keeps_of_same _ fetchReadEffect_summary s⟩
  | .fetchDropMarkingCompletion, _ => ⟨_, rfl, onCompletion_keeps_of_same _ fetchMarkEffect_summary s⟩
  | .permitWriteCompletion, _ => ⟨_, rfl, onCompletion_keeps_of_same _ permitWriteEffect_summary s⟩
  | .permitReadCompletion, _ => ⟨_, rfl, onCompletion_keeps_of_same _ permitReadEffect_summary s⟩
  | .writeCompletion, _ => ⟨_, rfl, onCompletion_keeps_of_same _ tableEffect_summary s⟩
  | .checkpointPeriodExpiry, _ => ⟨_, rfl, settle_if_keeps _ (periodExpiry_summary s)⟩
  | .trickleCheckpointRequest, _ => ⟨_, rfl, .of_same (askTrickle_summary s)⟩
  | .checkpointCompletion, _ => ⟨_, rfl, onCompletion_keeps_of_same _ checkpointEffect_summary s⟩
  | .holdGrant, _ => ⟨_, rfl, .of_same (tryGrantHold_summary s)⟩
  | .holdTimeout, _ => ⟨_, rfl, settle_if_keeps _ (timeOutHold_summary s)⟩
  | .noticeTimeout, _ => ⟨_, rfl, .of_same rfl⟩
  | .cabinetFrameRejected edges bytes, _ => by
    refine ⟨_, rfl, ?_⟩
    split
    · exact transaction_keeps s fun t => .of_same rfl
    · exact .of_same rfl
  | .status key, _ => ⟨_, rfl, transaction_keeps s (status_keeps _)⟩
  | .result, _ => ⟨_, rfl, transaction_keeps s result_keeps⟩
  | .readSummary, hread => ⟨_, rfl, readSummary_not_ready_keeps (hread rfl)⟩
  | .fetchDrop, _ => ⟨_, rfl, command_keeps s fetchDrop_keeps⟩
  | .holdRequest, _ => ⟨_, rfl, command_keeps s holdRequest_keeps⟩
  | .holdRelease, _ => ⟨_, rfl, command_keeps s holdRelease_keeps⟩
  | .pendingSeal key, _ => ⟨_, rfl, command_keeps s (pendingSeal_keeps _)⟩
  | .pendingCancel key, _ => ⟨_, rfl, command_keeps s (pendingCancel_keeps _)⟩
  | .orderlyRestart, _ => ⟨_, rfl, command_keeps s orderlyRestart_keeps⟩
  | .readNotices count, _ => ⟨_, rfl, transaction_keeps s (readNotices_keeps count)⟩
  | .advanceNotices position, _ => ⟨_, rfl, transaction_keeps s (advanceNotices_keeps position)⟩
  | .setClock date minute second, _ => ⟨_, rfl, command_keeps s (setClock_keeps date minute second)⟩
  | .overrideToday dayClass, _ => ⟨_, rfl, command_keeps s (overrideToday_keeps dayClass)⟩
  | .specialDayAdd date, _ => ⟨_, rfl, command_keeps s (specialDayAdd_keeps date)⟩
  | .specialDayRemove date, _ => ⟨_, rfl, command_keeps s (specialDayRemove_keeps date)⟩
  | .pendingBegin key date minute, _ => ⟨_, rfl, command_keeps s (pendingBegin_keeps _ date minute)⟩
  | .pendingZone key args, _ => ⟨_, rfl, command_keeps s (pendingZone_keeps _ args)⟩
  | .setGuard key side span complement mode, _ =>
    ⟨_, rfl, command_keeps s (setGuard_keeps _ side span complement mode)⟩
  | .permitInsert args, _ => ⟨_, rfl, command_keeps s (permitInsert_keeps args)⟩
  | .permitUpdate args, _ => ⟨_, rfl, command_keeps s (permitUpdate_keeps args)⟩
  | .permitDelete number, _ => ⟨_, rfl, command_keeps s (permitDelete_keeps number)⟩
  | .permitRead number, _ => ⟨_, rfl, command_keeps s (permitRead_keeps number)⟩
  | .registerMachine args, _ => ⟨_, rfl, command_keeps s (registerMachine_keeps args)⟩
  | .deregisterMachine machine, _ => ⟨_, rfl, command_keeps s (deregisterMachine_keeps machine)⟩
  | .readMachine machine, _ => ⟨_, rfl, command_keeps s (readMachine_keeps machine)⟩
  | .clearCardTotals machine, _ => ⟨_, rfl, command_keeps s (clearCardTotals_keeps machine)⟩
  | .roundSkip machine, _ => ⟨_, rfl, command_keeps s (roundSkip_keeps .cabinet machine)⟩
  | .setSlotEnable line enables, _ => ⟨_, rfl, command_keeps s (setSlotEnable_keeps line enables)⟩
  | .setDenominations values, _ => ⟨_, rfl, command_keeps s (setDenominations_keeps values)⟩
  | .setTimers args, _ => ⟨_, rfl, command_keeps s (setTimers_keeps args)⟩
  | .setFlag machine flag, _ => ⟨_, rfl, command_keeps s (changeFlag_keeps .cabinet machine flag true)⟩
  | .clearFlag machine flag, _ => ⟨_, rfl, command_keeps s (changeFlag_keeps .cabinet machine flag false)⟩
  | .ackFault machine kind, _ => ⟨_, rfl, command_keeps s (ackFault_keeps .cabinet machine kind)⟩
  | .roundOpen machines, _ => ⟨_, rfl, command_keeps s (roundOpenCabinet_keeps machines)⟩
  | .roundClose argument, _ => by
    refine ⟨_, rfl, command_keeps s fun t => ?_⟩
    split
    · exact roundClose_keeps .cabinet t
    · exact .of_same rfl
  | .roundCloseForced, _ => ⟨_, rfl, command_keeps s (roundCloseForced_keeps .cabinet)⟩
  | .roundPortCharacter key char, _ => ⟨_, rfl, portCharacter_keeps _ _ s⟩
  | .tallyReadout key ended, _ => ⟨_, rfl, portCommand_keeps .t key ended s⟩
  | .faultReadout key ended, _ => ⟨_, rfl, portCommand_keeps .f key ended s⟩
  | .nextReadoutLine key ended, _ => ⟨_, rfl, portCommand_keeps .n key ended s⟩
  | .roundPortOpen key ended, _ => ⟨_, rfl, portCommand_keeps .o key ended s⟩
  | .roundPortSkip key ended, _ => ⟨_, rfl, portCommand_keeps .s key ended s⟩
  | .roundPortClose key, _ => ⟨_, rfl, portCommand_keeps .c key .carriageReturn s⟩
  | .roundPortForcedClose key, _ => ⟨_, rfl, portCommand_keeps .c key .exclamation s⟩
  | .roundPortAck key ended, _ => ⟨_, rfl, portCommand_keeps .a key ended s⟩
  | .roundPortSetFlag key ended, _ => ⟨_, rfl, portCommand_keeps .p key ended s⟩
  | .roundPortClearFlag key ended, _ => ⟨_, rfl, portCommand_keeps .u key ended s⟩
  | .powerFailWarning, _ => ⟨_, rfl, powerFailWarning_keeps s⟩
  | .enterParked, _ => ⟨_, rfl, .of_same (summary_ite_of_same _ (enterParkedNow_summary s))⟩
  | .warningWithdrawn, _ => ⟨_, rfl, warningWithdrawn_keeps s⟩
  | .orderlyRestartStart, _ => by
    refine ⟨_, rfl, ?_⟩
    split
    · exact .of_deaf rfl
    · exact .of_same rfl
  | .powerOn batteryKept, _ => ⟨_, rfl, powerOn_keeps batteryKept s⟩
  | .resetAsserted, _ => ⟨_, rfl, resetAsserted_keeps s⟩
  | .resetReleased, _ => ⟨_, rfl, resetReleased_keeps s⟩
  | .startUpCompletion, _ => ⟨_, rfl, startUpCompletion_keeps s⟩
  | .powerLoss, _ => ⟨_, rfl, .of_deaf rfl⟩

/-- Settles O46: the read by `readSummary_ready`, the raise by `raiseFault_summary` and what it adds to a summary, and
that nothing else takes anything out by `exec_keeps_summary`. -/
theorem readSummaryReturnsEveryRaiseOnce : Obligations.ReadSummaryReturnsEveryRaiseOnce := by
  refine ⟨?read, ?raised, ?kept, ?empty⟩
  case read => exact fun s h => readSummary_ready h
  case raised =>
    intro s n k a hm
    have hfull : (raiseFault n k { s with notices := a }).summary = s.summary.add n k := raiseFault_summary hm
    rw [hfull, raiseFault_summary hm]
    exact ⟨rfl, fun _ => mem_insertNumber, fun _ => mem_insertNumber, Severity.join_spec s.summary.highest k.severity⟩
  case kept =>
    intro c s t hexec hlistens hread
    obtain ⟨t', hnext, hkeeps⟩ := exec_keeps_summary s c hread
    obtain rfl : t' = t := Host.Outcome.next.inj (hnext.symm.trans hexec)
    obtain ⟨hmachines, hkinds, hhighest⟩ := hkeeps.within hlistens
    exact ⟨hmachines, hkinds, hhighest⟩
  case empty => decide

end Sys2Proof.Machine

/-! PROOFS. Characters typed at the round port (09 R168, R169): a digit and a comma in Entering, a string of digits, and
a command whose argument is out of range at its execution. -/

namespace Sys2Proof.Machine

/-! ## A character in Entering -/

@[simp] theorem portQuiet_state (x : PortState) (s : State) : (portQuiet x s).roundPort.state = x := rfl

@[simp] theorem portQuiet_portQuiet (x y : PortState) (s : State) : portQuiet x (portQuiet y s) = portQuiet x s := rfl

theorem portQuiet_of_state {x : PortState} {s : State} (h : s.roundPort.state = x) : portQuiet x s = s := by
  subst h
  rfl

theorem exec_roundPortCharacter (key : KeyInput) (char : PortChar) (s : State) :
    exec (.roundPortCharacter key char) s = .next (portCharacter (readKey key) (PortChar.kind char) s) := rfl

theorem portCharacter_entering {s : State} {l : Letter} {first second : Option Nat} {comma : Bool} (key : KeyPosition)
    (c : CharKind) (hs : s.roundPort.state = .entering l first second comma) (hl : s.power.listens = true) :
    portCharacter key c s = charInEntering key l first second comma c s := by
  simp [portCharacter, hl, hs]

theorem portCharacter_digit_first {s : State} {l : Letter} {first second : Option Nat} (key : KeyPosition) (d : Nat)
    (hs : s.roundPort.state = .entering l first second false) (hl : s.power.listens = true) :
    portCharacter key (.digit d) s = portQuiet (.entering l (addDigit first d) second false) s :=
  portCharacter_entering key (.digit d) hs hl

theorem portCharacter_digit_second {s : State} {l : Letter} {first second : Option Nat} (key : KeyPosition) (d : Nat)
    (hs : s.roundPort.state = .entering l first second true) (hl : s.power.listens = true) :
    portCharacter key (.digit d) s = portQuiet (.entering l first (addDigit second d) true) s :=
  portCharacter_entering key (.digit d) hs hl

theorem portCharacter_first_comma {s : State} {l : Letter} {first second : Option Nat} (key : KeyPosition)
    (hs : s.roundPort.state = .entering l first second false) (hl : s.power.listens = true) :
    portCharacter key .comma s = portQuiet (.entering l first second true) s :=
  portCharacter_entering key .comma hs hl

/-! ## A string of characters -/

@[simp] theorem typeAll_nil (key : KeyInput) (s : State) : typeAll key [] s = s := rfl

@[simp] theorem typeAll_cons (key : KeyInput) (c : Byte) (chars : List Byte) (s : State) :
    typeAll key (c :: chars) s = typeAll key chars (portCharacter (readKey key) (PortChar.kind (.char c)) s) := rfl

theorem typeAll_append (key : KeyInput) (chars more : List Byte) (s : State) :
    typeAll key (chars ++ more) s = typeAll key more (typeAll key chars s) := List.foldl_append

/-- Digits typed before a comma are added to the first argument one after another. -/
theorem typeAll_digits_first {code : Nat → Byte} (hcode : ∀ d ≤ 9, PortChar.kind (.char (code d)) = .digit d)
    (key : KeyInput) {l : Letter} {second : Option Nat} {digits : List Nat} (hdigits : ∀ d ∈ digits, d ≤ 9)
    {s : State} {first : Option Nat} (hs : s.roundPort.state = .entering l first second false)
    (hl : s.power.listens = true) :
    typeAll key (digits.map code) s = portQuiet (.entering l (digits.foldl addDigit first) second false) s := by
  induction digits generalizing s first with
  | nil => exact (portQuiet_of_state hs).symm
  | cons d rest ih =>
    obtain ⟨hd, hrest⟩ := List.forall_mem_cons.mp hdigits
    calc typeAll key ((d :: rest).map code) s
        = typeAll key (rest.map code) (portQuiet (.entering l (addDigit first d) second false) s) := by
          rw [List.map_cons, typeAll_cons, hcode d hd, portCharacter_digit_first _ d hs hl]
      _ = portQuiet (.entering l (rest.foldl addDigit (addDigit first d)) second false) s :=
          ih hrest (portQuiet_state _ s) hl

/-! ## The value of an argument -/

theorem addDigit_none (d : Nat) : addDigit none d = addDigit (some 0) d := rfl

/-- Adding a digit to a number's last six digits gives the last six digits of the number with the digit appended. -/
theorem addDigit_mod (x d : Nat) : addDigit (some (x % 1000000)) d = some ((10 * x + d) % 1000000) := by
  change some ((x % 1000000 * 10 + d) % 1000000) = _
  congr 1
  omega

/-- Digits typed into an argument that is absent leave the last six digits of the number they spell. -/
theorem foldl_addDigit_none {digits : List Nat} (h : digits ≠ []) :
    digits.foldl addDigit none = some (digits.foldl (fun x d => 10 * x + d) 0 % 1000000) := by
  have hzero : digits.foldl addDigit none = digits.foldl addDigit (some (0 % 1000000)) := by
    cases digits with
    | nil => exact absurd rfl h
    | cons d rest => rw [List.foldl_cons, List.foldl_cons, addDigit_none]
  rw [hzero]
  exact List.foldl_hom (fun x => some (x % 1000000)) addDigit_mod

/-- Digits typed after a command letter leave their number's last six digits in the first argument. -/
theorem typeAll_digits {code : Nat → Byte} (hcode : ∀ d ≤ 9, PortChar.kind (.char (code d)) = .digit d)
    (key : KeyInput) {l : Letter} {digits : List Nat} (hne : digits ≠ []) (hdigits : ∀ d ∈ digits, d ≤ 9) {s : State}
    (hs : s.roundPort.state = .entering l none none false) (hl : s.power.listens = true) :
    typeAll key (digits.map code) s =
      portQuiet (.entering l (some (digits.foldl (fun x d => 10 * x + d) 0 % 1000000)) none false) s := by
  rw [typeAll_digits_first hcode key hdigits hs hl, foldl_addDigit_none hne]

theorem typeAll_digits_state {code : Nat → Byte} (hcode : ∀ d ≤ 9, PortChar.kind (.char (code d)) = .digit d)
    (key : KeyInput) {l : Letter} {digits : List Nat} (hne : digits ≠ []) (hdigits : ∀ d ∈ digits, d ≤ 9) {s : State}
    (hs : s.roundPort.state = .entering l none none false) (hl : s.power.listens = true) {n : Nat}
    (hn : digits.foldl (fun x d => 10 * x + d) 0 % 1000000 = n) :
    (typeAll key (digits.map code) s).roundPort.state = .entering l (some n) none false := by
  rw [typeAll_digits hcode key hne hdigits hs hl, portQuiet_state, hn]

/-- A comma and one digit typed after the first argument: the digit is the second. -/
theorem typeAll_comma_digit {comma digit : Byte} {d : Nat} (hd : PortChar.kind (.char digit) = .digit d)
    (hcomma : PortChar.kind (.char comma) = .comma) (key : KeyInput)
    {l : Letter} {first second : Option Nat} {s : State} (hs : s.roundPort.state = .entering l first second false)
    (hl : s.power.listens = true) :
    typeAll key [comma, digit] s = portQuiet (.entering l first (addDigit second d) true) s := by
  rw [typeAll_cons, hcomma, portCharacter_first_comma _ hs hl, typeAll_cons, hd,
    portCharacter_digit_second _ d (portQuiet_state _ s) hl, typeAll_nil, portQuiet_portQuiet]

/-! ## A range checked at execution -/

theorem machineNumber_eq_false_iff {n : Nat} : machineNumber n = false ↔ n = 0 ∨ 999 < n := by
  simp only [machineNumber, Bool.and_eq_false_iff, decide_eq_false_iff_not]
  omega

theorem takeReadout_not_machineNumber (lines : MachineRecord → State → List (List Nat)) {n : Nat} (s : State)
    (h : machineNumber n = false) : takeReadout lines n s = FromPort.roundPort.refuse .badRequest s := if_pos h

/-- The terminator of a command that stands typed executes it. -/
theorem portCommand_typed {s : State} {l : Letter} {first second : Option Nat} (key : KeyInput) (ended : Terminator)
    (h : s.typed l first second) :
    portCommand l key ended s = execute (readKey key) l ended first second s := by
  obtain ⟨hl, comma, hs⟩ := h
  simp [portCommand, hl, hs]

/-- A command but `N` whose key and form are in order goes to its block with the readout held ended. -/
theorem execute_passes {l : Letter} {key : KeyPosition} {ended : Terminator} {first second : Option Nat} (s : State)
    (hn : l ≠ .n) (hkey : l.allowedAt key = true) (hform : l.formSound ended first second = true) :
    execute key l ended first second s =
      passCommand l ended (first.getD 0) (second.getD 0)
        { s with roundPort := { s.roundPort with readout := none } } := by
  simp [execute, hn, hkey, hform]

/-- A T whose argument is no machine number is typed like any other and refused when it is executed. -/
theorem tallyReadout_out_of_range {s : State} {n : Nat} (key : KeyInput) (h : s.typed .t (some n) none)
    (hn : n = 0 ∨ 999 < n) :
    exec (.tallyReadout key .carriageReturn) s = .next (s.refusedAt .roundPort .badRequest) := by
  have hexec : exec (.tallyReadout key .carriageReturn) s = .next (portCommand .t key .carriageReturn s) := rfl
  have hpass := execute_passes (l := .t) (key := readKey key) (ended := .carriageReturn) (first := some n)
    (second := none) s (by decide) rfl rfl
  rw [hexec, portCommand_typed key .carriageReturn h, hpass]
  exact congrArg Host.Outcome.next (takeReadout_not_machineNumber _ _ (machineNumber_eq_false_iff.mpr hn))

/-- Settles O56: a digit by `portCharacter_digit_first` and `portCharacter_digit_second`, a string of digits by
`typeAll_digits`, and the range by `tallyReadout_out_of_range`. -/
theorem argumentsKeepTheLastSixDigits : Obligations.ArgumentsKeepTheLastSixDigits := by
  intro code comma hcode hcomma
  refine ⟨?digit, ?digits, ?examples, ?range⟩
  case digit =>
    intro s key l first second d hd hl
    rw [exec_roundPortCharacter, hcode d hd]
    refine ⟨fun hs => ?_, fun hs => ?_⟩
    · rw [portCharacter_digit_first _ d hs hl]
      rfl
    · rw [portCharacter_digit_second _ d hs hl]
      rfl
  case digits =>
    exact fun s key l digits hne hdigits hl hs => typeAll_digits hcode key hne hdigits hs hl
  case examples =>
    intro s key hl
    refine ⟨fun hs => ⟨?leading, ?seven, ?eight⟩, fun hs => ?twoArguments⟩
    case leading => exact typeAll_digits_state hcode key (by decide) (by decide) hs hl rfl
    case seven => exact typeAll_digits_state hcode key (by decide) (by decide) hs hl rfl
    case eight => exact typeAll_digits_state hcode key (by decide) (by decide) hs hl rfl
    case twoArguments =>
      have hfirst := typeAll_digits hcode key (digits := [0, 5, 2]) (by decide) (by decide) hs hl
      rw [typeAll_append, hfirst, typeAll_comma_digit (hcode 2 (by decide)) hcomma key (portQuiet_state _ s) hl]
      rfl
  case range => exact fun s key n htyped hn => tallyReadout_out_of_range key htyped hn

end Sys2Proof.Machine

/-! PROOFS. What a command is made of: the elementary changes of state, and that every command is a chain of them. An
invariant of the whole machine is then shown once for each elementary change. -/

namespace Sys2Proof.Machine

/-! ## What the elementary changes keep -/

/-- The service state is the one that 06 R119 derives. -/
def MachineRecord.serviceDerived (m : MachineRecord) : Prop := m.service = deriveService m.reg.fitted m.faults m.flags

/-- The slot that a machine holds, with its line (07 R134). -/
def MachineRecord.slot? (m : MachineRecord) : Option (LineId × Nat) := m.link.fields?.map fun f => (f.line, f.slot)

/-- The machine numbers ascend (07 R145). -/
def State.numbersAscend (s : State) : Prop := (s.machines.map MachineRecord.number).Pairwise (· < ·)

/-- The machine numbers of a store directory ascend (07 R145). -/
def directoryAscends (d : List StoredEntry) : Prop := (d.map StoredEntry.machine).Pairwise (· < ·)

/-- A change of machines that keeps their numbers, the rule of their service states, the law of their tallies, and lets
each keep its slot or lose it. -/
structure State.Refits (s : State) (f : MachineRecord → MachineRecord) : Prop where
  number : ∀ m ∈ s.machines, (f m).number = m.number
  service : ∀ m ∈ s.machines, m.serviceDerived → (f m).serviceDerived
  tally : (∀ m ∈ s.machines, m.tally.lawful s.cash.denominations = true) →
    ∀ m ∈ s.machines, (f m).tally.lawful s.cash.denominations = true
  slot : s.numbersAscend → ∀ m ∈ s.machines, (f m).slot? = none ∨ (f m).slot? = m.slot?

/-- The queue of the arbiter: waiting operations have the classes 1 to 6 (08 R153). -/
def StoreControl.classed (c : StoreControl) : Prop := ∀ o ∈ c.queue, 1 ≤ o.cls ∧ o.cls ≤ 6

/-- The arbiter's order (08 R153, R154), which holds also while a completion is taken: then anything may wait. -/
structure StoreControl.Ordered (c : StoreControl) : Prop where
  classed : c.classed
  idle : c.holder = none → c.serving = none
  waiting : c.holder = none → c.freeing = false → ∀ o ∈ c.queue, c.holdBack = true ∧ 4 ≤ o.cls

/-- The backlog, the urgent count and the pointer are in their ranges (08 R160 to R162). -/
structure StoreControl.Counted (c : StoreControl) : Prop where
  backlog : c.backlog ≤ 3
  urgent : c.urgent ≤ 3
  pointer : c.pointer < 8

/-- The parts of the state that the invariants speak of are the same. -/
structure State.Same (s t : State) : Prop where
  pending : t.pending = s.pending
  power : t.power = s.power
  safe : t.safe = s.safe
  counter : t.clock.counter = s.clock.counter
  denominations : t.cash.denominations = s.cash.denominations
  machines : t.machines = s.machines
  timers : t.timers = s.timers
  store : t.store = s.store
  directory : t.nv.directory = s.nv.directory
  notices : t.notices = s.notices

/-- A change of one machine that keeps what the invariants speak of. -/
structure MachineRecord.Same (m m' : MachineRecord) : Prop where
  number : m'.number = m.number
  reg : m'.reg = m.reg
  faults : m'.faults = m.faults
  flags : m'.flags = m.flags
  service : m'.service = m.service
  tally : m'.tally = m.tally
  link : m'.link = m.link

theorem MachineRecord.Same.refl (m : MachineRecord) : m.Same m := ⟨rfl, rfl, rfl, rfl, rfl, rfl, rfl⟩

/-! ## Elementary changes -/

/-- The elementary changes of state that the commands are made of. -/
inductive Change : State → State → Prop
  | plain {s t : State} (h : s.Same t) : Change s t
  | refit {s : State} {f : MachineRecord → MachineRecord} (h : s.Refits f) :
      Change s { s with machines := s.machines.map f }
  | grantSlot {s : State} {n slot : Nat} {line : LineId} {m : MachineRecord} {f : MachineRecord → MachineRecord}
      (hm : s.machine? n = some m) (hf : ∀ x, ∃ y : MachineRecord, x.Same y ∧ f x = { y with link := .active ⟨line, slot, 0⟩ })
      (hfree : m.slot? = some (line, slot) ∨
        1 ≤ slot ∧ slot ≤ 32 ∧ ∀ x ∈ s.machines, x.number ≠ n → x.slot? ≠ some (line, slot)) :
      Change s (s.onMachine n f)
  | register {s : State} {n : Nat} {reg : Registration} (h : s.machine? n = none) :
      Change s { s with machines := insertMachine (freshMachine n reg) s.machines }
  | deregister {s : State} {n : Nat} : Change s { s with machines := s.machines.filter fun x => x.number != n }
  | denominations {s : State} {v : Octet Nat}
      (h : ∀ m ∈ s.machines, ∀ i < 8, 0 < m.tally.counts.get i → v.get i = s.cash.denominations.get i) :
      Change s { s with cash := { s.cash with denominations := v } }
  | array {s : State} {v : NvArray} (h : directoryAscends s.nv.directory → directoryAscends v.directory) :
      Change s { s with nv := v }
  | notify {s : State} {b : List Byte} (h : 3 ≤ b.length) : Change s (notify b s)
  | noticeArea {s : State} {a : NoticeArea} (h : s.notices.sound = true → a.sound = true) :
      Change s (decideOutput { s with notices := a })
  | second {s : State} : Change s (decideOutput (beginCycles (passSecond s)))
  | ask {s : State} {op : StoreOp} (hlow : 1 ≤ op.cls) (hhigh : op.cls ≤ 6) : Change s (ask op s)
  | store {s : State} {c : StoreControl} (hordered : s.store.Ordered → c.Ordered) (hcounted : s.store.Counted → c.Counted)
      (hfreeing : c.freeing = s.store.freeing) : Change s { s with store := c }
  | free {s : State} {c : StoreControl} (hclassed : s.store.Ordered → c.classed)
      (hidle : s.store.Ordered → c.holder = none → c.serving = none) (hcounted : s.store.Counted → c.Counted) :
      Change s (freeArray { s with store := c })
  | power {s : State} {p : PowerState} {b : Bool} (h : b = (p == .parked)) : Change s { s with power := p, safe := b }
  | start {s : State} {cause : StartCause} : Change s (beginStart cause s)

/-- Chains of elementary changes. The completion of an operation takes its work between the end of the operation and the
freeing of the array (08 R153), and the notice output is decided last where timers change (10 R194). -/
inductive Moves : State → State → Prop
  | refl {s : State} : Moves s s
  | change {s t u : State} (h : Moves s t) (h' : Change t u) : Moves s u
  | completion {s t u : State} {x : Holder} (h : Moves s t) (hs : t.store.serving = none) (hh : t.store.holder = some x)
      (h' : Moves { t with store := t.store.ending } u) : Moves s (freeArray u)
  | retimed {s t u : State} {timers : Timers} (h : Moves s t) (h' : Moves { t with timers := timers } u) :
      Moves s (decideOutput u)

/-- An invariant is kept by every chain, once it is kept by the elementary changes, by a completion whose work keeps it,
and by a change of the timers whose work keeps it. -/
theorem Moves.keep {I : State → Prop} (change : ∀ s t, Change s t → I s → I t)
    (completion : ∀ s t x, s.store.serving = none → s.store.holder = some x →
      (I { s with store := s.store.ending } → I t) → I s → I (freeArray t))
    (retimed : ∀ (s t : State) (timers : Timers), (I { s with timers := timers } → I t) → I s → I (decideOutput t))
    {s t : State} (h : Moves s t) (hs : I s) : I t := by
  induction h with
  | refl => exact hs
  | change _ h' ih => exact change _ _ h' (ih hs)
  | completion _ hsv hh _ ih ih' => exact completion _ _ _ hsv hh ih' (ih hs)
  | retimed _ _ ih ih' => exact retimed _ _ _ ih' (ih hs)

theorem Moves.trans {s t u : State} (h : Moves s t) (h' : Moves t u) : Moves s u := by
  induction h' with
  | refl => exact h
  | change _ h' ih => exact .change (ih h) h'
  | completion _ hsv hh h' ih _ => exact .completion (ih h) hsv hh h'
  | retimed _ h' ih _ => exact .retimed (ih h) h'

/-- The state that a start-up works on: everything loaded, classes 4 to 6 held back, RestartComplete written (11 R200). -/
def loaded (cause : StartCause) (s : State) : State :=
  let s := (loadAll s).onStore fun c => { c with holdBack := true }
  notify
    (restartCompleteNotice cause s.clock.time.isSome s.clock.battery s.frozenLatch s.machines.length s.heldCount
      s.nv.unfetched)
    s

/-! ## Chains by what they change -/

theorem Moves.plain {s t u : State} (h : Moves s t) (hp : t.Same u) : Moves s u := h.change (.plain hp)

theorem Moves.ite {s t u : State} {c : Prop} [Decidable c] (h : Moves s t) (h' : Moves s u) :
    Moves s (if c then t else u) := by
  split
  · exact h
  · exact h'

/-- A change that keeps all that the invariants speak of is a refit. -/
theorem State.Refits.of_same {s : State} {f : MachineRecord → MachineRecord} (h : ∀ m : MachineRecord, m.Same (f m)) : s.Refits f where
  number m _ := (h m).number
  service m _ hd := by
    obtain ⟨-, hr, hf, hg, hsv, -, -⟩ := h m
    rw [MachineRecord.serviceDerived, hr, hf, hg, hsv]
    exact hd
  tally ht m hm := by rw [(h m).tally]; exact ht m hm
  slot _ m _ := .inr (by rw [MachineRecord.slot?, (h m).link]; rfl)

theorem onMachine_eq (n : Nat) (f : MachineRecord → MachineRecord) (s : State) :
    s.onMachine n f = { s with machines := s.machines.map fun m => if m.number = n then f m else m } := rfl

/-- A change of one machine that keeps all that the invariants speak of. -/
theorem Moves.onMachine {s t : State} {n : Nat} {f : MachineRecord → MachineRecord} (h : Moves s t)
    (hf : ∀ m : MachineRecord, m.Same (f m)) : Moves s (t.onMachine n f) := by
  refine h.change (.refit (.of_same fun m => ?_))
  split
  · exact hf m
  · exact .refl m

end Sys2Proof.Machine

/-! PROOFS. The operations that the meanings share, as chains of elementary changes. -/

namespace Sys2Proof.Machine

variable {s t : State}

/-! ## Machines, lines and notices -/

/-- A change of one machine that derives its service state afresh. -/
theorem Moves.onMachineDerived {n : Nat} {f : MachineRecord → MachineRecord} (h : Moves s t)
    (hnumber : ∀ m, (f m).number = m.number) (hservice : ∀ m, (f m).serviceDerived) (htally : ∀ m, (f m).tally = m.tally)
    (hlink : ∀ m, (f m).link = m.link) : Moves s (t.onMachine n f) := by
  refine h.change (.refit ⟨fun m _ => ?_, fun m _ hd => ?_, fun ht m hm => ?_, fun _ m _ => .inr ?_⟩)
  · split
    · exact hnumber m
    · rfl
  · split
    · exact hservice m
    · exact hd
  · split
    · rw [htally m]; exact ht m hm
    · exact ht m hm
  · split
    · rw [MachineRecord.slot?, hlink m]; rfl
    · rfl

theorem Moves.withEntry {n : Nat} {k : FaultKind} {e : FaultEntry} (h : Moves s t) :
    Moves s (t.onMachine n fun m => m.withEntry k e) :=
  h.onMachineDerived (fun _ => rfl) (fun _ => rfl) (fun _ => rfl) (fun _ => rfl)

/-- A change of tallies alone is a refit where it keeps their law. -/
theorem State.Refits.of_tally {f : MachineRecord → MachineRecord}
    (hf : ∀ m : MachineRecord, m.Same { f m with tally := m.tally })
    (htally : (∀ m ∈ s.machines, m.tally.lawful s.cash.denominations = true) →
      ∀ m ∈ s.machines, (f m).tally.lawful s.cash.denominations = true) : s.Refits f where
  number m _ := (hf m).number
  service m _ hd := by
    obtain ⟨-, hr, hfa, hg, hsv, -, -⟩ := hf m
    simp only at hr hfa hg hsv
    rw [MachineRecord.serviceDerived, hr, hfa, hg, hsv]
    exact hd
  tally := htally
  slot _ m _ := .inr (by rw [MachineRecord.slot?, show (f m).link = m.link from (hf m).link]; rfl)

/-- A change of links alone is a refit where it keeps the slots or frees them. -/
theorem State.Refits.of_link {f : MachineRecord → MachineRecord}
    (hf : ∀ m : MachineRecord, m.Same { f m with link := m.link })
    (hlink : s.numbersAscend → ∀ m ∈ s.machines, (f m).slot? = none ∨ (f m).slot? = m.slot?) : s.Refits f where
  number m _ := (hf m).number
  service m _ hd := by
    obtain ⟨-, hr, hfa, hg, hsv, -, -⟩ := hf m
    simp only at hr hfa hg hsv
    rw [MachineRecord.serviceDerived, hr, hfa, hg, hsv]
    exact hd
  tally ht m hm := by rw [show (f m).tally = m.tally from (hf m).tally]; exact ht m hm
  slot := hlink

/-- A machine's tally replaced by one that keeps the law where the machines' tallies do. -/
theorem Moves.onMachineTally {n : Nat} {f : MachineRecord → MachineRecord} (h : Moves s t)
    (hf : ∀ m : MachineRecord, m.Same { f m with tally := m.tally })
    (htally : (∀ m ∈ t.machines, m.tally.lawful t.cash.denominations = true) →
      ∀ m ∈ t.machines, m.number = n → (f m).tally.lawful t.cash.denominations = true) :
    Moves s (t.onMachine n f) := by
  refine h.change (.refit (.of_tally (fun m => ?_) fun ht m hm => ?_))
  · split
    · exact hf m
    · exact .refl m
  · split
    next hn => exact htally ht m hm hn
    · exact ht m hm

/-- A machine's link replaced by one that holds the same slot, or none. -/
theorem Moves.onMachineLink {n : Nat} {f : MachineRecord → MachineRecord} (h : Moves s t)
    (hf : ∀ m : MachineRecord, m.Same { f m with link := m.link })
    (hlink : t.numbersAscend → ∀ m ∈ t.machines, m.number = n → (f m).slot? = none ∨ (f m).slot? = m.slot?) :
    Moves s (t.onMachine n f) := by
  refine h.change (.refit (.of_link (fun m => ?_) fun ha m hm => ?_))
  · split
    · exact hf m
    · exact .refl m
  · split
    next hn => exact hlink ha m hm hn
    · exact .inr rfl

theorem Moves.onLine {line : LineId} {f : LineState → LineState} (h : Moves s t) : Moves s (t.onLine line f) := by
  cases line <;> exact h.plain (by constructor <;> rfl)

theorem Moves.setHeard (line : LineId) (x : Heard) (h : Moves s t) : Moves s (setHeard line x t) := h.onLine

theorem Moves.sendLine (line : LineId) (x : LineSent) (h : Moves s t) : Moves s (sendLine line x t) := h.onLine

theorem Moves.passPhase (line : LineId) (h : Moves s t) : Moves s (passPhase line t) := h.onLine

/-- A notice with contents is at least 3 bytes long. -/
theorem three_le_length_noticeBytes {kind : Nat} {contents : List Byte} (h : contents ≠ []) :
    3 ≤ (noticeBytes kind contents).length := by
  have := List.length_pos_iff.mpr h
  simp only [noticeBytes, byte1, List.length_append, List.length_cons, List.length_nil]
  omega

theorem Moves.notify {kind : Nat} {contents : List Byte} (h : Moves s t) (hc : contents ≠ []) :
    Moves s (notify (noticeBytes kind contents) t) := h.change (.notify (three_le_length_noticeBytes hc))

/-! ## Faults -/

theorem Moves.raiseFault (n : Nat) (k : FaultKind) (h : Moves s t) : Moves s (raiseFault n k t) := by
  unfold Machine.raiseFault
  split
  · exact h
  · exact ((h.withEntry).plain (u := { t.onMachine n _ with summary := _ }) (by constructor <;> rfl)).notify
      (by simp [byte2])

theorem Moves.raiseInactive (n : Nat) (k : FaultKind) (h : Moves s t) : Moves s (raiseInactive n k t) := by
  unfold Machine.raiseInactive
  split
  · exact h
  · exact h.ite (h.raiseFault n k)

theorem Moves.clearFault (n : Nat) (k : FaultKind) (c : ClearCause) (h : Moves s t) : Moves s (clearFault n k c t) := by
  unfold Machine.clearFault
  split
  · exact h
  · dsimp only
    split
    · exact h.withEntry.notify (by simp [byte2])
    · exact h

theorem Moves.statusReport (n : Nat) (listed : List Nat) (h : Moves s t) : Moves s (statusReport n listed t) := by
  unfold Machine.statusReport
  induction machineKinds generalizing t with
  | nil => exact h
  | cons k rest ih => exact ih ((h.raiseInactive n k).ite (h.clearFault n k .report))

/-! ## Replies, slots and quotes -/

theorem Moves.giveReply (n id : Nat) (a : Answer) (h : Moves s t) : Moves s (giveReply n id a t) := by
  refine h.onMachine fun m => ?_
  split
  · split
    · constructor <;> rfl
    · exact .refl m
  · exact .refl m

theorem Moves.releaseSlot (n : Nat) (h : Moves s t) : Moves s (releaseSlot n t) :=
  h.onMachineLink (fun _ => by constructor <;> rfl) fun _ _ _ _ => .inl rfl

theorem Moves.reopenQuote (n : Nat) (q : OpenQuote) (h : Moves s t) : Moves s (reopenQuote n q t) :=
  h.ite (h.onMachine fun _ => by constructor <;> rfl)

theorem Moves.refuseReopened (n id : Nat) (q : OpenQuote) (c : Code) (h : Moves s t) :
    Moves s (refuseReopened n id q c t) := (h.reopenQuote n q).giveReply n id c.plain

/-! ## The arbiter -/

theorem Moves.ask {op : StoreOp} (h : Moves s t) (hlow : 1 ≤ op.cls := by simp) (hhigh : op.cls ≤ 6 := by simp) :
    Moves s (ask op t) := h.change (.ask hlow hhigh)

theorem Moves.keepReturn (r : Return) (h : Moves s t) : Moves s (keepReturn r t) :=
  h.plain (by constructor <;> rfl)

theorem Moves.askTable (w : TableWrite) (r : Requester) (h : Moves s t) : Moves s (askTable w r t) := h.ask

/-- A change of the store controller that leaves the queue, who holds the array, who is served and the hold-back. -/
theorem Moves.onStore {f : StoreControl → StoreControl} (h : Moves s t)
    (hqueue : (f t.store).queue = t.store.queue) (hholder : (f t.store).holder = t.store.holder)
    (hserving : (f t.store).serving = t.store.serving) (hfreeing : (f t.store).freeing = t.store.freeing)
    (hholdBack : (f t.store).holdBack = t.store.holdBack) (hcounted : t.store.Counted → (f t.store).Counted) :
    Moves s (t.onStore f) := by
  refine h.change (.store (fun ho => ⟨fun o hm => ?_, fun hn => ?_, fun hn hf o hm => ?_⟩) hcounted hfreeing)
  · exact ho.classed o (hqueue ▸ hm)
  · rw [hserving]; exact ho.idle (hholder ▸ hn)
  · rw [hholdBack]; exact ho.waiting (hholder ▸ hn) (hfreeing ▸ hf) o (hqueue ▸ hm)

theorem Moves.askCheckpoint (g cls : Nat) (h : Moves s t) (hlow : 1 ≤ cls := by simp) (hhigh : cls ≤ 6 := by simp) :
    Moves s (askCheckpoint g cls t) := h.ask (op := ⟨.checkpoint g, cls, .nobody⟩) hlow hhigh

theorem Moves.askFlushCheckpoint (g : Nat) (h : Moves s t) : Moves s (askFlushCheckpoint g t) := h.ask

theorem Moves.markDirty (g : Nat) (h : Moves s t) : Moves s (markDirty g t) := by
  have hm : Moves s (t.onStore fun c => { c with dirty := c.dirty.set g true }) :=
    h.onStore rfl rfl rfl rfl rfl fun hc => ⟨hc.backlog, hc.urgent, hc.pointer⟩
  exact (hm.askFlushCheckpoint g).ite hm

theorem Moves.markMachineDirty (n : Nat) (h : Moves s t) : Moves s (markMachineDirty n t) := by
  unfold Machine.markMachineDirty
  split
  · exact h.markDirty _
  · exact h

/-- An operation taken out of a queue stood in it, and what is left stood in it too. -/
theorem mem_of_takeFirst {p : StoreOp → Bool} {q rest : List StoreOp} {x : StoreOp}
    (h : takeFirst p q = some (x, rest)) : x ∈ q ∧ ∀ o ∈ rest, o ∈ q := by
  induction q generalizing x rest with
  | nil => simp [takeFirst] at h
  | cons y ys ih =>
    rw [takeFirst] at h
    split at h
    · obtain ⟨rfl, rfl⟩ := by simpa using h
      exact ⟨List.mem_cons_self, fun o ho => List.mem_cons_of_mem _ ho⟩
    · split at h
      next z r hz =>
        obtain ⟨rfl, rfl⟩ := by simpa using h
        obtain ⟨hx, hr⟩ := ih hz
        refine ⟨List.mem_cons_of_mem _ hx, fun o ho => ?_⟩
        rcases List.mem_cons.mp ho with rfl | ho
        · exact List.mem_cons_self
        · exact List.mem_cons_of_mem _ (hr o ho)
      · simp at h

/-- The end of a served read, where one is served. -/
theorem Moves.endServing {r : StoreOp} (h : Moves s t) (hs : t.store.serving = some r) : Moves s (endServing t) := by
  have hidle : t.store.Ordered → t.store.holder ≠ none := fun ho hn => by simpa [hs] using ho.idle hn
  unfold Machine.endServing
  dsimp only
  split
  next r' rest hnext =>
    refine h.change (.store (fun ho => ⟨fun o hm => ?_, fun hn => absurd hn (hidle ho), fun hn => absurd hn (hidle ho)⟩)
      (fun hc => ⟨hc.backlog, hc.urgent, hc.pointer⟩) rfl)
    refine ho.classed o ?_
    split at hnext
    · split at hnext
      · exact (mem_of_takeFirst hnext).2 o hm
      · simp at hnext
    · simp at hnext
  · exact h.change (.store (fun ho => ⟨ho.classed, fun hn => absurd hn (hidle ho), fun hn => absurd hn (hidle ho)⟩)
      (fun hc => ⟨hc.backlog, hc.urgent, hc.pointer⟩) rfl)

/-! ## The bulk-load hold and the backlog -/

/-- Marking the lookups in flight changes no class of an operation. -/
theorem StoreOp.unverify_cls (o : StoreOp) : o.unverify.cls = o.cls := by
  unfold StoreOp.unverify
  split <;> rfl

theorem Moves.tryGrantHold (h : Moves s t) : Moves s (tryGrantHold t) := by
  unfold Machine.tryGrantHold
  split
  · have hgranted : Moves s { t with
        permits := { t.permits with hold := .granted, holdStart := some t.clock.counter } } :=
      h.plain (by constructor <;> rfl)
    refine Moves.notify (hgranted.change (.store (fun ho => ⟨?_, ?_, ?_⟩) (fun hc => ⟨hc.backlog, hc.urgent, hc.pointer⟩) rfl))
      (by simp [flagByte, byte1])
    · intro o hm
      obtain ⟨o', hm', rfl⟩ := List.mem_map.mp hm
      rw [o'.unverify_cls]
      exact ho.classed o' hm'
    · intro hn
      simpa [unverifyLookups] using ho.idle (by simpa [unverifyLookups] using hn)
    · intro hn hf o hm
      obtain ⟨o', hm', rfl⟩ := List.mem_map.mp hm
      rw [o'.unverify_cls]
      exact ho.waiting (by simpa [unverifyLookups] using hn) hf o' hm'
  · exact h

theorem Moves.askReturns (rs : List Return) (h : Moves s t) : Moves s (askReturns rs t) := by
  induction rs generalizing t with
  | nil => exact h
  | cons r rest ih => exact ih h.ask

theorem Moves.endHold (h : Moves s t) : Moves s (endHold t) :=
  Moves.askReturns t.permits.waitingReturns (t := { t with permits := ⟨.free, none, []⟩ })
    (h.plain (by constructor <;> rfl))

theorem Moves.timeOutHold (h : Moves s t) : Moves s (timeOutHold t) :=
  (h.endHold.notify (by simp [byte1])).ite h

theorem Moves.setBacklog {v : Nat} (h : Moves s t) (hv : t.store.Counted → v ≤ 3) : Moves s (setBacklog v t) := by
  have hset : Moves s (t.onStore fun c => { c with backlog := v }) :=
    h.onStore rfl rfl rfl rfl rfl fun hc => ⟨hv hc, hc.urgent, hc.pointer⟩
  unfold Machine.setBacklog
  dsimp only
  refine .ite ?_ (.ite ?_ hset)
  · unfold interruptHold
    refine .ite ?_ hset
    exact Moves.notify (hset.plain (by constructor <;> rfl)) (by simp)
  · unfold resumeHold
    refine .ite ?_ hset.tryGrantHold
    exact Moves.notify (hset.plain (by constructor <;> rfl)) (by simp [flagByte, byte1])

/-! ## What settles after an event -/

theorem Moves.askTrickle (h : Moves s t) : Moves s (askTrickle t) := by
  unfold Machine.askTrickle
  split
  · split
    · exact h.askCheckpoint _ 6
    · exact h
  · exact h

theorem Moves.endFlush (h : Moves s t) : Moves s (endFlush t) :=
  (h.onStore rfl rfl rfl rfl rfl fun hc => ⟨hc.backlog, hc.urgent, hc.pointer⟩).ite h

theorem Moves.enterParkedNow (h : Moves s t) : Moves s (enterParkedNow t) :=
  (h.change (.power rfl)).plain (t := { t with power := .parked, safe := true }) (by constructor <;> rfl)

theorem Moves.start {cause : StartCause} (h : Moves s t) : Moves s (beginStart cause t) := h.change .start

theorem Moves.settle (h : Moves s t) : Moves s (settle t) := by
  have ht := h.askTrickle.endFlush
  unfold Machine.settle parkOrRestart
  exact ht.start.ite (ht.enterParkedNow.ite ht)

/-- A completion is a chain where the work of its operation is one. -/
theorem Moves.onCompletion {awaited : StoreWork → Bool} {effect : Holder → State → State} (h : Moves s t)
    (heffect : ∀ (x : Holder) {s t : State}, Moves s t → Moves s (effect x t)) :
    Moves s (onCompletion awaited effect t) := by
  unfold Machine.onCompletion
  split
  next r hs => exact .ite (heffect _ (h.endServing hs)).settle h
  next hs =>
    split
    next x hh =>
      refine .ite (Moves.settle ?_) h
      exact h.completion hs hh (heffect x .refl).tryGrantHold
    · exact h

/-! ## The two ports -/

theorem Moves.answer (a : Answer) (h : Moves s t) : Moves s (answer a t) := h.plain (by constructor <;> rfl)

theorem Moves.refuse (c : Code) (h : Moves s t) : Moves s (refuse c t) := h.plain (by constructor <;> rfl)

theorem Moves.answerPending (h : Moves s t) : Moves s (answerPending t) := h.plain (by constructor <;> rfl)

theorem Moves.transaction {body : State → State} (h : Moves s t) (hbody : ∀ {s t}, Moves s t → Moves s (body t)) :
    Moves s (transaction body t) :=
  .ite (hbody (h.plain (by constructor <;> rfl))) (h.plain (by constructor <;> rfl))

theorem Moves.command {body : State → State} (h : Moves s t) (hbody : ∀ {s t}, Moves s t → Moves s (body t)) :
    Moves s (command body t) :=
  h.transaction fun h => .ite (h.refuse .busy) (hbody (h.plain (by constructor <;> rfl)))

theorem Moves.portReply (out : List PortSent) (h : Moves s t) : Moves s (portReply out t) :=
  h.plain (by constructor <;> rfl)

theorem Moves.releaseReply (h : Moves s t) : Moves s (releaseReply t) := by
  unfold Machine.releaseReply
  split
  · exact h.portReply _
  · exact h

theorem Moves.finish (r : Requester) (a : Answer) (h : Moves s t) : Moves s (finish r a t) := by
  cases r with
  | nobody => exact h
  | flush => exact h
  | cabinet => exact h.plain (by constructor <;> rfl)
  | roundPort => exact h.releaseReply

theorem Moves.await (p : FromPort) (line : List Nat) (h : Moves s t) : Moves s (p.await line t) := by
  cases p <;> exact h.plain (by constructor <;> rfl)

theorem Moves.reply (p : FromPort) (line : List Nat) (h : Moves s t) : Moves s (p.reply line t) := by
  cases p <;> exact h.plain (by constructor <;> rfl)

theorem Moves.portRefuse (p : FromPort) (c : Code) (h : Moves s t) : Moves s (p.refuse c t) := by
  cases p <;> exact h.plain (by constructor <;> rfl)

/-- A change of the array that leaves its directory. -/
theorem Moves.onArray {f : NvArray → NvArray} (h : Moves s t) (hf : (f t.nv).directory = t.nv.directory) :
    Moves s (t.onArray f) := h.change (.array (by rw [hf]; exact id))

theorem Moves.stampWrite (h : Moves s t) : Moves s (stampWrite t) := h.change (.array id)

end Sys2Proof.Machine

/-! PROOFS. The commands of the tariffs, quotes, permits, sales, faults and rounds, and of the clock and the two ports, as
chains of elementary changes. -/

namespace Sys2Proof.Machine

variable {s t : State}

/-! ## Tariffs and the clock (01) -/

theorem Moves.activate (p : PendingSet) (h : Moves s t) : Moves s (activate p t) := by
  refine Moves.askTable _ _ (Moves.notify (h.plain (by constructor <;> rfl)) (by simp [byte1]))

theorem Moves.abandon (p : PendingSet) (h : Moves s t) : Moves s (abandon p t) :=
  Moves.askTable _ _ (Moves.notify (h.plain (by constructor <;> rfl)) (by simp [byte1, byte2]))

theorem Moves.activationCheck (h : Moves s t) : Moves s (activationCheck t) := by
  unfold Machine.activationCheck
  split
  · exact .ite (.ite (h.activate _) (h.abandon _)) h
  · exact h

theorem Moves.pruneDays (h : Moves s t) : Moves s (pruneDays t) := by
  unfold Machine.pruneDays
  split
  · exact h
  · exact .ite h (Moves.askTable _ _ (h.plain (by constructor <;> rfl)))

theorem Moves.takeMinuteEvent (h : Moves s t) : Moves s (takeMinuteEvent t) :=
  Moves.activationCheck (h.plain (by constructor <;> rfl))

theorem Moves.takeMidnightEvent (h : Moves s t) : Moves s (takeMidnightEvent t) :=
  Moves.pruneDays (h.plain (by constructor <;> rfl))

theorem Moves.takenTable (w : TableWrite) (h : Moves s t) : Moves s (takenTable w t) :=
  (h.askTable w .cabinet).answerPending.settle

theorem Moves.putPendingSet (p : Option PendingSet) (h : Moves s t) : Moves s (putPendingSet p t) :=
  Moves.takenTable _ (h.plain (by constructor <;> rfl))

theorem Moves.pendingBegin (key : KeyPosition) (date : DateArg) (minute : Nat) (h : Moves s t) :
    Moves s (pendingBegin key date minute t) := by
  unfold Machine.pendingBegin
  split
  · exact h.refuse _
  · exact .ite (h.refuse _) (.ite (h.refuse _) (h.putPendingSet _))

theorem Moves.pendingZone (key : KeyPosition) (a : ZoneArgs) (h : Moves s t) : Moves s (pendingZone key a t) := by
  unfold Machine.pendingZone
  split
  · exact h.refuse _
  · refine .ite (h.refuse _) ?_
    split
    · exact h.refuse _
    · exact h.refuse _
    · exact h.refuse _
    · exact .ite (h.refuse _) (h.putPendingSet _)

theorem Moves.pendingSeal (key : KeyPosition) (h : Moves s t) : Moves s (pendingSeal key t) := by
  unfold Machine.pendingSeal
  split
  · exact h.refuse _
  · refine .ite (h.refuse _) (.ite (h.refuse _) ?_)
    split
    · exact h.refuse _
    · exact .ite (h.refuse _) (.ite (h.refuse _) (h.putPendingSet _))

theorem Moves.pendingCancel (key : KeyPosition) (h : Moves s t) : Moves s (pendingCancel key t) := by
  unfold Machine.pendingCancel
  split
  · exact h.answer _
  · exact .ite (h.refuse _) (h.putPendingSet _)

theorem Moves.setGuard (key : KeyPosition) (side span complement mode : Nat) (h : Moves s t) :
    Moves s (setGuard key side span complement mode t) := by
  unfold Machine.setGuard
  split
  · exact .ite (h.refuse _) (.ite (h.refuse _) (.ite (h.refuse _)
      (Moves.takenTable _ (h.plain (by constructor <;> rfl)))))
  · exact h.refuse _

theorem Moves.putDays (days : List Date) (h : Moves s t) : Moves s (putDays days t) :=
  Moves.takenTable _ (h.plain (by constructor <;> rfl))

theorem Moves.specialDayAdd (date : DateArg) (h : Moves s t) : Moves s (specialDayAdd date t) := by
  unfold Machine.specialDayAdd
  split
  · exact h.refuse _
  · exact .ite (h.answer _) (.ite (h.refuse _) (h.putDays _))

theorem Moves.specialDayRemove (date : DateArg) (h : Moves s t) : Moves s (specialDayRemove date t) := by
  unfold Machine.specialDayRemove
  split
  · exact h.refuse _
  · exact .ite (h.putDays _) (h.refuse _)

theorem Moves.setClock (date : DateArg) (minute second : Nat) (h : Moves s t) :
    Moves s (setClock date minute second t) := by
  unfold Machine.setClock
  split
  · exact h.refuse _
  next d _ =>
    have hset : Moves s (answerDone { t with clock := { t.clock with time := some ⟨d, minute, second⟩ } }) :=
      Moves.answer _ (h.plain (by constructor <;> rfl))
    refine .ite (h.refuse _) (Moves.settle ?_)
    cases t.clock.time with
    | none => exact .ite hset.pruneDays hset.pruneDays.takeMinuteEvent
    | some old =>
      have hdate : Moves s _ := .ite (c := old.date = d) hset hset.takeMidnightEvent
      exact .ite hdate hdate.takeMinuteEvent

theorem Moves.overrideToday (n : Nat) (h : Moves s t) : Moves s (overrideToday n t) := by
  have hset : ∀ c, Moves s (answerDone { t with clock := { t.clock with overrideClass := c } }) := fun c =>
    Moves.answer _ (h.plain (by constructor <;> rfl))
  unfold Machine.overrideToday
  refine .ite (h.refuse _) (.ite (hset _) ?_)
  split
  · exact hset _
  · exact h.refuse _

/-! ## Quotes (02) -/

theorem Moves.openQuote (n id : Nat) (q : QuoteWork) (minutes : Nat) (price : QuotePrice) (expiry : Moment)
    (clamped minApplied : Bool) (stop : StopReason) (h : Moves s t) :
    Moves s (openQuote n id q minutes price expiry clamped minApplied stop t) := by
  unfold Machine.openQuote
  split
  · exact h
  · exact (h.onMachine fun _ => by constructor <;> rfl).giveReply _ _ _

theorem Moves.finishQuote (n id : Nat) (q : QuoteWork) (h : Moves s t) : Moves s (finishQuote n id q t) := by
  unfold Machine.finishQuote
  split
  · exact h.giveReply _ _ _
  · exact h.openQuote ..

theorem Moves.walkUnlessMoved (n id : Nat) (q : QuoteWork) (moved : Bool) (h : Moves s t) :
    Moves s (walkUnlessMoved n id q moved t) := .ite (h.giveReply _ _ _) (h.finishQuote _ _ _)

theorem Moves.takeUnverified (w : LookupWork) (moved : Bool) (h : Moves s t) : Moves s (takeUnverified w moved t) :=
  .ite (h.giveReply _ _ _) (h.walkUnlessMoved _ _ _ _)

theorem Moves.takeLookup (w : LookupWork) (moved : Bool) (h : Moves s t) : Moves s (takeLookup w moved t) := by
  unfold Machine.takeLookup
  dsimp only
  split
  · exact h.giveReply _ _ _
  · exact .ite (h.giveReply _ _ _) (h.walkUnlessMoved _ _ _ _)

theorem Moves.quoteArrival (f : QuoteFrame) (m : MachineRecord) (id : Nat) (h : Moves s t) :
    Moves s (quoteArrival f m id t) := by
  unfold Machine.quoteArrival
  split
  · exact h.giveReply _ _ _
  · split
    · exact h.giveReply _ _ _
    · exact .ite (h.giveReply _ _ _) (.ite (h.finishQuote _ _ _) (.ite (h.takeUnverified _ _) h.ask))

theorem Moves.lookupEffect (x : Holder) (h : Moves s t) : Moves s (lookupEffect x t) := by
  unfold Machine.lookupEffect
  split
  · unfold lookupDone
    split
    · exact h
    · exact .ite (.ite (h.takeUnverified _ _) (h.takeLookup _ _)) h
  · exact h

/-- A machine whose open quote is discarded once its lifetime has run out keeps all that the invariants speak of. -/
theorem expired_same (s : State) (m : MachineRecord) :
    m.Same (match m.openQuote with
      | some q => if s.quoteExpired q then { m with openQuote := none } else m
      | none => m) := by
  split
  · split
    · constructor <;> rfl
    · exact .refl m
  · exact .refl m

theorem Moves.expireQuote (n : Nat) (h : Moves s t) : Moves s (expireQuote n t) := h.onMachine (expired_same t)

theorem Moves.expireQuotes (h : Moves s t) : Moves s (expireQuotes t) := h.change (.refit (.of_same (expired_same t)))

/-! ## Permits and the hold (04) -/

theorem Moves.askForCabinet (work : StoreWork) (cls : Nat) (h : Moves s t) (hlow : 1 ≤ cls := by simp)
    (hhigh : cls ≤ 6 := by simp) : Moves s (askForCabinet work cls t) :=
  (h.ask (op := ⟨work, cls, .cabinet⟩) hlow hhigh).answerPending.settle

theorem Moves.takePermitWrite (work : StoreWork) (h : Moves s t) : Moves s (takePermitWrite work t) :=
  .ite (h.refuse _) (h.askForCabinet work 5)

theorem Moves.permitInsert (a : PermitArgs) (h : Moves s t) : Moves s (permitInsert a t) := by
  unfold Machine.permitInsert
  split
  · exact h.refuse _
  · exact h.takePermitWrite _

theorem Moves.permitUpdate (a : PermitChange) (h : Moves s t) : Moves s (permitUpdate a t) := by
  unfold Machine.permitUpdate
  split
  · exact h.refuse _
  · exact h.takePermitWrite _

theorem Moves.permitDelete (n : Nat) (h : Moves s t) : Moves s (permitDelete n t) :=
  .ite (h.takePermitWrite _) (h.refuse _)

theorem Moves.permitRead (n : Nat) (h : Moves s t) : Moves s (permitRead n t) :=
  .ite (h.askForCabinet _ 3) (h.refuse _)

theorem Moves.storePermits (table : List Permit) (h : Moves s t) : Moves s (storePermits table t) :=
  (h.onArray (f := fun v => { v with permits := table }) rfl).stampWrite

theorem Moves.permitWritten (r : Requester) (checked : Except Code (List Permit)) (h : Moves s t) :
    Moves s (permitWritten r checked t) := by
  unfold Machine.permitWritten
  split
  · exact h.finish _ _
  · exact (h.storePermits _).finish _ _

theorem Moves.permitWriteEffect (x : Holder) (h : Moves s t) : Moves s (permitWriteEffect x t) := by
  unfold Machine.permitWriteEffect
  split
  case h_4 => exact h
  all_goals exact h.permitWritten _ _

theorem Moves.permitReadEffect (x : Holder) (h : Moves s t) : Moves s (permitReadEffect x t) := by
  unfold Machine.permitReadEffect
  split
  · exact h.finish _ _
  · exact h

theorem Moves.returnEffect (x : Holder) (h : Moves s t) : Moves s (returnEffect x t) := by
  unfold Machine.returnEffect
  split
  · exact .ite (h.storePermits _) h
  · exact h

theorem Moves.holdRequest (h : Moves s t) : Moves s (holdRequest t) :=
  .ite (Moves.answer _ (h.plain (by constructor <;> rfl))).tryGrantHold.settle (h.refuse _)

theorem Moves.holdRelease (h : Moves s t) : Moves s (holdRelease t) :=
  .ite (h.refuse _) (h.answer _).endHold.settle

/-! ## Sales (03) -/

theorem Moves.checkBoxFill (n : Nat) (h : Moves s t) : Moves s (checkBoxFill n t) := by
  unfold Machine.checkBoxFill
  split
  · exact h
  next m _ =>
    have hnear : Moves s
        (if m.reg.capacity ≤ m.tally.coins + m.reg.margin then Machine.raiseInactive n .boxNearFull t else t) :=
      .ite (h.raiseInactive n .boxNearFull) h
    exact .ite (hnear.raiseInactive n .boxFull) hnear

theorem Moves.acceptSale (n id token serial : Nat) (gap : Bool) (h : Moves s t) :
    Moves s (acceptSale n id token serial gap t) := by
  have haccepted := (h.giveReply n id (acceptedAnswer token serial)).onMachine (n := n)
    (f := fun m => { m with accepted := ⟨some serial, some token⟩ }) fun _ => by constructor <;> rfl
  exact (haccepted.raiseFault n .tallyGap).ite haccepted

theorem Octet.get_set (o : Octet Nat) {i j : Nat} (v : Nat) (hi : i < 8) (hj : j < 8) :
    (o.set i v).get j = if j = i then v else o.get j := by
  interval_cases i <;> interval_cases j <;> rfl

/-- The value of a table of counts as a sum over the eight indices. -/
theorem coinValue_eq (counts values : Octet Nat) :
    coinValue counts values = ((List.range 8).map fun i => counts.get i * values.get i).sum := by
  simp [coinValue, Octet.zipWith, Octet.sum, List.range, List.range.loop, Octet.get, Nat.add_assoc]

theorem coinValue_set (counts values : Octet Nat) {i : Nat} (hi : i < 8) (n : Nat) :
    coinValue (counts.set i (counts.get i + n)) values = coinValue counts values + n * values.get i := by
  interval_cases i <;> simp only [coinValue, Octet.zipWith, Octet.sum, Octet.set, Octet.get] <;> ring

/-- Coins added to a table of counts add their value (05 R83). -/
theorem coinValue_addCoins (values : Octet Nat) (coins : List CoinPair) (hc : ∀ c ∈ coins, c.index ≤ 7)
    (counts : Octet Nat) :
    coinValue (addCoins counts coins) values = coinValue counts values + coinSum values coins := by
  induction coins generalizing counts with
  | nil => rfl
  | cons c rest ih =>
    have hi : c.index < 8 := Nat.lt_succ_of_le (hc c List.mem_cons_self)
    have hrest := ih (fun x hx => hc x (List.mem_cons_of_mem _ hx)) (counts.set c.index (counts.get c.index + c.count))
    rw [addCoins, List.foldl_cons, ← addCoins, hrest, coinValue_set _ _ hi]
    simp only [coinSum, List.map_cons, List.sum_cons]
    ring

/-- A cash sale keeps the law of a tally where its coins are in the range of the denominations. -/
theorem Tally.sold_lawful {a : Tally} {values : Octet Nat} (serial : Nat) {coins : List CoinPair}
    (h : a.lawful values = true) (hc : ∀ c ∈ coins, c.index ≤ 7) : (a.sold values serial coins).lawful values = true := by
  simp only [Tally.lawful, Tally.sold, beq_iff_eq] at h ⊢
  rw [coinValue_addCoins values coins hc, h]
  ring

/-- A coin list that passes the amount check names denominations 0 to 7 (03 R52). -/
theorem amountMatches_index {values : Octet Nat} {q : OpenQuote} {f : SaleFrame} (h : amountMatches values q f = true) :
    ∀ c ∈ f.coins, c.index ≤ 7 := by
  simp only [amountMatches, coinListSound, Bool.and_eq_true, List.all_eq_true, decide_eq_true_eq] at h
  exact fun c hc => (h.1.1.1.2 c hc).1.1

theorem Moves.acceptCash (n id : Nat) (gap : Bool) (f : SaleFrame) (h : Moves s t) (hc : ∀ c ∈ f.coins, c.index ≤ 7) :
    Moves s (acceptCash n id gap f t) := by
  refine (Moves.checkBoxFill n (Moves.acceptSale n id _ _ gap ?_)).markMachineDirty n
  exact h.onMachineTally (fun _ => by constructor <;> rfl) fun ht m hm _ => (ht m hm |> Tally.sold_lawful _) hc

theorem Moves.acceptCard (n id token serial : Nat) (gap : Bool) (q : OpenQuote) (h : Moves s t) :
    Moves s (acceptCard n id token serial gap q t) :=
  (Moves.acceptSale n id token serial gap (h.onMachine fun _ => by constructor <;> rfl)).markMachineDirty n

theorem Moves.askDecrement (n id : Nat) (f : SaleFrame) (gap : Bool) (q : OpenQuote) (h : Moves s t) :
    Moves s (askDecrement n id f gap q t) :=
  .ite (h.refuseReopened _ _ _ _) (Moves.ask (h.onMachine fun _ => by constructor <;> rfl))

theorem Moves.checkClaimed (m : MachineRecord) (id : Nat) (f : SaleFrame) (pay : PayKind) (q : OpenQuote)
    (h : Moves s t) : Moves s (checkClaimed m id f pay q t) := by
  unfold Machine.checkClaimed
  refine .ite (h.giveReply _ _ _) ?_
  split
  · exact h.refuseReopened _ _ _ _
  · refine .ite (h.refuseReopened _ _ _ _) (.ite ?_ (.ite (h.askDecrement _ _ _ _ _) (h.acceptCard _ _ _ _ _ _)))
    split
    next hmatch => exact h.acceptCash _ _ _ _ (amountMatches_index hmatch)
    · exact h.refuseReopened _ _ _ _

theorem Moves.saleArrival (f : SaleFrame) (m : MachineRecord) (id : Nat) (h : Moves s t) :
    Moves s (saleArrival f m id t) := by
  unfold Machine.saleArrival
  dsimp only
  split
  · exact h.giveReply _ _ _
  · refine .ite (h.giveReply _ _ _) (.ite (h.giveReply _ _ _) ?_)
    split
    · exact h.giveReply _ _ _
    · exact .ite (Moves.checkClaimed _ _ _ _ _ (h.onMachine fun _ => by constructor <;> rfl)) (h.giveReply _ _ _)

theorem Moves.askReturn (r : Return) (h : Moves s t) : Moves s (askReturn r t) := .ite (h.keepReturn r) h.ask

theorem Moves.takeDecrement (w : DecrementWork) (c : CommitInFlight) (r : DecrementResult) (h : Moves s t) :
    Moves s (takeDecrement w c r t) := by
  have hended : Moves s (t.onMachine w.machine fun m => { m with commit := none }) :=
    h.onMachine fun _ => by constructor <;> rfl
  unfold Machine.takeDecrement
  cases r with
  | taken => exact .ite (hended.acceptCard _ _ _ _ _ _) ((hended.giveReply _ _ _).askReturn _)
  | refused cause => exact hended.giveReply _ _ _
  | short => exact hended.giveReply _ _ _

theorem Moves.decrementEffect (x : Holder) (h : Moves s t) : Moves s (decrementEffect x t) := by
  unfold Machine.decrementEffect
  split
  next w r _ _ =>
    unfold decrementDone
    have hlowered : Moves s (if r = .taken then Machine.storePermits (lowerBalance w.permit w.minutes t.nv.permits) t else t) :=
      .ite (h.storePermits _) h
    dsimp only
    split
    · exact hlowered.takeDecrement _ _ _
    · exact hlowered
  · exact h

/-! ## Faults and flags (06) -/

theorem Moves.ackFault (p : FromPort) (n kind : Nat) (h : Moves s t) : Moves s (ackFault p n kind t) := by
  unfold Machine.ackFault
  split
  · split
    · exact h.portRefuse p _
    · exact .ite (h.portRefuse p _) (.ite (h.portRefuse p _) ((h.clearFault _ _ _).reply p _).settle)
  · exact h.portRefuse p _

theorem Moves.changeFlag (p : FromPort) (n flag : Nat) (value : Bool) (h : Moves s t) :
    Moves s (changeFlag p n flag value t) := by
  unfold Machine.changeFlag
  split
  · split
    · exact h.portRefuse p _
    · refine .ite (h.reply p _) (Moves.settle (Moves.await p _ (Moves.askTable _ _ ?_)))
      exact h.onMachineDerived (fun _ => rfl) (fun _ => rfl) (fun _ => rfl) (fun _ => rfl)
  · exact h.portRefuse p _

theorem Moves.readSummary (h : Moves s t) : Moves s (readSummary t) := h.plain (by constructor <;> rfl)

/-! ## Rounds (05, section 5.5) -/

theorem Moves.putRound (r : Round) (h : Moves s t) : Moves s (putRound r t) := h.plain (by constructor <;> rfl)

theorem Moves.closeRound (r : Round) (h : Moves s t) : Moves s (closeRound r t) :=
  (h.putRound _).notify (by simp [byte2])

theorem Moves.putChangedRound (r : Round) (h : Moves s t) : Moves s (putChangedRound r t) :=
  .ite (h.closeRound r) (h.putRound r)

theorem Moves.recordRound (p : FromPort) (line : List Nat) (h : Moves s t) : Moves s (recordRound p line t) :=
  (Moves.await p line h.ask).settle

theorem Moves.openRound (p : FromPort) (by_ : OpenedBy) (machines : List Nat) (h : Moves s t) :
    Moves s (openRound p by_ machines t) := (h.putRound _).recordRound p _

theorem Moves.roundOpenCabinet (machines : List Nat) (h : Moves s t) : Moves s (roundOpenCabinet machines t) :=
  .ite (h.refuse _) (.ite (h.refuse _) (h.openRound _ _ _))

theorem Moves.roundOpenPort (h : Moves s t) : Moves s (roundOpenPort t) :=
  .ite (h.portRefuse .roundPort _) (.ite (h.portRefuse .roundPort _) (h.openRound _ _ _))

theorem Moves.roundSkip (p : FromPort) (n : Nat) (h : Moves s t) : Moves s (roundSkip p n t) := by
  unfold Machine.roundSkip
  split
  · exact h.portRefuse p _
  · split
    · exact h.portRefuse p _
    · exact .ite ((h.putChangedRound _).recordRound p _) (h.portRefuse p _)

theorem Moves.endRound (p : FromPort) (r : Round) (h : Moves s t) : Moves s (endRound p r t) :=
  (h.closeRound _).recordRound p _

theorem Moves.roundClose (p : FromPort) (h : Moves s t) : Moves s (roundClose p t) := by
  unfold Machine.roundClose
  split
  · exact h.portRefuse p _
  · exact .ite (h.portRefuse p _) (h.endRound p _)

theorem Moves.roundCloseForced (p : FromPort) (h : Moves s t) : Moves s (roundCloseForced p t) := by
  unfold Machine.roundCloseForced
  split
  · exact h.portRefuse p _
  · exact h.endRound p _

theorem Moves.roundWriteEffect (x : Holder) (h : Moves s t) : Moves s (roundWriteEffect x t) := by
  unfold Machine.roundWriteEffect
  split
  next r _ => exact (Moves.stampWrite (h.onArray (f := fun v => { v with round := r }) rfl)).finish _ _
  · exact h

/-! ## The round port (09) -/

theorem Moves.takeReadout (lines : MachineRecord → State → List (List Nat)) (n : Nat) (h : Moves s t) :
    Moves s (takeReadout lines n t) := by
  unfold Machine.takeReadout
  refine .ite (h.portRefuse .roundPort _) ?_
  split
  · exact h.portRefuse .roundPort _
  · exact h.plain (by constructor <;> rfl)

theorem Moves.nextLine (h : Moves s t) : Moves s (nextLine t) := by
  unfold Machine.nextLine
  split
  · exact h.portRefuse .roundPort _
  · split
    · exact h.portRefuse .roundPort _
    · exact h.plain (by constructor <;> rfl)

theorem Moves.passCommand (l : Letter) (ended : Terminator) (a b : Nat) (h : Moves s t) :
    Moves s (passCommand l ended a b t) := by
  cases l with
  | t => exact h.takeReadout _ _
  | f => exact h.takeReadout (fun m _ => faultLines m) _
  | n => exact h.nextLine
  | o => exact h.roundOpenPort
  | s => exact .ite (h.roundSkip _ _) (h.portRefuse .roundPort _)
  | c => exact .ite (h.roundCloseForced _) (h.roundClose _)
  | a => exact h.ackFault _ _ _
  | p => exact h.changeFlag _ _ _ _
  | u => exact h.changeFlag _ _ _ _

theorem Moves.execute (key : KeyPosition) (l : Letter) (ended : Terminator) (first second : Option Nat)
    (h : Moves s t) : Moves s (execute key l ended first second t) := by
  have hended : Moves s (if l = .n then t else { t with roundPort := { t.roundPort with readout := none } }) :=
    .ite h (h.plain (by constructor <;> rfl))
  exact .ite (hended.portReply _) (.ite (hended.portRefuse .roundPort _) (hended.passCommand _ _ _ _))

theorem Moves.portCommand (l : Letter) (key : KeyInput) (ended : Terminator) (h : Moves s t) :
    Moves s (portCommand l key ended t) := by
  unfold Machine.portCommand
  split
  · exact .ite (h.execute _ _ _ _ _) h
  · exact h

theorem Moves.portSend (x : PortState) (out : List PortSent) (h : Moves s t) : Moves s (portSend x out t) :=
  h.plain (by constructor <;> rfl)

theorem Moves.portQuiet (x : PortState) (h : Moves s t) : Moves s (portQuiet x t) :=
  h.plain (by constructor <;> rfl)

theorem Moves.charInReady (c : CharKind) (h : Moves s t) : Moves s (charInReady c t) := by
  unfold Machine.charInReady
  split
  · exact h.portQuiet _
  · exact h
  · exact h.portSend _ _
  · exact h.portSend _ _
  · exact h.portSend _ _

theorem Moves.charInEntering (key : KeyPosition) (l : Letter) (first second : Option Nat) (comma : Bool) (c : CharKind)
    (h : Moves s t) : Moves s (charInEntering key l first second comma c t) := by
  cases c with
  | digit d => exact .ite (h.portQuiet _) (h.portQuiet _)
  | comma => exact .ite (h.portSend _ _) (h.portQuiet _)
  | terminator e => exact h.execute key l e first second
  | letter l => exact h.portSend _ _
  | space => exact h
  | escape => exact h.portSend _ _
  | other => exact h.portSend _ _

theorem Moves.portCharacter (key : KeyPosition) (c : CharKind) (h : Moves s t) : Moves s (portCharacter key c t) := by
  unfold Machine.portCharacter
  refine .ite h ?_
  split
  · exact h.charInReady c
  · exact h.charInEntering ..
  · split
    · exact h.portSend _ _
    · exact h.portSend _ _
    · exact h
  · exact h

end Sys2Proof.Machine

/-! PROOFS. Box events, joins and the phases of a cycle, checkpoints, timers, the clock and the power states, as chains of
elementary changes; and that every command is such a chain. -/

namespace Sys2Proof.Machine

variable {s t : State}

/-! ## Box events (05, section 5.3) -/

/-- An empty tally keeps the law (05 R83). -/
theorem emptyTally_lawful (values : Octet Nat) : emptyTally.lawful values = true := by
  simp [Tally.lawful, emptyTally, coinValue, Octet.zipWith, Octet.const, Octet.sum]

theorem Moves.takePlace (snap : Snapshot) (h : Moves s t) : Moves s (takePlace snap t).2 :=
  h.plain (by constructor <;> rfl)

theorem Moves.removalRound (n cash : Nat) (h : Moves s t) : Moves s (removalRound n cash t) := by
  unfold Machine.removalRound
  split
  · exact .ite (h.putRound _) (h.raiseFault _ _)
  · exact h.raiseFault _ _

theorem Moves.removalBox (n : Nat) (h : Moves s t) : Moves s (removalBox n t) :=
  (((h.onMachine fun _ => by constructor <;> rfl).raiseFault n .boxOut).clearFault n _ _).clearFault n _ _

theorem Moves.dropOrHold (n : Nat) (snap : Snapshot) (h : Moves s t) : Moves s (dropOrHold n snap t).2 := by
  unfold Machine.dropOrHold
  split
  · dsimp only
    have hrecorded := (h.takePlace snap).onMachine (n := n)
      (f := fun m => { m with removal := .recorded (Machine.takePlace snap t).1.2.number }) fun _ => by constructor <;> rfl
    split
    · exact .ite (hrecorded.putRound _) hrecorded
    · exact hrecorded
  · exact Moves.raiseFault n _ (h.onMachine fun _ => by constructor <;> rfl)

theorem Moves.removeBox (n box : Nat) (h : Moves s t) : Moves s (removeBox n box t).2 := by
  unfold Machine.removeBox
  split
  · exact h
  next m _ =>
    have hemptied : Moves s (t.onMachine n fun m => { m with tally := emptyTally }) :=
      h.onMachineTally (fun _ => by constructor <;> rfl) fun _ _ _ _ => emptyTally_lawful _
    by_cases htakes : (decide (0 < m.tally.cash) && m.heldDrop.isNone) = true
    · simp only [htakes, if_true]
      exact ((hemptied.removalRound n _).removalBox n).dropOrHold n _
    · simp only [htakes]
      exact ((h.removalRound n _).removalBox n).onMachine fun _ => by constructor <;> rfl

theorem Moves.installBox (n box : Nat) (h : Moves s t) : Moves s (installBox n box t) := by
  have hcleared := (h.onMachine (n := n) (f := fun m => { m with box := .installed box })
    fun _ => by constructor <;> rfl).clearFault n .boxOut .inserted
  exact .ite (hcleared.raiseFault n .boxConflict) hcleared

theorem Moves.insertBox (n box : Nat) (h : Moves s t) : Moves s (insertBox n box t) := by
  have hi := h.installBox n box
  unfold Machine.insertBox insertionRound
  split
  · exact .ite (hi.putChangedRound _) hi
  · exact hi

theorem Moves.askBoxWrite (n id : Nat) (e : BoxEffect) (a : Option Answer) (before : State) (h : Moves s t) :
    Moves s (askBoxWrite n id e a before t) := by
  unfold Machine.askBoxWrite
  split
  · exact h
  · exact h.ask

theorem Moves.endBoxEvent (n id : Nat) (e : BoxEffect) (a : Option Answer) (before : State) (h : Moves s t) :
    Moves s (endBoxEvent n id e a before t) :=
  .ite ((h.askBoxWrite n id e a before).markMachineDirty n) (h.askBoxWrite n id e a before)

theorem Moves.repeatRemoval (m : MachineRecord) (id : Nat) (h : Moves s t) : Moves s (repeatRemoval m id t) :=
  Moves.giveReply _ _ _ (.ite (h.plain (by constructor <;> rfl)) h)

theorem Moves.boxRemovedArrival (m : MachineRecord) (id : Nat) (h : Moves s t) :
    Moves s (boxRemovedArrival m id t) := by
  unfold Machine.boxRemovedArrival
  split
  · exact (h.removeBox _ _).endBoxEvent _ _ _ _ _
  · exact h.repeatRemoval m id

theorem Moves.boxInsertedArrival (box : Nat) (m : MachineRecord) (id : Nat) (h : Moves s t) :
    Moves s (boxInsertedArrival box m id t) := by
  unfold Machine.boxInsertedArrival
  split
  · exact .ite (h.giveReply _ _ _) (((h.removeBox _ _).insertBox _ _).endBoxEvent _ _ _ _ _)
  · exact (h.insertBox _ _).endBoxEvent _ _ _ _ _

/-! ## Recovery reconciliation (05, section 5.6) -/

theorem Moves.reconcileBox (n : Nat) (recorded : RecordedBox) (report : Option Nat) (h : Moves s t) :
    Moves s (reconcileBox n recorded report t).2 := by
  cases recorded with
  | installed old =>
    cases report with
    | some box =>
      by_cases hsame : old = box
      · simp only [Machine.reconcileBox, hsame, if_true]
        exact h.installBox n box
      · simp only [Machine.reconcileBox, hsame, if_false]
        exact (h.removeBox n old).insertBox n box
    | none => exact h.removeBox n old
  | out =>
    cases report with
    | some box => exact h.insertBox n box
    | none => exact h.raiseFault n _
  | nothing =>
    cases report with
    | some box => exact h.installBox n box
    | none => exact Moves.raiseFault n _ (h.onMachine fun _ => by constructor <;> rfl)

theorem Tally.raisedTo_lawful {a : Tally} {values : Octet Nat} (cash : Nat) (h : a.lawful values = true) :
    (a.raisedTo cash).lawful values = true := by
  unfold Tally.raisedTo
  split
  next hlt =>
    simp only [Tally.lawful, beq_iff_eq] at h ⊢
    omega
  · exact h

/-- The serial part of a reconciliation keeps the law of the tally (05 R106). -/
theorem reconcileSerial_lawful {a : Accepted} {b : Tally} {serial : Option Nat} {cash : Nat} {values : Octet Nat}
    (h : b.lawful values = true) : (reconcileSerial a b serial cash).2.1.lawful values = true := by
  unfold reconcileSerial
  split
  · dsimp only
    split
    · exact h
    · split
      · exact Tally.raisedTo_lawful cash h
      · exact h
  · exact h
  · exact Tally.raisedTo_lawful cash h
  · exact h

theorem Moves.raiseInactiveIf (c : Prop) [Decidable c] (n : Nat) (k : FaultKind) (h : Moves s t) :
    Moves s (if c then Machine.raiseInactive n k t else t) := .ite (h.raiseInactive n k) h

theorem Moves.raiseRestored (n : Nat) (h : Moves s t) : Moves s (raiseRestored n t) := by
  unfold Machine.raiseRestored
  split
  · exact h
  · exact (((h.raiseInactiveIf _ n _).raiseInactiveIf _ n _).raiseInactiveIf _ n _).raiseInactiveIf _ n _

theorem machine?_mem {s : State} {n : Nat} {m : MachineRecord} (h : s.machine? n = some m) : m ∈ s.machines :=
  List.mem_of_find?_eq_some h

theorem Moves.reconcile (m : MachineRecord) (f : JoinFrame) (h : Moves s t) : Moves s (reconcile m f t) := by
  have hbox := h.reconcileBox m.number m.recorded (JoinFrame.boxReport f)
  unfold Machine.reconcile
  dsimp only
  split
  · exact hbox
  next b hb =>
    have htallied := hbox.onMachineTally (n := m.number)
      (f := fun x =>
        { x with
          accepted := (reconcileSerial b.accepted b.tally (JoinFrame.lastSerial f) f.cash).1
          tally := (reconcileSerial b.accepted b.tally (JoinFrame.lastSerial f) f.cash).2.1
          reconcileDue := false })
      (fun _ => by constructor <;> rfl) fun ht _ _ _ => reconcileSerial_lawful (ht b (machine?_mem hb))
    have hraised := (Moves.ite (c := (reconcileSerial b.accepted b.tally (JoinFrame.lastSerial f) f.cash).2.2 = true)
      (htallied.raiseFault m.number .tallyGap) htallied).raiseRestored m.number
    have hasked := fun e (c : Prop) (d : Decidable c) =>
      Moves.ite (c := c) (hraised.askBoxWrite m.number 0 e none t) hraised
    exact .ite ((hasked _ _ _).markMachineDirty _) (hasked _ _ _)

/-! ## Held drops (05 R96) -/

theorem State.heldClass_range (s : State) : 1 ≤ s.heldClass ∧ s.heldClass ≤ 6 := by
  unfold State.heldClass
  split <;> simp

theorem Moves.numberEntry (n : Nat) (d : DropRecord) (h : Moves s t) : Moves s (numberEntry n d t) := by
  unfold Machine.numberEntry
  split
  · exact h
  · exact .ite (Moves.ask (h.putRound _)) h

theorem Moves.askHeldDrop (r : Requester) (h : Moves s t) : Moves s (askHeldDrop r t) := by
  unfold Machine.askHeldDrop
  split
  · exact h
  next m snap _ =>
    refine .ite ?_ h
    have hasked := ((h.takePlace snap).onMachine (n := m.number)
      (f := fun x =>
        { x with heldAsked := some ((Machine.takePlace snap t).1.1, (Machine.takePlace snap t).1.2.number) })
      fun _ => by constructor <;> rfl).ask
        (op := ⟨.heldWrite ⟨m.number, (Machine.takePlace snap t).1.1, (Machine.takePlace snap t).1.2⟩, t.heldClass, r⟩)
        t.heldClass_range.1 t.heldClass_range.2
    exact hasked.numberEntry _ _

theorem Moves.askHeldDrops (r : Requester) (fuel : Nat) (h : Moves s t) : Moves s (askHeldDrops r fuel t) := by
  induction fuel generalizing t with
  | zero => exact h
  | succ fuel ih => exact ih (h.askHeldDrop r)

/-! ## Completions of box, drop and round writes -/

theorem Moves.recordDrop (d : Option (Nat × DropRecord)) (h : Moves s t) : Moves s (recordDrop d t) := by
  cases d with
  | none => exact h
  | some d =>
    refine Moves.notify (h.onArray ?_) (by simp [byte2])
    unfold NvArray.withDrop
    dsimp only
    split <;> rfl

theorem Moves.boxWriteEffect (x : Holder) (h : Moves s t) : Moves s (boxWriteEffect x t) := by
  unfold Machine.boxWriteEffect
  split
  · unfold boxWritten
    dsimp only
    split
    · exact Moves.giveReply _ _ _ (Moves.recordDrop _ (Moves.onMachine (h.stampWrite.onArray rfl)
        fun _ => by constructor <;> rfl))
    · exact Moves.recordDrop _ (Moves.onMachine (h.stampWrite.onArray rfl) fun _ => by constructor <;> rfl)
  · exact h

theorem Moves.heldWriteEffect (x : Holder) (h : Moves s t) : Moves s (heldWriteEffect x t) := by
  unfold Machine.heldWriteEffect
  split
  · unfold heldWritten
    exact Moves.clearFault _ _ _ (Moves.recordDrop _ (Moves.onMachine (h.stampWrite.onArray rfl)
      fun _ => by constructor <;> rfl))
  · exact h

theorem Moves.fetchReadEffect (x : Holder) (h : Moves s t) : Moves s (fetchReadEffect x t) := by
  unfold Machine.fetchReadEffect
  split
  · exact h.ask
  · exact h

theorem Moves.fetchMarkEffect (x : Holder) (h : Moves s t) : Moves s (fetchMarkEffect x t) := by
  unfold Machine.fetchMarkEffect
  split
  next place _ =>
    unfold dropFetched
    split
    · exact h
    · refine Moves.askHeldDrop _ (Moves.finish _ _ ?_)
      exact (h.stampWrite.onArray
        (f := fun v => { v with places := v.places.map fun x => if x.place = place then { x with fetched := true } else x })
        rfl).plain (by constructor <;> rfl)
  · exact h

/-! ## Cash commands -/

theorem Moves.fetchDrop (h : Moves s t) : Moves s (fetchDrop t) := by
  unfold Machine.fetchDrop
  split
  · exact h.refuse _
  · exact Moves.askForCabinet _ 3 (h.plain (by constructor <;> rfl))

theorem Moves.setDenominations (values : Octet Nat) (h : Moves s t) : Moves s (setDenominations values t) := by
  unfold Machine.setDenominations
  split
  · exact h.refuse _
  · split
    · exact h.refuse _
    next hused =>
      refine Moves.takenTable _ (h.change (.denominations fun m hm i hi hpos => ?_))
      by_contra hne
      refine hused (List.any_eq_true.mpr ⟨i, ?_, ?_⟩)
      · interval_cases i <;> simp
      · rw [Bool.and_eq_true]
        exact ⟨List.any_eq_true.mpr ⟨m, hm, by simp [hpos]⟩, by simpa using hne⟩

theorem Moves.clearCardTotals (n : Nat) (h : Moves s t) : Moves s (clearCardTotals n t) := by
  unfold Machine.clearCardTotals
  refine .ite (h.refuse _) ?_
  split
  · exact h.refuse _
  · exact (Moves.markDirty _ ((h.answer _).onMachine fun _ => by constructor <;> rfl)).settle

theorem Moves.readMachine (n : Nat) (h : Moves s t) : Moves s (readMachine n t) := by
  unfold Machine.readMachine
  refine .ite (h.refuse _) ?_
  split
  · exact h.refuse _
  · exact h.answer _

/-! ## The phases of a cycle (07) -/

/-- Where the numbers ascend, a machine is the one found under its number. -/
theorem machine?_of_mem {s : State} {m : MachineRecord} (h : s.numbersAscend) (hm : m ∈ s.machines) :
    s.machine? m.number = some m := by
  unfold State.numbersAscend at h
  unfold State.machine?
  generalize s.machines = ms at h hm ⊢
  induction ms with
  | nil => simp at hm
  | cons x rest ih =>
    simp only [List.map_cons, List.pairwise_cons] at h
    rcases List.mem_cons.mp hm with rfl | hm
    · simp
    · have hne : x.number ≠ m.number := (h.1 _ (List.mem_map_of_mem hm)).ne
      simpa [hne] using ih h.2 hm

/-- A machine's link replaced by one with the same line and slot. -/
theorem Moves.onMachineRelink {n : Nat} {f : MachineRecord → MachineRecord} {x : MachineRecord} (h : Moves s t)
    (hx : t.machine? n = some x) (hf : ∀ m : MachineRecord, m.Same { f m with link := m.link })
    (hlink : ∀ m, (f m).slot? = x.slot?) : Moves s (t.onMachine n f) := by
  refine h.onMachineLink hf fun ha m hm hn => .inr ?_
  have := machine?_of_mem ha hm
  rw [hn, hx, Option.some_inj] at this
  rw [hlink m, this]

theorem Moves.unheard (n : Nat) (h : Moves s t) : Moves s (unheard n t) := by
  unfold Machine.unheard
  split
  next f hf =>
    obtain ⟨x, hx, hl⟩ := Option.map_eq_some_iff.mp hf
    have hslot : x.slot? = some (f.line, f.slot) := by simp [MachineRecord.slot?, hl, Link.fields?]
    exact .ite (Moves.raiseFault n _ (h.onMachineRelink hx (fun _ => by constructor <;> rfl) fun _ => by rw [hslot]; rfl))
      (h.onMachineRelink hx (fun _ => by constructor <;> rfl) fun _ => by rw [hslot]; rfl)
  next f hf =>
    obtain ⟨x, hx, hl⟩ := Option.map_eq_some_iff.mp hf
    have hslot : x.slot? = some (f.line, f.slot) := by simp [MachineRecord.slot?, hl, Link.fields?]
    exact .ite (h.releaseSlot n)
      (h.onMachineRelink hx (fun _ => by constructor <;> rfl) fun _ => by rw [hslot]; rfl)
  · exact h

theorem Moves.unheardPhase (line : LineId) (slot : Nat) (h : Moves s t) : Moves s (unheardPhase line slot t) := by
  unfold Machine.unheardPhase
  dsimp only
  split
  · exact h.passPhase line
  · exact (h.passPhase line).unheard _

theorem Moves.slotDownlink (line : LineId) (slot : Nat) (h : Moves s t) : Moves s (slotDownlink line slot t) := by
  have hanswered : ∀ m : MachineRecord, m.Same m.answered := by
    intro m
    unfold MachineRecord.answered
    split
    · split
      · constructor <;> rfl
      · exact .refl m
    · exact .refl m
  unfold Machine.slotDownlink
  dsimp only
  split
  · exact h.sendLine _ _
  · split
    · exact Moves.sendLine _ _ (h.onMachine hanswered)
    · exact h.sendLine _ _
  · exact h.sendLine _ _

theorem Moves.downlink (line : LineId) (slot : Nat) (h : Moves s t) : Moves s (downlink line slot t) :=
  Moves.passPhase _ (.ite (h.sendLine _ _) (h.slotDownlink _ _))

theorem Moves.quietPhases (line : LineId) (k : Nat) (h : Moves s t) : Moves s (quietPhases line k t) := by
  induction k generalizing t with
  | zero => exact h
  | succ k ih => exact ih (.ite (h.unheardPhase line _) (h.downlink line _))

theorem Moves.runTo (line : LineId) (k : Nat) (h : Moves s t) : Moves s (runTo line k t) := h.quietPhases line _

theorem Moves.inPhase {body : State → State} (line : LineId) (k : Nat) (h : Moves s t)
    (hbody : ∀ {s t}, Moves s t → Moves s (body t)) : Moves s (inPhase line k body t) :=
  .ite (hbody (h.runTo line k)) h

theorem Moves.hearMachine (n : Nat) (h : Moves s t) : Moves s (hearMachine n t) := by
  unfold Machine.hearMachine
  split
  next f hf =>
    obtain ⟨x, hx, hl⟩ := Option.map_eq_some_iff.mp hf
    exact h.onMachineRelink hx (fun _ => by constructor <;> rfl) fun _ => by
      simp [MachineRecord.slot?, hl, Link.fields?]
  next f hf =>
    obtain ⟨x, hx, hl⟩ := Option.map_eq_some_iff.mp hf
    exact Moves.clearFault n _ _ (h.onMachineRelink hx (fun _ => by constructor <;> rfl) fun _ => by
      simp [MachineRecord.slot?, hl, Link.fields?])
  · exact h

theorem Moves.validUplink {body : MachineRecord → State → State} (line : LineId) (slot machine : Nat) (h : Moves s t)
    (hbody : ∀ (m : MachineRecord) {s t}, Moves s t → Moves s (body m t)) :
    Moves s (validUplink line slot machine body t) := by
  refine h.inPhase line _ fun h => ?_
  split
  · exact h.unheardPhase line slot
  · refine .ite ?_ (h.unheardPhase line slot)
    have hheard := (h.passPhase line).hearMachine machine
    dsimp only
    split
    · exact hheard
    · exact hbody _ hheard

theorem Moves.request {body : MachineRecord → Nat → State → State} (line : LineId) (slot machine : Nat)
    (kind : RequestKind) (h : Moves s t)
    (hbody : ∀ (m : MachineRecord) (id : Nat) {s t}, Moves s t → Moves s (body m id t)) :
    Moves s (request line slot machine kind body t) := by
  refine h.validUplink line slot machine fun m _ _ h => ?_
  refine .ite (h.setHeard _ _) (.ite (h.setHeard _ _) (Moves.settle (hbody m _ (Moves.onMachine ?_ ?_))))
  · exact h.plain (by constructor <;> rfl)
  · exact fun _ => by constructor <;> rfl

/-! ## Joins (07 R141 to R143) -/

/-- No machine holds a slot exactly where none is found in it. -/
theorem holder?_eq_none {s : State} {line : LineId} {slot : Nat} :
    s.holder? line slot = none ↔ ∀ x ∈ s.machines, x.slot? ≠ some (line, slot) := by
  unfold State.holder?
  rw [List.find?_eq_none]
  refine forall₂_congr fun x _ => ?_
  cases hx : x.link.fields? <;> simp [MachineRecord.slot?, hx]

/-- The lowest free slot of a line is one of 1 to 32 that no machine holds (07 R141). -/
theorem freeSlot?_spec {s : State} {line : LineId} {slot : Nat} (h : s.freeSlot? line = some slot) :
    1 ≤ slot ∧ slot ≤ 32 ∧ ∀ x ∈ s.machines, x.slot? ≠ some (line, slot) := by
  have hmem := List.mem_of_find?_eq_some h
  have hfree := List.find?_some h
  simp only [Bool.and_eq_true, Option.isNone_iff_eq_none] at hfree
  obtain ⟨i, hi, rfl⟩ := List.mem_map.mp hmem
  exact ⟨by omega, by have := List.mem_range.mp hi; omega, holder?_eq_none.mp hfree.2⟩

/-- Two changes of one machine are one change, where the first keeps its number. -/
theorem onMachine_onMachine {s : State} {n : Nat} {f g : MachineRecord → MachineRecord}
    (hf : ∀ m, (f m).number = m.number) :
    (s.onMachine n f).onMachine n g = s.onMachine n fun m => g (f m) := by
  have hmap : (s.machines.map fun m => if m.number = n then f m else m).map (fun m => if m.number = n then g m else m) =
      s.machines.map fun m => if m.number = n then g (f m) else m := by
    rw [List.map_map]
    refine List.map_congr_left fun m _ => ?_
    by_cases hm : m.number = n <;> simp [hm, hf]
  rw [onMachine_eq, onMachine_eq, onMachine_eq, ← hmap]

/-- A machine is linked to the slot that its join is granted. -/
theorem Moves.joinSlot {n slot : Nat} {line : LineId} {m : MachineRecord} (h : Moves s t) (hm : t.machine? n = some m)
    (hslot : (if m.link = .absent then t else Machine.releaseSlot n t).joinSlot? line m.link.fields? = some slot) :
    Moves s ((if m.link = .absent then t else Machine.releaseSlot n t).onMachine n fun x =>
      { x with link := .active ⟨line, slot, 0⟩, request := none }) := by
  by_cases hl : m.link = .absent
  · simp only [hl, if_true, Link.fields?, State.joinSlot?] at hslot ⊢
    obtain ⟨h1, h2, h3⟩ := freeSlot?_spec hslot
    exact h.change (.grantSlot hm (fun x => ⟨{ x with request := none }, by constructor <;> rfl, rfl⟩)
      (.inr ⟨h1, h2, fun x hx _ => h3 x hx⟩))
  · simp only [hl, if_false] at hslot ⊢
    rw [Machine.releaseSlot, onMachine_onMachine (by intro; rfl)]
    refine h.change (.grantSlot hm (fun x => ⟨{ x.discarded with request := none }, by constructor <;> rfl, rfl⟩) ?_)
    obtain ⟨f, hf⟩ : ∃ f, m.link.fields? = some f := by
      cases hlink : m.link with
      | absent => exact absurd hlink hl
      | active f => exact ⟨f, rfl⟩
      | silent f => exact ⟨f, rfl⟩
    rw [hf, State.joinSlot?] at hslot
    split at hslot
    next hline =>
      left
      rw [MachineRecord.slot?, hf, ← hline, ← Option.some_inj.mp hslot]
      rfl
    · right
      obtain ⟨h1, h2, h3⟩ := freeSlot?_spec hslot
      refine ⟨h1, h2, fun x hx hn => h3 x ?_⟩
      exact List.mem_map.mpr ⟨x, hx, if_neg hn⟩

theorem Moves.decideJoin (line : LineId) (f : JoinFrame) (h : Moves s t) : Moves s (decideJoin line f t) := by
  unfold Machine.decideJoin
  split
  · exact h.setHeard _ _
  next m hm =>
    have hreleased : Moves s (if m.link = .absent then t else Machine.releaseSlot f.machine t) :=
      .ite h (h.releaseSlot _)
    refine .ite (hreleased.setHeard _ _) ?_
    split
    · exact hreleased.setHeard _ _
    next slot hslot =>
      have hnumber := machine?_number hm
      have hlinked := ((Moves.joinSlot h hm hslot).setHeard line (.joined m.number slot)).clearFault m.number .silent .heard
      rw [← hnumber] at hlinked ⊢
      exact (Moves.notify (Moves.ite (hlinked.reconcile m f) hlinked) (by simp [byte2])).settle

theorem Moves.join (line : LineId) (f : JoinFrame) (h : Moves s t) : Moves s (join line f t) :=
  h.inPhase line _ fun h => (h.passPhase line).decideJoin line f

theorem Moves.leave (line : LineId) (slot : Nat) (m : MachineRecord) (h : Moves s t) : Moves s (leave line slot m t) :=
  (h.releaseSlot _).setHeard _ _

/-! ## Slot enable sets and the Machine Directory (07, sections 7.5 and 7.6) -/

theorem Moves.setSlotEnable (lineField enables : Nat) (h : Moves s t) : Moves s (setSlotEnable lineField enables t) := by
  have hunder : ∀ (line : LineId) (l : LineState) (m : MachineRecord),
      m.Same { m.underEnable line l with link := m.link } ∧
        ((m.underEnable line l).slot? = none ∨ (m.underEnable line l).slot? = m.slot?) := by
    intro line l m
    unfold MachineRecord.underEnable
    split
    · split
      · exact ⟨by constructor <;> rfl, .inl rfl⟩
      · exact ⟨.refl m, .inr rfl⟩
    · exact ⟨.refl m, .inr rfl⟩
  unfold Machine.setSlotEnable
  split
  · exact h.refuse _
  · exact Moves.takenTable _ (Moves.change h.onLine (.refit (.of_link (fun m => (hunder _ _ m).1)
      fun _ m _ => (hunder _ _ m).2)))

/-- A changed registration keeps the number and the tally, derives the service state, and keeps the slot or loses it. -/
theorem reregistered_spec (m : MachineRecord) (reg : Registration) :
    (m.reregistered reg).number = m.number ∧ (m.reregistered reg).serviceDerived ∧
      (m.reregistered reg).tally = m.tally ∧
      ((m.reregistered reg).slot? = none ∨ (m.reregistered reg).slot? = m.slot?) := by
  unfold MachineRecord.reregistered
  dsimp only
  cases hm : reg.zone != m.reg.zone <;>
  · simp only [if_true, if_false, Bool.false_eq_true]
    split
    · split
      · exact ⟨rfl, rfl, rfl, .inr rfl⟩
      · exact ⟨rfl, rfl, rfl, .inl rfl⟩
    · exact ⟨rfl, rfl, rfl, .inr rfl⟩

theorem Moves.registerMachine (a : RegisterArgs) (h : Moves s t) : Moves s (registerMachine a t) := by
  unfold Machine.registerMachine
  split
  · exact h.refuse _
  next reg _ =>
    split
    · refine Moves.takenTable _ (h.change (.refit ⟨fun m _ => ?_, fun m _ hd => ?_, fun ht m hm => ?_, fun _ m _ => ?_⟩))
      · split
        · exact (reregistered_spec m reg).1
        · rfl
      · split
        · exact (reregistered_spec m reg).2.1
        · exact hd
      · split
        · rw [(reregistered_spec m reg).2.2.1]; exact ht m hm
        · exact ht m hm
      · split
        · exact (reregistered_spec m reg).2.2.2
        · exact .inr rfl
    next hnone =>
      exact .ite (h.refuse _) (Moves.takenTable _ (Moves.markMachineDirty _ (h.change (.register hnone))))

theorem Moves.deregisterMachine (n : Nat) (h : Moves s t) : Moves s (deregisterMachine n t) := by
  unfold Machine.deregisterMachine
  refine .ite (h.refuse _) ?_
  split
  · exact h.refuse _
  · exact .ite (h.refuse _) (Moves.takenTable _ (Moves.markDirty _ (h.change .deregister)))

/-! ## The store (08) -/

/-- The directory's own machines with one put in stay in ascending order. -/
theorem directoryAscends_putEntry {e : StoredEntry} {d : List StoredEntry} (h : directoryAscends d) :
    directoryAscends (putEntry e d) := by
  have hmem : ∀ d : List StoredEntry, ∀ x ∈ putEntry e d, x = e ∨ x ∈ d := by
    intro d
    induction d with
    | nil => simp [putEntry]
    | cons y rest ih =>
      intro x hx
      rw [putEntry] at hx
      split at hx
      · simpa using hx
      · split at hx
        · rcases List.mem_cons.mp hx with hx | hx
          · exact .inl hx
          · exact .inr (List.mem_cons_of_mem _ hx)
        · rcases List.mem_cons.mp hx with hx | hx
          · exact .inr (by simp [hx])
          · exact (ih x hx).imp_right (List.mem_cons_of_mem _)
  induction d with
  | nil => simp [putEntry, directoryAscends]
  | cons y rest ih =>
    simp only [directoryAscends, List.map_cons, List.pairwise_cons, List.mem_map, forall_exists_index, and_imp,
      forall_apply_eq_imp_iff₂] at h
    obtain ⟨hy, hrest⟩ := h
    rw [putEntry]
    split
    next hlt =>
      simp only [directoryAscends, List.map_cons, List.pairwise_cons, List.mem_cons, List.mem_map, forall_eq_or_imp,
        forall_exists_index, and_imp, forall_apply_eq_imp_iff₂]
      exact ⟨⟨hlt, fun x hx => hlt.trans (hy x hx)⟩, hy, hrest⟩
    · split
      next heq =>
        simp only [directoryAscends, List.map_cons, List.pairwise_cons, List.mem_map, forall_exists_index, and_imp,
          forall_apply_eq_imp_iff₂]
        exact ⟨fun x hx => heq ▸ hy x hx, hrest⟩
      next hlt hne =>
        simp only [directoryAscends, List.map_cons, List.pairwise_cons, List.mem_map, forall_exists_index, and_imp,
          forall_apply_eq_imp_iff₂]
        refine ⟨fun x hx => ?_, ih hrest⟩
        rcases hmem rest x hx with rfl | hx
        · omega
        · exact hy x hx

/-- Every table write keeps the directory of the store in ascending order (07 R145). -/
theorem directoryAscends_written {v : NvArray} (w : TableWrite) (h : directoryAscends v.directory) :
    directoryAscends (v.written w).directory := by
  cases w with
  | registration n reg isNew => exact directoryAscends_putEntry h
  | deregistration n => exact List.Pairwise.sublist (List.filter_sublist.map _) h
  | flags n f =>
    have : ((v.written (.flags n f)).directory.map StoredEntry.machine) = v.directory.map StoredEntry.machine := by
      simp only [NvArray.written, List.map_map]
      refine List.map_congr_left fun e _ => ?_
      simp only [Function.comp]
      split <;> rfl
    rw [directoryAscends, this]
    exact h
  | slotEnable line set => cases line <;> exact h
  | specialDays _ => exact h
  | pendingSet _ => exact h
  | activation _ => exact h
  | guardWord _ => exact h
  | denominations _ => exact h
  | timers _ => exact h

theorem Moves.tableEffect (x : Holder) (h : Moves s t) : Moves s (tableEffect x t) := by
  unfold Machine.tableEffect
  split
  · exact Moves.finish _ _ (h.stampWrite.change (.array (directoryAscends_written _)))
  · exact h

theorem Moves.askUrgent (h : Moves s t) : Moves s (askUrgent t) := by
  unfold Machine.askUrgent
  split
  · exact Moves.askCheckpoint _ 1 (h.onStore rfl rfl rfl rfl rfl fun hc =>
      ⟨hc.backlog, (Nat.sub_le _ _).trans hc.urgent, hc.pointer⟩)
  · exact h

theorem Moves.checkpointEffect (x : Holder) (h : Moves s t) : Moves s (checkpointEffect x t) := by
  unfold Machine.checkpointEffect
  split
  next g entries _ _ =>
    have hput := h.stampWrite.onArray (f := fun v => v.withImage g entries) rfl
    refine .ite ?_ ?_
    · have hset := hput.setBacklog (v := t.store.backlog - 1) fun hc => (Nat.sub_le _ _).trans hc.backlog
      exact .ite hset.askUrgent hset
    · exact (hput.onStore (f := fun c => { c with urgent := 0 }) rfl rfl rfl rfl rfl fun hc =>
        ⟨hc.backlog, by simp, hc.pointer⟩).setBacklog fun _ => by simp
  · exact h

theorem StoreOp.urgent_cls (o : StoreOp) (h : 1 ≤ o.cls ∧ o.cls ≤ 6) : 1 ≤ o.urgent.cls ∧ o.urgent.cls ≤ 6 := by
  unfold StoreOp.urgent
  split
  · simp
  · exact h

theorem Moves.beginUrgent (h : Moves s t) : Moves s (beginUrgent t) := by
  unfold Machine.beginUrgent
  split
  · dsimp only
    split
    next hn =>
      simp only [State.onStore, StoreControl.madeUrgent, Option.isNone_iff_eq_none, Option.map_eq_none_iff] at hn
      refine h.change (.free (fun ho o hm => ?_) (fun ho _ => ho.idle hn) fun hc => ⟨hc.backlog, by simp, hc.pointer⟩)
      obtain ⟨o', hm', rfl⟩ := List.mem_map.mp hm
      exact o'.urgent_cls (ho.classed o' hm')
    next hn =>
      refine h.change (.store (fun ho => ⟨fun o hm => ?_, fun hn' => absurd ?_ hn, fun hn' => absurd ?_ hn⟩)
        (fun hc => ⟨hc.backlog, by simp, hc.pointer⟩) rfl)
      · obtain ⟨o', hm', rfl⟩ := List.mem_map.mp hm
        exact o'.urgent_cls (ho.classed o' hm')
      · exact Option.isNone_iff_eq_none.mpr hn'
      · exact Option.isNone_iff_eq_none.mpr hn'
  · exact Moves.askUrgent (h.onStore rfl rfl rfl rfl rfl fun hc => ⟨hc.backlog, by simp, hc.pointer⟩)

theorem Moves.periodExpiry (h : Moves s t) : Moves s (periodExpiry t) := by
  have hexpired : Moves s (t.onStore fun c => { c with lastExpiry := t.clock.counter }) :=
    h.onStore rfl rfl rfl rfl rfl fun hc => ⟨hc.backlog, hc.urgent, hc.pointer⟩
  have hset := hexpired.setBacklog (v := min (t.store.backlog + 1) Config.maxBacklog) fun _ => Nat.min_le_right _ _
  exact .ite (.ite hset.beginUrgent hset) (hexpired.setBacklog fun _ => by simp)

/-! ## The cabinet port (10) -/

theorem Moves.decideOutput (h : Moves s t) : Moves s (decideOutput t) := h.change (.noticeArea id)

theorem Moves.status (key : KeyPosition) (h : Moves s t) : Moves s (status key t) :=
  (h.answer _).change (.noticeArea id)

theorem Moves.result (h : Moves s t) : Moves s (result t) := by
  unfold Machine.result
  split
  · exact h.refuse _
  · exact h.refuse _
  · exact Moves.answer _ (h.plain (by constructor <;> rfl))

theorem Moves.readNotices (count : Nat) (h : Moves s t) : Moves s (readNotices count t) :=
  .ite (h.refuse _) (h.answer _)

theorem ringOffset_even {x : Nat} (h : x % 2 = 0) : ringOffset x % 2 = 0 := by
  simp only [ringOffset, Config.noticeAreaBytes]
  omega

theorem ringOffset_add (x y : Nat) : ringOffset (ringOffset x + y) = ringOffset (x + y) := by
  simp only [ringOffset, Config.noticeAreaBytes]
  omega

/-- Notices that follow one another span an even number of bytes. -/
theorem spanOf_even {start : Nat} {index : List NoticeRef} (h : chained start index = true) : spanOf index % 2 = 0 := by
  induction index generalizing start with
  | nil => rfl
  | cons x rest ih =>
    simp only [chained, Bool.and_eq_true, beq_iff_eq, decide_eq_true_eq] at h
    have := ih h.2
    simp only [spanOf, List.map_cons, List.sum_cons] at this ⊢
    omega

/-- The notice area of 10 R188 and R189, part by part. -/
theorem NoticeArea.sound_iff (a : NoticeArea) :
    a.sound = true ↔
      cellsWf a.ring = true ∧ a.unread ≤ Config.noticeAreaBytes ∧ a.unread = spanOf a.index ∧
        a.firstUnread < Config.noticeAreaBytes ∧ a.firstUnread % 2 = 0 ∧ chained a.firstUnread a.index = true ∧
        a.writePos = ringOffset (a.firstUnread + a.unread) := by
  simp [NoticeArea.sound, and_assoc]

/-- Freeing every notice keeps the area sound (10 R192). -/
theorem NoticeArea.sound_freeAll {a : NoticeArea} (h : a.sound = true) : a.freeAll.sound = true := by
  obtain ⟨hring, hle, hspan, hlt, heven, hchain, hpos⟩ := a.sound_iff.mp h
  have hw : a.writePos < Config.noticeAreaBytes := by rw [hpos]; exact Nat.mod_lt _ (by decide)
  have hunread : a.unread % 2 = 0 := by rw [hspan]; exact spanOf_even hchain
  refine (NoticeArea.sound_iff _).mpr ⟨hring, Nat.zero_le _, rfl, hw, ?_, rfl, ?_⟩
  · show a.writePos % 2 = 0
    rw [hpos]
    exact ringOffset_even (by omega)
  · show a.writePos = ringOffset (a.writePos + 0)
    exact (Nat.mod_eq_of_lt hw).symm

/-- What is left of chained notices from a start on: a chain from that start, which the notices before it reach. -/
theorem chained_dropWhile {start position : Nat} {index : List NoticeRef} (h : chained start index = true)
    (hs : start < Config.noticeAreaBytes) (heven : start % 2 = 0)
    (hx : ∃ x ∈ index, x.start = position) :
    chained position (index.dropWhile fun x => x.start != position) = true ∧
      spanOf (index.dropWhile fun x => x.start != position) ≤ spanOf index ∧ position < Config.noticeAreaBytes ∧
      position % 2 = 0 ∧
      position = ringOffset (start + (spanOf index - spanOf (index.dropWhile fun x => x.start != position))) := by
  induction index generalizing start with
  | nil => simp at hx
  | cons x rest ih =>
    simp only [chained, Bool.and_eq_true, beq_iff_eq, decide_eq_true_eq] at h
    obtain ⟨⟨⟨hstart, hspan⟩, hfour⟩, hrest⟩ := h
    by_cases hp : x.start = position
    · subst hp
      have hd : (x :: rest).dropWhile (fun y => y.start != x.start) = x :: rest := by simp
      rw [hd]
      refine ⟨?_, Nat.le_refl _, by omega, by omega, ?_⟩
      · rw [chained, hstart]
        simp [hspan, hfour, hrest]
      · rw [Nat.sub_self, Nat.add_zero, hstart]
        exact (Nat.mod_eq_of_lt hs).symm
    · have hd : (x :: rest).dropWhile (fun y => y.start != position) = rest.dropWhile fun y => y.start != position := by
        simp [hp]
      have hx' : ∃ y ∈ rest, y.start = position := by
        obtain ⟨y, hy, he⟩ := hx
        rcases List.mem_cons.mp hy with rfl | hy
        · exact absurd he hp
        · exact ⟨y, hy, he⟩
      obtain ⟨hc, hle, hlt, hev, heq⟩ :=
        ih hrest (Nat.mod_lt _ (by decide)) (ringOffset_even (by omega)) hx'
      rw [hd]
      have hcons : spanOf (x :: rest) = x.span + spanOf rest := rfl
      refine ⟨hc, by omega, hlt, hev, heq.trans ?_⟩
      rw [ringOffset_add, hcons]
      congr 1
      omega

/-- Freeing up to a notice's start keeps the area sound (10 R192). -/
theorem NoticeArea.sound_freeTo {a : NoticeArea} {position : Nat} (h : a.sound = true)
    (hx : ∃ x ∈ a.index, x.start = position) : (a.freeTo position).sound = true := by
  obtain ⟨hring, hle, hspan, hlt, heven, hchain, hpos⟩ := a.sound_iff.mp h
  obtain ⟨hc, hshort, hlt', hev, heq⟩ := chained_dropWhile hchain hlt heven hx
  have hunread : (a.freeTo position).unread = spanOf (a.freeTo position).index := by
    simp only [NoticeArea.freeTo]
    omega
  refine (NoticeArea.sound_iff _).mpr ⟨hring, ?_, hunread, hlt', hev, hc, ?_⟩
  · rw [hunread]
    simp only [NoticeArea.freeTo]
    omega
  · rw [hunread]
    simp only [NoticeArea.freeTo]
    rw [heq, ringOffset_add, hpos, ← heq]
    congr 1
    omega

theorem Moves.advanceNotices (position : Nat) (h : Moves s t) : Moves s (advanceNotices position t) := by
  unfold Machine.advanceNotices
  split
  · exact (h.answer Code.done.plain).change (.noticeArea NoticeArea.sound_freeAll)
  · split
    next hany =>
      have hx : ∃ x ∈ t.notices.index, x.start = position := by simpa using hany
      exact (h.answer Code.done.plain).change (.noticeArea fun hs => NoticeArea.sound_freeTo hs hx)
    · exact h.refuse _

theorem Moves.setTimers (a : TimerArgs) (h : Moves s t) : Moves s (setTimers a t) := by
  refine .ite (h.refuse _) (Moves.takenTable _ (h.retimed (timers := t.timers.set a) ?_))
  have hquotes : Moves { t with timers := t.timers.set a }
      (if a.lifetime.isSome then Machine.expireQuotes { t with timers := t.timers.set a }
        else { t with timers := t.timers.set a }) := .ite (.expireQuotes .refl) .refl
  have hhold := Moves.ite (c := a.holdLimit.isSome = true) hquotes.timeOutHold hquotes
  exact .ite hhold.periodExpiry hhold

/-! ## The second tick (01 R4, R5) -/

theorem ticked_counter (c : Clock) : c.ticked.counter = c.counter := by
  unfold Clock.ticked
  split
  · rfl
  · split <;> rfl

theorem Moves.endCycle (line : LineId) (h : Moves s t) : Moves s (endCycle line t) := .ite (h.runTo line _) h

theorem Moves.secondTick (h : Moves s t) : Moves s (secondTick t) := by
  refine .ite (h.plain ?_) (((h.endCycle .a).endCycle .b).change .second)
  constructor <;> first | rfl | exact ticked_counter _

/-! ## The power states (11) -/

theorem StoreOp.joinFlush_cls (o : StoreOp) : o.joinFlush.cls = o.cls := by
  unfold StoreOp.joinFlush
  split <;> rfl

theorem Moves.enterFlushing (h : Moves s t) : Moves s (enterFlushing t) := by
  have hpower : Moves s { t with power := .flushing, safe := false, linesStopped := false } :=
    (h.change (.power rfl)).plain (t := { t with power := .flushing, safe := false }) (by constructor <;> rfl)
  have hheld : Moves s
      (State.onStore { t with power := .flushing, safe := false, linesStopped := false } StoreControl.heldBack) := by
    have hqueue : ∀ o ∈ t.store.heldBack.queue, ∃ o' ∈ t.store.queue, o.cls = o'.cls := by
      intro o hm
      obtain ⟨o', hm', rfl⟩ := List.mem_map.mp hm
      exact ⟨o', List.mem_of_mem_filter hm', o'.joinFlush_cls⟩
    refine hpower.change (.store (fun ho => ⟨fun o hm => ?_, fun hn => ?_, fun hn hf o hm => ⟨rfl, ?_⟩⟩)
      (fun hc => ⟨hc.backlog, hc.urgent, hc.pointer⟩) rfl)
    · obtain ⟨o', hm', he⟩ := hqueue o hm
      rw [he]; exact ho.classed o' hm'
    · exact ho.idle (Option.map_eq_none_iff.mp hn)
    · obtain ⟨o', hm', he⟩ := hqueue o hm
      rw [he]; exact (ho.waiting (Option.map_eq_none_iff.mp hn) hf o' hm').2
  have hgroups : ∀ (gs : List Nat) {u : State}, Moves s u → Moves s (gs.foldl flushGroup u) := by
    intro gs
    induction gs with
    | nil => exact id
    | cons g rest ih => exact fun hu => ih (.ite (hu.askFlushCheckpoint g) hu)
  exact (Moves.askHeldDrops .flush _ (hgroups _ hheld)).settle

theorem Moves.resumeRunning (h : Moves s t) : Moves s (resumeRunning t) := by
  have hpower : Moves s { t with power := .running, safe := false, linesStopped := false } :=
    (h.change (.power rfl)).plain (t := { t with power := .running, safe := false }) (by constructor <;> rfl)
  unfold Machine.resumeRunning
  refine Moves.settle ?_
  split
  next hn =>
    have hn' : t.store.holder = none := Option.isNone_iff_eq_none.mp hn
    exact hpower.change (.free (fun ho => ho.classed) (fun ho => ho.idle) fun hc => ⟨hc.backlog, hc.urgent, hc.pointer⟩)
  next hn =>
    refine hpower.change (.store (fun ho => ⟨ho.classed, ho.idle, fun hn' => absurd (Option.isNone_iff_eq_none.mpr hn') hn⟩)
      (fun hc => ⟨hc.backlog, hc.urgent, hc.pointer⟩) rfl)

theorem Moves.powerFailWarning (h : Moves s t) : Moves s (powerFailWarning t) := by
  have hnoted : Moves s { t with warning := true } := h.plain (by constructor <;> rfl)
  exact .ite hnoted.enterFlushing hnoted

theorem Moves.warningWithdrawn (h : Moves s t) : Moves s (warningWithdrawn t) := by
  have hnoted : Moves s { t with warning := false } := h.plain (by constructor <;> rfl)
  unfold Machine.warningWithdrawn
  dsimp only
  split
  · exact .ite hnoted.start hnoted.resumeRunning
  · exact .ite (Moves.settle (hnoted.plain (by constructor <;> rfl))) hnoted.resumeRunning
  · exact hnoted

theorem Moves.orderlyRestart (h : Moves s t) : Moves s (orderlyRestart t) := by
  refine .ite (h.refuse _) (Moves.enterFlushing (Moves.setBacklog ?_ fun _ => Nat.le_refl 3))
  exact Moves.answerPending (h.plain (by constructor <;> rfl))

theorem Moves.holdReset (h : Moves s t) : Moves s (holdReset t) :=
  (h.start (cause := .resetInput)).change (.power (p := .resetHeld) (b := false) rfl)

theorem sensed_counter (c : Clock) (kept : Bool) : (c.sensed kept).counter = c.counter := by
  unfold Clock.sensed
  split <;> rfl

theorem Moves.powerOn (kept : Bool) (h : Moves s t) : Moves s (powerOn kept t) := by
  have hsensed : Moves s { t with frozenLatch := false, clock := t.clock.sensed kept } := by
    refine h.plain ?_
    constructor <;> first | rfl | exact sensed_counter _ _
  exact .ite (.ite hsensed.holdReset hsensed.start) h

theorem Moves.resetAsserted (h : Moves s t) : Moves s (resetAsserted t) := by
  have hnoted : Moves s { t with resetInput := true } := h.plain (by constructor <;> rfl)
  exact .ite hnoted hnoted.holdReset

theorem Moves.resetReleased (h : Moves s t) : Moves s (resetReleased t) := by
  have hnoted : Moves s { t with resetInput := false } := h.plain (by constructor <;> rfl)
  exact .ite hnoted.start hnoted

theorem Moves.powerLoss (h : Moves s t) : Moves s (powerLoss t) :=
  (h.start (cause := .powerOn)).change (.power (p := .off) (b := false) rfl)

/-- A start-up is a chain from the state loaded on (11 R200). -/
theorem startUpDone_moves (cause : StartCause) (s : State) : Moves (loaded cause s) (startUpDone cause s) := by
  have hasked := ((Moves.refl (s := loaded cause s)).pruneDays.activationCheck).askHeldDrops .nobody
    (activationCheck (pruneDays (loaded cause s))).machines.length
  have hsent : Moves (loaded cause s)
      { askHeldDrops .nobody (activationCheck (pruneDays (loaded cause s))).machines.length
          (activationCheck (pruneDays (loaded cause s))) with
        roundPort :=
          { (askHeldDrops .nobody (activationCheck (pruneDays (loaded cause s))).machines.length
              (activationCheck (pruneDays (loaded cause s)))).roundPort with
            sent := [.lineEnd, .prompt] } } := hasked.plain (by constructor <;> rfl)
  exact .ite hsent.enterFlushing hsent.resumeRunning

end Sys2Proof.Machine

/-! PROOFS. Every command is a chain of elementary changes, or a start-up, which is one from the state loaded on; and every
command answers a next state. -/

namespace Sys2Proof.Machine

/-- Where a command leads from a state: a chain of elementary changes from the state, or from what a start-up loads. -/
def Leads (s t : State) : Prop := Moves s t ∨ ∃ cause, s.power = .starting cause ∧ Moves (loaded cause s) t

theorem startUpCompletion_leads (s : State) : Leads s (startUpCompletion s) := by
  unfold startUpCompletion
  split
  next cause hp => exact .inr ⟨cause, hp, startUpDone_moves cause s⟩
  · exact .inl .refl

/-- Every command leads to a next state. -/
theorem exec_leads (s : State) : ∀ c : Instr, ∃ t, exec c s = .next t ∧ Leads s t
  | .secondTick => ⟨_, rfl, .inl (.secondTick .refl)⟩
  | .minuteEvent => ⟨_, rfl, .inl (.ite (Moves.refl.takeMinuteEvent).settle .refl)⟩
  | .midnightEvent => ⟨_, rfl, .inl (.ite (Moves.refl.takeMidnightEvent).settle .refl)⟩
  | .join line frame => ⟨_, rfl, .inl (.join line frame .refl)⟩
  | .leave line slot machine => ⟨_, rfl, .inl (.validUplink line slot machine .refl fun m => .leave line slot m)⟩
  | .statusFrame line slot machine kinds =>
    ⟨_, rfl, .inl (.validUplink line slot machine .refl fun m => .statusReport m.number kinds)⟩
  | .quoteRequest line slot frame =>
    ⟨_, rfl, .inl (.request line slot frame.machine .quoteRequest .refl fun m id => .quoteArrival frame m id)⟩
  | .lookupCompletion => ⟨_, rfl, .inl (.onCompletion .refl fun x => .lookupEffect x)⟩
  | .quoteExpiry machine => ⟨_, rfl, .inl (.expireQuote machine .refl)⟩
  | .saleCommit line slot frame =>
    ⟨_, rfl, .inl (.request line slot frame.machine .saleCommit .refl fun m id => .saleArrival frame m id)⟩
  | .decrementCompletion => ⟨_, rfl, .inl (.onCompletion .refl fun x => .decrementEffect x)⟩
  | .returnCompletion => ⟨_, rfl, .inl (.onCompletion .refl fun x => .returnEffect x)⟩
  | .boxRemoved line slot machine =>
    ⟨_, rfl, .inl (.request line slot machine .boxRemoved .refl fun m id => .boxRemovedArrival m id)⟩
  | .boxInserted line slot machine box =>
    ⟨_, rfl, .inl (.request line slot machine .boxInserted .refl fun m id => .boxInsertedArrival box m id)⟩
  | .nothingHeard line slot => ⟨_, rfl, .inl (.inPhase line _ .refl fun h => h.unheardPhase line slot)⟩
  | .silenceLimitReached line slot =>
    ⟨_, rfl, .inl (.ite ((Moves.refl.runTo line _).unheardPhase line slot) .refl)⟩
  | .releaseLimitReached line slot =>
    ⟨_, rfl, .inl (.ite ((Moves.refl.runTo line _).unheardPhase line slot) .refl)⟩
  | .downlinkPhase line slot => ⟨_, rfl, .inl (.inPhase line _ .refl fun h => h.downlink line slot)⟩
  | .boxWriteCompletion => ⟨_, rfl, .inl (.onCompletion .refl fun x => .boxWriteEffect x)⟩
  | .heldDropWriteCompletion => ⟨_, rfl, .inl (.onCompletion .refl fun x => .heldWriteEffect x)⟩
  | .roundWriteCompletion => ⟨_, rfl, .inl (.onCompletion .refl fun x => .roundWriteEffect x)⟩
  | .fetchDropReadCompletion => ⟨_, rfl, .inl (.onCompletion .refl fun x => .fetchReadEffect x)⟩
  | .fetchDropMarkingCompletion => ⟨_, rfl, .inl (.onCompletion .refl fun x => .fetchMarkEffect x)⟩
  | .permitWriteCompletion => ⟨_, rfl, .inl (.onCompletion .refl fun x => .permitWriteEffect x)⟩
  | .permitReadCompletion => ⟨_, rfl, .inl (.onCompletion .refl fun x => .permitReadEffect x)⟩
  | .writeCompletion => ⟨_, rfl, .inl (.onCompletion .refl fun x => .tableEffect x)⟩
  | .checkpointPeriodExpiry => ⟨_, rfl, .inl (.ite (Moves.refl.periodExpiry).settle .refl)⟩
  | .trickleCheckpointRequest => ⟨_, rfl, .inl (.askTrickle .refl)⟩
  | .checkpointCompletion => ⟨_, rfl, .inl (.onCompletion .refl fun x => .checkpointEffect x)⟩
  | .holdGrant => ⟨_, rfl, .inl (.tryGrantHold .refl)⟩
  | .holdTimeout => ⟨_, rfl, .inl (.ite (Moves.refl.timeOutHold).settle .refl)⟩
  | .noticeTimeout => ⟨_, rfl, .inl (.decideOutput .refl)⟩
  | .cabinetFrameRejected edges bytes => by
    refine ⟨_, rfl, .inl ?_⟩
    split
    · exact .transaction .refl fun h => h.refuse _
    · exact .refl
  | .status key => ⟨_, rfl, .inl (.transaction .refl fun h => h.status _)⟩
  | .result => ⟨_, rfl, .inl (.transaction .refl .result)⟩
  | .readSummary => ⟨_, rfl, .inl (.command .refl .readSummary)⟩
  | .fetchDrop => ⟨_, rfl, .inl (.command .refl .fetchDrop)⟩
  | .holdRequest => ⟨_, rfl, .inl (.command .refl .holdRequest)⟩
  | .holdRelease => ⟨_, rfl, .inl (.command .refl .holdRelease)⟩
  | .pendingSeal key => ⟨_, rfl, .inl (.command .refl (.pendingSeal _))⟩
  | .pendingCancel key => ⟨_, rfl, .inl (.command .refl (.pendingCancel _))⟩
  | .orderlyRestart => ⟨_, rfl, .inl (.command .refl .orderlyRestart)⟩
  | .readNotices count => ⟨_, rfl, .inl (.transaction .refl (.readNotices count))⟩
  | .advanceNotices position => ⟨_, rfl, .inl (.transaction .refl (.advanceNotices position))⟩
  | .setClock date minute second => ⟨_, rfl, .inl (.command .refl (.setClock date minute second))⟩
  | .overrideToday dayClass => ⟨_, rfl, .inl (.command .refl (.overrideToday dayClass))⟩
  | .specialDayAdd date => ⟨_, rfl, .inl (.command .refl (.specialDayAdd date))⟩
  | .specialDayRemove date => ⟨_, rfl, .inl (.command .refl (.specialDayRemove date))⟩
  | .pendingBegin key date minute => ⟨_, rfl, .inl (.command .refl (.pendingBegin _ date minute))⟩
  | .pendingZone key args => ⟨_, rfl, .inl (.command .refl (.pendingZone _ args))⟩
  | .setGuard key side span complement mode =>
    ⟨_, rfl, .inl (.command .refl (.setGuard _ side span complement mode))⟩
  | .permitInsert args => ⟨_, rfl, .inl (.command .refl (.permitInsert args))⟩
  | .permitUpdate args => ⟨_, rfl, .inl (.command .refl (.permitUpdate args))⟩
  | .permitDelete number => ⟨_, rfl, .inl (.command .refl (.permitDelete number))⟩
  | .permitRead number => ⟨_, rfl, .inl (.command .refl (.permitRead number))⟩
  | .registerMachine args => ⟨_, rfl, .inl (.command .refl (.registerMachine args))⟩
  | .deregisterMachine machine => ⟨_, rfl, .inl (.command .refl (.deregisterMachine machine))⟩
  | .readMachine machine => ⟨_, rfl, .inl (.command .refl (.readMachine machine))⟩
  | .clearCardTotals machine => ⟨_, rfl, .inl (.command .refl (.clearCardTotals machine))⟩
  | .roundSkip machine => ⟨_, rfl, .inl (.command .refl (.roundSkip .cabinet machine))⟩
  | .setSlotEnable line enables => ⟨_, rfl, .inl (.command .refl (.setSlotEnable line enables))⟩
  | .setDenominations values => ⟨_, rfl, .inl (.command .refl (.setDenominations values))⟩
  | .setTimers args => ⟨_, rfl, .inl (.command .refl (.setTimers args))⟩
  | .setFlag machine flag => ⟨_, rfl, .inl (.command .refl (.changeFlag .cabinet machine flag true))⟩
  | .clearFlag machine flag => ⟨_, rfl, .inl (.command .refl (.changeFlag .cabinet machine flag false))⟩
  | .ackFault machine kind => ⟨_, rfl, .inl (.command .refl (.ackFault .cabinet machine kind))⟩
  | .roundOpen machines => ⟨_, rfl, .inl (.command .refl (.roundOpenCabinet machines))⟩
  | .roundClose argument => by
    refine ⟨_, rfl, .inl (.command .refl fun h => ?_)⟩
    split
    · exact h.roundClose .cabinet
    · exact h.refuse _
  | .roundCloseForced => ⟨_, rfl, .inl (.command .refl (.roundCloseForced .cabinet))⟩
  | .roundPortCharacter key char => ⟨_, rfl, .inl (.portCharacter _ _ .refl)⟩
  | .tallyReadout key ended => ⟨_, rfl, .inl (.portCommand .t key ended .refl)⟩
  | .faultReadout key ended => ⟨_, rfl, .inl (.portCommand .f key ended .refl)⟩
  | .nextReadoutLine key ended => ⟨_, rfl, .inl (.portCommand .n key ended .refl)⟩
  | .roundPortOpen key ended => ⟨_, rfl, .inl (.portCommand .o key ended .refl)⟩
  | .roundPortSkip key ended => ⟨_, rfl, .inl (.portCommand .s key ended .refl)⟩
  | .roundPortClose key => ⟨_, rfl, .inl (.portCommand .c key .carriageReturn .refl)⟩
  | .roundPortForcedClose key => ⟨_, rfl, .inl (.portCommand .c key .exclamation .refl)⟩
  | .roundPortAck key ended => ⟨_, rfl, .inl (.portCommand .a key ended .refl)⟩
  | .roundPortSetFlag key ended => ⟨_, rfl, .inl (.portCommand .p key ended .refl)⟩
  | .roundPortClearFlag key ended => ⟨_, rfl, .inl (.portCommand .u key ended .refl)⟩
  | .powerFailWarning => ⟨_, rfl, .inl (.powerFailWarning .refl)⟩
  | .enterParked => ⟨_, rfl, .inl (.ite (.enterParkedNow .refl) .refl)⟩
  | .warningWithdrawn => ⟨_, rfl, .inl (.warningWithdrawn .refl)⟩
  | .orderlyRestartStart => ⟨_, rfl, .inl (.ite (.start .refl) .refl)⟩
  | .powerOn batteryKept => ⟨_, rfl, .inl (.powerOn batteryKept .refl)⟩
  | .resetAsserted => ⟨_, rfl, .inl (.resetAsserted .refl)⟩
  | .resetReleased => ⟨_, rfl, .inl (.resetReleased .refl)⟩
  | .startUpCompletion => ⟨_, rfl, startUpCompletion_leads s⟩
  | .powerLoss => ⟨_, rfl, .inl (.powerLoss .refl)⟩

/-- A step leads from the state with the front command taken out of the queue, or leaves the state. -/
theorem step_leads {s t : State} (h : step s = .next t) : t = s ∨ ∃ rest, Leads { s with pending := rest } t := by
  unfold step at h
  split at h
  · exact .inl (Host.Outcome.next.inj h).symm
  next c rest _ =>
    obtain ⟨u, hu, hl⟩ := exec_leads { s with pending := rest } c
    obtain rfl : u = t := Host.Outcome.next.inj (hu.symm.trans h)
    exact .inr ⟨rest, hl⟩

/-- An invariant of every chain that does not speak of the waiting commands is kept by every step, where it holds of what a
start-up loads. -/
theorem step_keeps {I : State → Prop} (hpending : ∀ s rest, I s → I { s with pending := rest })
    (hmoves : ∀ {s t : State}, Moves s t → I s → I t) {s t : State} (hs : I s)
    (hloaded : ∀ cause rest, s.power = .starting cause → I { s with pending := rest } → I (loaded cause { s with pending := rest }))
    (h : step s = .next t) : I t := by
  rcases step_leads h with rfl | ⟨rest, hm | ⟨cause, hp, hm⟩⟩
  · exact hs
  · exact hmoves hm (hpending s rest hs)
  · exact hmoves hm (hloaded cause rest hp (hpending s rest hs))

end Sys2Proof.Machine

/-! PROOFS. The arbiter under a grant (08 R153): what a grant changes of the machines and of the store's state. -/

namespace Sys2Proof.Machine

/-! ## What a grant changes of the machines -/

/-- A chain of changes that keep all that the invariants speak of. -/
def keepsMachines (ms ms' : List MachineRecord) : Prop :=
  ∃ f : MachineRecord → MachineRecord, (∀ m : MachineRecord, m.Same (f m)) ∧ ms' = ms.map f

theorem MachineRecord.Same.trans {a b c : MachineRecord} (h : a.Same b) (h' : b.Same c) : a.Same c :=
  ⟨h'.1.trans h.1, h'.2.trans h.2, h'.3.trans h.3, h'.4.trans h.4, h'.5.trans h.5, h'.6.trans h.6, h'.7.trans h.7⟩

theorem keepsMachines.refl (ms : List MachineRecord) : keepsMachines ms ms := ⟨id, .refl, by simp⟩

theorem keepsMachines.trans {a b c : List MachineRecord} (h : keepsMachines a b) (h' : keepsMachines b c) :
    keepsMachines a c := by
  obtain ⟨f, hf, rfl⟩ := h
  obtain ⟨g, hg, rfl⟩ := h'
  exact ⟨g ∘ f, fun m => (hf m).trans (hg _), by simp⟩

theorem keepsMachines.onMachine {n : Nat} {f : MachineRecord → MachineRecord} (s : State) (hf : ∀ m : MachineRecord, m.Same (f m)) :
    keepsMachines s.machines (s.onMachine n f).machines := by
  refine ⟨fun m => if m.number = n then f m else m, fun m => ?_, rfl⟩
  dsimp only
  split
  · exact hf m
  · exact .refl m

theorem giveReply_keepsMachines (n id : Nat) (a : Answer) (s : State) :
    keepsMachines s.machines (giveReply n id a s).machines := by
  refine .onMachine s fun m => ?_
  split
  · split
    · constructor <;> rfl
    · exact .refl m
  · exact .refl m

theorem endHeldDecrement_keepsMachines (w : DecrementWork) (s : State) :
    keepsMachines s.machines (endHeldDecrement w s).machines := by
  unfold endHeldDecrement
  split
  · exact .refl _
  · split
    · exact .refl _
    next c _ =>
      split
      · have hended : keepsMachines s.machines (s.onMachine w.machine fun m => { m with commit := none }).machines :=
          .onMachine s fun _ => by constructor <;> rfl
        refine .trans ?_ (giveReply_keepsMachines _ _ _ _)
        split
        · exact hended
        · refine hended.trans ?_
          unfold reopenQuote
          split
          · exact .refl _
          · exact .onMachine _ fun _ => by constructor <;> rfl
      · exact .refl _

theorem grantOp_keepsMachines (op : StoreOp) (s : State) : keepsMachines s.machines (grantOp op s).machines := by
  unfold grantOp
  split
  · split
    · exact endHeldDecrement_keepsMachines _ s
    · exact .refl _
  · split <;> exact .refl _
  · exact .refl _
  · exact .refl _

theorem grantNext_keepsMachines (fuel : Nat) (s : State) : keepsMachines s.machines (grantNext fuel s).machines := by
  induction fuel generalizing s with
  | zero => exact .refl _
  | succ fuel ih =>
    unfold grantNext
    split
    · exact .refl _
    · split
      · exact .refl _
      next op rest _ =>
        exact (grantOp_keepsMachines op (s.onStore fun c => { c with queue := rest })).trans (ih _)

theorem freeArray_keepsMachines (s : State) : keepsMachines s.machines (freeArray s).machines :=
  grantNext_keepsMachines _ (s.onStore fun c => { c with freeing := false })

theorem ask_keepsMachines (op : StoreOp) (s : State) : keepsMachines s.machines (ask op s).machines := by
  have hleft : (leaveParked op s).machines = s.machines := by
    unfold leaveParked
    split <;> rfl
  unfold ask
  rw [← hleft]
  dsimp only
  split
  · exact .refl _
  · split
    · split
      · exact grantOp_keepsMachines op _
      · exact .refl _
    · split <;> exact .refl _

/-! ## What a grant changes of the store's state -/

/-- A grant lets an operation take the array or leaves it; the queue and the read served stay, and the pointer in its range. -/
theorem grantOp_store (op : StoreOp) (s : State) :
    ∃ x d p, (grantOp op s).store = { s.store with holder := x, dirty := d, pointer := p } ∧
      (p = s.store.pointer ∨ p < 8) ∧ (x = s.store.holder ∨ x ≠ none) := by
  have hsame : ∃ x d p, s.store = { s.store with holder := x, dirty := d, pointer := p } ∧
      (p = s.store.pointer ∨ p < 8) ∧ (x = s.store.holder ∨ x ≠ none) := ⟨_, _, _, rfl, .inl rfl, .inl rfl⟩
  have htaken : ∀ data, ∃ x d p, (takeArray op data s).store = { s.store with holder := x, dirty := d, pointer := p } ∧
      (p = s.store.pointer ∨ p < 8) ∧ (x = s.store.holder ∨ x ≠ none) :=
    fun _ => ⟨_, _, _, rfl, .inl rfl, .inr (by simp)⟩
  unfold grantOp
  split
  · split
    next w _ _ =>
      obtain ⟨ms, h⟩ := endHeldDecrement_frame w s
      rw [h]; exact hsame
    · exact htaken _
  · split
    · exact hsame
    · exact htaken _
  · exact ⟨_, _, _, rfl, .inr (Nat.mod_lt _ (by decide)), .inr (by simp)⟩
  · exact htaken _

/-- No operation is taken out of a queue exactly where none has the property. -/
theorem takeFirst_eq_none {p : StoreOp → Bool} {q : List StoreOp} : takeFirst p q = none ↔ ∀ o ∈ q, p o = false := by
  induction q with
  | nil => simp [takeFirst]
  | cons y ys ih =>
    rw [takeFirst]
    split
    next hy => simp [hy]
    next hy =>
      split
      next x r hx =>
        simp only [reduceCtorEq, List.mem_cons, forall_eq_or_imp, false_iff, not_and]
        intro _ hall
        rw [ih.mpr hall] at hx
        simp at hx
      next hx => simpa [hy] using ih.mp hx

theorem takeFirst_length {p : StoreOp → Bool} {q rest : List StoreOp} {x : StoreOp}
    (h : takeFirst p q = some (x, rest)) : rest.length + 1 = q.length := by
  induction q generalizing x rest with
  | nil => simp [takeFirst] at h
  | cons y ys ih =>
    rw [takeFirst] at h
    split at h
    · obtain ⟨rfl, rfl⟩ := by simpa using h
      rfl
    · split at h
      next z r hz =>
        obtain ⟨rfl, rfl⟩ := by simpa using h
        simpa using ih hz
      · simp at h

/-- The operation that the arbiter picks is taken out of the queue. -/
theorem pickOp_some {c : StoreControl} {op : StoreOp} {rest : List StoreOp} (h : pickOp c = some (op, rest)) :
    (∀ o ∈ rest, o ∈ c.queue) ∧ rest.length + 1 = c.queue.length := by
  obtain ⟨k, -, hk⟩ := List.exists_of_findSome?_eq_some h
  exact ⟨(mem_of_takeFirst hk).2, takeFirst_length hk⟩

/-- The arbiter picks nothing where only operations wait that are held back (08 R153, R165). -/
theorem waiting_of_pickOp_none {c : StoreControl} (hc : c.classed) (h : pickOp c = none) :
    ∀ o ∈ c.queue, c.holdBack = true ∧ 4 ≤ o.cls := by
  intro o ho
  obtain ⟨h1, h6⟩ := hc o ho
  have hk := takeFirst_eq_none.mp (List.findSome?_eq_none_iff.mp h o.cls (by
    simp only [List.mem_cons, List.not_mem_nil, or_false]; omega)) o ho
  simp only [beq_self_eq_true, Bool.true_and, Bool.or_eq_false_iff, decide_eq_false_iff_not, Bool.not_eq_false'] at hk
  exact ⟨hk.2, by omega⟩

/-- Granting on leaves of the queue only operations that waited in it; the read served, the freeing, the hold-back, the
counts and a holder stay. -/
theorem grantNext_store (fuel : Nat) (s : State) :
    (∀ o ∈ (grantNext fuel s).store.queue, o ∈ s.store.queue) ∧
      (grantNext fuel s).store.serving = s.store.serving ∧ (grantNext fuel s).store.freeing = s.store.freeing ∧
      (s.store.pointer < 8 → (grantNext fuel s).store.pointer < 8) ∧
      ((grantNext fuel s).store.holder = none → s.store.holder = none) := by
  induction fuel generalizing s with
  | zero => exact ⟨fun _ => id, rfl, rfl, id, id⟩
  | succ fuel ih =>
    unfold grantNext
    split
    · exact ⟨fun _ => id, rfl, rfl, id, id⟩
    next hn =>
      split
      · exact ⟨fun _ => id, rfl, rfl, id, id⟩
      next op rest hpick =>
        obtain ⟨hq, hsv, hf, hp, hh⟩ := ih (grantOp op (s.onStore fun c => { c with queue := rest }))
        obtain ⟨x, d, p, hst, hpointer, -⟩ := grantOp_store op (s.onStore fun c => { c with queue := rest })
        rw [hst] at hq hsv hf hp
        exact ⟨fun o ho => (pickOp_some hpick).1 o (hq o ho), hsv, hf,
          fun hlt => hp (hpointer.elim (fun e => e ▸ hlt) id), fun _ => hn⟩

/-- Granting on until the queue is exhausted ends with the array held, or with nothing that may be granted. -/
theorem grantNext_ends {fuel : Nat} {s : State} (h : s.store.queue.length < fuel) :
    (grantNext fuel s).store.holder ≠ none ∨ pickOp (grantNext fuel s).store = none := by
  induction fuel generalizing s with
  | zero => omega
  | succ fuel ih =>
    unfold grantNext
    split
    next hx => exact .inl (by simp [hx])
    · split
      next hpick => exact .inr hpick
      next op rest hpick =>
        refine ih ?_
        obtain ⟨x, d, p, hst, -, -⟩ := grantOp_store op (s.onStore fun c => { c with queue := rest })
        rw [hst]
        have := (pickOp_some hpick).2
        show rest.length < fuel
        omega

/-- A freeing restores the arbiter's order (08 R153). -/
theorem freeArray_ordered {s : State} (hc : s.store.classed) (hidle : s.store.holder = none → s.store.serving = none) :
    (freeArray s).store.Ordered := by
  obtain ⟨hq, hsv, -, -, hh⟩ := grantNext_store (s.store.queue.length + 1) (s.onStore fun c => { c with freeing := false })
  have hclassed : (freeArray s).store.classed := fun o ho => hc o (hq o ho)
  refine ⟨hclassed, fun hn => ?_, fun hn _ => ?_⟩
  · exact hsv.trans (hidle (hh hn))
  · refine waiting_of_pickOp_none hclassed ?_
    exact (grantNext_ends (s := s.onStore fun c => { c with freeing := false }) (Nat.lt_succ_self _)).resolve_left
      (absurd hn)

theorem freeArray_freeing (s : State) : (freeArray s).store.freeing = false :=
  (grantNext_store (s.store.queue.length + 1) (s.onStore fun c => { c with freeing := false })).2.2.1

theorem freeArray_counted {s : State} (h : s.store.Counted) : (freeArray s).store.Counted := by
  have hst := freeArray_steady s
  simp only [StoreControl.steady, Prod.mk.injEq] at hst
  obtain ⟨-, -, hb, hu, -⟩ := hst
  exact ⟨hb ▸ h.backlog, hu ▸ h.urgent,
    (grantNext_store (s.store.queue.length + 1) (s.onStore fun c => { c with freeing := false })).2.2.2.1 h.pointer⟩

theorem leaveParked_store (op : StoreOp) (s : State) : (leaveParked op s).store = s.store := by
  unfold leaveParked
  split <;> rfl

theorem ask_freeing (op : StoreOp) (s : State) : (ask op s).store.freeing = s.store.freeing := by
  rw [← leaveParked_store op s]
  unfold ask
  dsimp only
  split
  · rfl
  · split
    · split
      · obtain ⟨x, d, p, hst, -⟩ := grantOp_store op (leaveParked op s)
        rw [hst]
      · rfl
    · split <;> rfl

theorem ask_counted {op : StoreOp} {s : State} (h : s.store.Counted) : (ask op s).store.Counted := by
  rw [← leaveParked_store op s] at h
  have hqueued : ∀ {c : StoreControl} {q sv x}, c.Counted →
      ({ c with queue := q, serving := sv, holder := x } : StoreControl).Counted := fun h => ⟨h.1, h.2, h.3⟩
  unfold ask
  dsimp only
  split
  · exact hqueued h
  · split
    · split
      · obtain ⟨x, d, p, hst, hp, -⟩ := grantOp_store op (leaveParked op s)
        rw [hst]
        exact ⟨h.backlog, h.urgent, hp.elim (fun e => e ▸ h.pointer) id⟩
      · exact hqueued h
    · split
      · exact hqueued h
      · exact hqueued h

/-- Asking the store keeps the arbiter's order (08 R153 to R155). -/
theorem ask_ordered {op : StoreOp} {s : State} (hlow : 1 ≤ op.cls) (hhigh : op.cls ≤ 6) (h : s.store.Ordered) :
    (ask op s).store.Ordered := by
  rw [← leaveParked_store op s] at h
  obtain ⟨hclassed, hidle, hwaiting⟩ := h
  have hqueued : ∀ o ∈ (leaveParked op s).store.queue ++ [op], 1 ≤ o.cls ∧ o.cls ≤ 6 := by
    intro o ho
    rcases List.mem_append.mp ho with ho | ho
    · exact hclassed o ho
    · rw [List.mem_singleton.mp ho]; exact ⟨hlow, hhigh⟩
  unfold ask
  dsimp only
  split
  next hf => exact ⟨hqueued, hidle, fun _ hf' => absurd (hf.symm.trans hf') (by simp)⟩
  next hf =>
    have hf' : (leaveParked op s).store.freeing = false := by simpa using hf
    split
    next hn =>
      split
      · obtain ⟨x, d, p, hst, -, hx⟩ := grantOp_store op (leaveParked op s)
        rw [hst]
        refine ⟨hclassed, fun _ => hidle hn, fun _ _ => hwaiting hn hf'⟩
      next hback =>
        simp only [not_or, Bool.not_eq_false] at hback
        refine ⟨hqueued, hidle, fun _ _ o ho => ?_⟩
        rcases List.mem_append.mp ho with ho | ho
        · exact hwaiting hn hf' o ho
        · rw [List.mem_singleton.mp ho]; exact ⟨hback.2, by omega⟩
    next x hx =>
      split
      · exact ⟨hclassed, fun hn => by simp [State.onStore] at hn, fun hn => by simp [State.onStore] at hn⟩
      · exact ⟨hqueued, fun hn => by simp [enqueue, State.onStore, hx] at hn,
          fun hn => by simp [enqueue, State.onStore, hx] at hn⟩

end Sys2Proof.Machine

/-! PROOFS. The invariants of the whole machine (10 R188, R194; 06 R119; 05 R83; 11 R195; 07 R134, R145; 08 R153 to R162),
each shown once for the elementary changes. -/

namespace Sys2Proof.Machine

/-! ## Frames of the composite changes -/

theorem beginCycles_frame (s : State) : ∃ a b, beginCycles s = { s with lineA := a, lineB := b } := by
  unfold beginCycles
  split
  · exact ⟨_, _, rfl⟩
  · exact ⟨s.lineA, s.lineB, rfl⟩

/-- The queue of waiting commands stays. -/
theorem Change.pending_eq {s t : State} (h : Change s t) : t.pending = s.pending := by
  cases h with
  | plain h => exact h.pending
  | second =>
    obtain ⟨a, b, h⟩ := beginCycles_frame (passSecond s)
    rw [h]; rfl
  | ask =>
    obtain ⟨pw, sf, ms, ws, st, h⟩ := ask_frame _ s
    rw [h]
  | free =>
    obtain ⟨ms, ws, st, h⟩ := freeArray_frame { s with store := _ }
    rw [h]
  | _ => rfl

theorem freeArray_pending (s : State) : (freeArray s).pending = s.pending := by
  obtain ⟨ms, ws, st, h⟩ := freeArray_frame s
  rw [h]

theorem Moves.pending_eq {s t : State} (h : Moves s t) : t.pending = s.pending :=
  h.keep (I := fun u => u.pending = s.pending) (fun _ _ hc hs => hc.pending_eq.trans hs)
    (fun _ _ _ _ _ h hs => (freeArray_pending _).trans (h hs)) (fun _ _ _ h hs => h hs) rfl

theorem Leads.pending_eq {s t : State} (h : Leads s t) : t.pending = s.pending := by
  rcases h with h | ⟨cause, -, h⟩
  · exact h.pending_eq
  · exact h.pending_eq

/-- Settles O2, by what every command leads to. -/
theorem everyCommandAnswersAndLeavesTheQueue : Obligations.EveryCommandAnswersAndLeavesTheQueue := by
  intro c s
  obtain ⟨t, ht, hl⟩ := exec_leads s c
  exact ⟨t, ht, hl.pending_eq⟩

/-! ## The notice area (10 R188, R189) -/

/-- A notice that follows the chained ones is chained to them. -/
theorem chained_append {start span : Nat} {index : List NoticeRef} {counter : Seconds} (h : chained start index = true)
    (hs : start < Config.noticeAreaBytes) (heven : span % 2 = 0) (hfour : 4 ≤ span) :
    chained start (index ++ [⟨ringOffset (start + spanOf index), span, counter⟩]) = true := by
  induction index generalizing start with
  | nil =>
    have : ringOffset start = start := Nat.mod_eq_of_lt hs
    simp [chained, spanOf, this, heven, hfour]
  | cons x rest ih =>
    simp only [chained, Bool.and_eq_true, beq_iff_eq, decide_eq_true_eq] at h
    obtain ⟨⟨⟨hstart, hspan⟩, hx⟩, hrest⟩ := h
    have hn := ih hrest (Nat.mod_lt _ (by decide))
    have hoff : ringOffset (start + spanOf (x :: rest)) = ringOffset (ringOffset (start + x.span) + spanOf rest) := by
      rw [ringOffset_add, Nat.add_assoc]
      rfl
    rw [hoff]
    simp only [List.cons_append, chained, hstart, hspan, hx, hn, beq_self_eq_true, decide_true, Bool.and_self]

/-- A notice's span is even, and at least 4 where it is at least 3 bytes long. -/
theorem noticeSpan_length {b : List Byte} (h : 3 ≤ b.length) :
    (noticeSpan b).length % 2 = 0 ∧ 4 ≤ (noticeSpan b).length := by
  unfold noticeSpan
  split
  · omega
  · simp only [List.length_append, List.length_cons, List.length_nil]
    omega

/-- A notice written keeps the area sound (10 R189). -/
theorem NoticeArea.sound_write {a : NoticeArea} {b : List Byte} (counter : Seconds) (h : a.sound = true)
    (hb : 3 ≤ b.length) : (a.write b counter).sound = true := by
  obtain ⟨heven, hfour⟩ := noticeSpan_length hb
  unfold NoticeArea.write
  dsimp only
  split
  next hfits =>
    obtain ⟨hring, hle, hspan, hlt, hfirst, hchain, hpos⟩ := a.sound_iff.mp h
    refine (NoticeArea.sound_iff _).mpr ⟨cellsWf_writeRing _ _ hring, ?_, ?_, hlt, hfirst, ?_, ?_⟩
    · show a.unread + (noticeSpan b).length ≤ _
      omega
    · simp [spanOf, hspan]
    · show chained a.firstUnread (a.index ++ [⟨a.writePos, _, counter⟩]) = true
      rw [hpos, hspan]
      exact chained_append hchain hlt heven hfour
    · show ringOffset (a.writePos + _) = ringOffset (a.firstUnread + (a.unread + _))
      rw [hpos, ringOffset_add, Nat.add_assoc]
  · exact h

theorem Change.noticesSound {s t : State} (h : Change s t) (hs : s.notices.sound = true) : t.notices.sound = true := by
  cases h with
  | plain h => rw [h.notices]; exact hs
  | notify hb => exact NoticeArea.sound_write _ hs hb
  | noticeArea ha => exact ha hs
  | second =>
    obtain ⟨a, b, h⟩ := beginCycles_frame (passSecond s)
    rw [h]; exact hs
  | ask =>
    obtain ⟨pw, sf, ms, ws, st, h⟩ := ask_frame _ s
    rw [h]; exact hs
  | free =>
    obtain ⟨ms, ws, st, h⟩ := freeArray_frame { s with store := _ }
    rw [h]; exact hs
  | start => rfl
  | refit => exact hs
  | grantSlot => exact hs
  | register => exact hs
  | deregister => exact hs
  | denominations => exact hs
  | array => exact hs
  | store => exact hs
  | power => exact hs

theorem freeArray_notices (s : State) : (freeArray s).notices = s.notices := by
  obtain ⟨ms, ws, st, h⟩ := freeArray_frame s
  rw [h]

theorem Moves.noticesSound {s t : State} (h : Moves s t) : s.notices.sound = true → t.notices.sound = true :=
  h.keep (I := fun u => u.notices.sound = true) (fun _ _ hc => hc.noticesSound)
    (fun _ _ _ _ _ h hs => by rw [freeArray_notices]; exact h hs) (fun _ _ _ h hs => h hs)

/-- Settles O6, by what each elementary change makes of the notice area. -/
theorem noticeAreaStaysSound : Obligations.NoticeAreaStaysSound := fun s t hs h =>
  step_keeps (I := fun u => u.notices.sound = true) (fun _ _ => id) Moves.noticesSound hs
    (fun _ _ _ hu => NoticeArea.sound_write _ hu (three_le_length_noticeBytes (by simp [byte1]))) h

/-! ## The notice output (10 R194) -/

theorem outputSound_iff (s : State) :
    s.outputSound = true ↔ s.notices.output = noticeLevel s.notices s.timers s.clock.counter := by
  simp [State.outputSound]

/-- The output decided afresh stands at its level. -/
theorem outputSound_decideOutput (s : State) : (decideOutput s).outputSound = true := (outputSound_iff _).mpr rfl

/-- The output stands at its level where nothing it depends on has changed. -/
theorem outputSound_of_same {s t : State} (hn : t.notices = s.notices) (ht : t.timers = s.timers)
    (hc : t.clock.counter = s.clock.counter) (h : s.outputSound = true) : t.outputSound = true := by
  rw [outputSound_iff] at h ⊢
  rw [hn, ht, hc, h]

theorem Change.outputSound {s t : State} (h : Change s t) (hs : s.outputSound = true) : t.outputSound = true := by
  cases h with
  | plain h => exact outputSound_of_same h.notices h.timers h.counter hs
  | notify => exact outputSound_decideOutput _
  | noticeArea => exact outputSound_decideOutput _
  | second => exact outputSound_decideOutput _
  | ask =>
    obtain ⟨pw, sf, ms, ws, st, h⟩ := ask_frame _ s
    rw [h]; exact hs
  | free =>
    obtain ⟨ms, ws, st, h⟩ := freeArray_frame { s with store := _ }
    rw [h]; exact hs
  | start => rfl
  | refit => exact hs
  | grantSlot => exact hs
  | register => exact hs
  | deregister => exact hs
  | denominations => exact hs
  | array => exact hs
  | store => exact hs
  | power => exact hs

theorem freeArray_outputSound {s : State} (h : s.outputSound = true) : (freeArray s).outputSound = true := by
  obtain ⟨ms, ws, st, he⟩ := freeArray_frame s
  rw [he]; exact h

theorem Moves.outputSound {s t : State} (h : Moves s t) : s.outputSound = true → t.outputSound = true :=
  h.keep (I := fun u => u.outputSound = true) (fun _ _ hc => hc.outputSound)
    (fun _ _ _ _ _ h hs => freeArray_outputSound (h hs)) (fun _ _ _ _ _ => outputSound_decideOutput _)

/-- Settles O7: the output is decided wherever what it depends on changes, and an oldest notice is one that spans unread
bytes. -/
theorem noticeOutputStaysAtItsLevel : Obligations.NoticeOutputStaysAtItsLevel := by
  refine ⟨fun s t hs h => step_keeps (I := fun u => u.outputSound = true) (fun _ _ => id) Moves.outputSound hs
    (fun _ _ _ _ => outputSound_decideOutput _) h, fun a t counter ha => ?_⟩
  obtain ⟨-, -, hspan, -, -, hchain, -⟩ := a.sound_iff.mp ha
  cases hi : a.index with
  | nil => simp [noticeLevel, hi]
  | cons n rest =>
    have hpos : 0 < a.unread := by
      simp only [hi, chained, Bool.and_eq_true, decide_eq_true_eq] at hchain
      rw [hspan, hi]
      have : spanOf (n :: rest) = n.span + spanOf rest := rfl
      omega
    simp [noticeLevel, hi, hpos, or_assoc]

/-! ## Service states (06 R119) and tallies (05 R83) -/

theorem servicesSound_iff (s : State) : s.servicesSound = true ↔ ∀ m ∈ s.machines, m.serviceDerived := by
  simp [State.servicesSound, MachineRecord.serviceDerived]

theorem mem_insertMachine {x m : MachineRecord} {ms : List MachineRecord} :
    x ∈ insertMachine m ms ↔ x = m ∨ x ∈ ms := by
  induction ms with
  | nil => simp [insertMachine]
  | cons y rest ih =>
    rw [insertMachine]
    split
    · simp
    · simp [ih, or_left_comm]

/-- What holds of every machine stays so where each machine keeps all that the invariants speak of. -/
theorem keepsMachines.forall {ms ms' : List MachineRecord} {P : MachineRecord → Prop} (h : keepsMachines ms ms')
    (hp : ∀ m m' : MachineRecord, m.Same m' → P m → P m') (hs : ∀ m ∈ ms, P m) : ∀ m ∈ ms', P m := by
  obtain ⟨f, hf, rfl⟩ := h
  intro m hm
  obtain ⟨x, hx, rfl⟩ := List.mem_map.mp hm
  exact hp x _ (hf x) (hs x hx)

theorem MachineRecord.Same.serviceDerived {m m' : MachineRecord} (h : m.Same m') (hm : m.serviceDerived) :
    m'.serviceDerived := by
  rw [MachineRecord.serviceDerived, h.service, h.reg, h.faults, h.flags]
  exact hm

theorem Change.servicesDerived {s t : State} (h : Change s t) (hs : ∀ m ∈ s.machines, m.serviceDerived) :
    ∀ m ∈ t.machines, m.serviceDerived := by
  cases h with
  | plain h => rw [h.machines]; exact hs
  | refit h =>
    intro m hm
    obtain ⟨x, hx, rfl⟩ := List.mem_map.mp hm
    exact h.service x hx (hs x hx)
  | grantSlot _ hf _ =>
    intro m hm
    obtain ⟨x, hx, rfl⟩ := List.mem_map.mp hm
    split
    · obtain ⟨y, hy, he⟩ := hf x
      rw [he]
      exact hy.serviceDerived (hs x hx)
    · exact hs x hx
  | register =>
    intro m hm
    rcases mem_insertMachine.mp hm with rfl | hm
    · rfl
    · exact hs m hm
  | deregister => exact fun m hm => hs m (List.mem_of_mem_filter hm)
  | ask => exact (ask_keepsMachines _ s).forall (fun _ _ => MachineRecord.Same.serviceDerived) hs
  | free => exact (freeArray_keepsMachines { s with store := _ }).forall (fun _ _ => MachineRecord.Same.serviceDerived) hs
  | second =>
    obtain ⟨a, b, h⟩ := beginCycles_frame (passSecond s)
    rw [h]; exact hs
  | start => simp [beginStart, State.reset]
  | denominations => exact hs
  | array => exact hs
  | notify => exact hs
  | noticeArea => exact hs
  | store => exact hs
  | power => exact hs

theorem Moves.servicesDerived {s t : State} (h : Moves s t) :
    (∀ m ∈ s.machines, m.serviceDerived) → ∀ m ∈ t.machines, m.serviceDerived :=
  h.keep (I := fun u => ∀ m ∈ u.machines, m.serviceDerived) (fun _ _ hc => hc.servicesDerived)
    (fun _ t _ _ _ h hs => (freeArray_keepsMachines t).forall (fun _ _ => MachineRecord.Same.serviceDerived) (h hs))
    (fun _ _ _ h hs => h hs)

/-- The machines that a start loads have the service states derived (06 R120). -/
theorem loaded_machines (cause : StartCause) (s : State) :
    (loaded cause s).machines = s.nv.directory.map (restoredMachine s.nv) := rfl

/-- The active kinds among those with a property are those of a list of them. -/
theorem anyActive_iff {f : FaultEntries} {p : FaultKind → Bool} {l : List FaultKind} (h : ∀ k, p k = true ↔ k ∈ l) :
    f.anyActive p = true ↔ ∃ k ∈ l, f.active k = true := by
  have hall : ∀ k, k ∈ FaultKind.all := by intro k; cases k <;> simp [FaultKind.all]
  simp only [FaultEntries.anyActive, List.any_eq_true, Bool.and_eq_true]
  constructor
  · rintro ⟨k, -, ha, hp⟩
    exact ⟨k, (h k).mp hp, ha⟩
  · rintro ⟨k, hk, ha⟩
    exact ⟨k, hall k, ha, (h k).mpr hk⟩

/-- The table of 06 R119. -/
theorem deriveService_table (fitted : Fitted) (faults : FaultEntries) (flags : ServiceFlags) (noCash noCard out : Bool)
    (hcash : noCash = true ↔ fitted = .card ∨ flags.forceCardOnly = true ∨
      ∃ k ∈ [FaultKind.paperOut, .ticketJam, .doorOpen, .silent, .coinJam, .boxOut, .boxFull, .boxConflict, .dropHeld],
        faults.active k = true)
    (hcard : noCard = true ↔ fitted = .cash ∨
      ∃ k ∈ [FaultKind.paperOut, .ticketJam, .doorOpen, .silent, .cardReader], faults.active k = true)
    (hout : out = true ↔ flags.heldOut = true ∨ (noCash = true ∧ noCard = true) ∨
      ∃ k ∈ [FaultKind.paperOut, .ticketJam, .doorOpen, .silent], faults.active k = true) :
    deriveService fitted faults flags =
      if out then .outOfService else if noCash then .cardOnly else if noCard then .cashOnly else .inService := by
  have hcash' : cashUnavailable fitted faults flags = noCash := by
    rw [Bool.eq_iff_iff, hcash, cashUnavailable, Bool.or_eq_true, Bool.or_eq_true,
      anyActive_iff (l := [.paperOut, .ticketJam, .doorOpen, .silent, .coinJam, .boxOut, .boxFull, .boxConflict, .dropHeld])
        (by intro k; cases k <;> simp [FaultKind.blocksCash, FaultKind.blocksAll])]
    cases fitted <;> simp [Fitted.hasCash, or_comm]
  have hcard' : cardUnavailable fitted faults = noCard := by
    rw [Bool.eq_iff_iff, hcard, cardUnavailable, Bool.or_eq_true,
      anyActive_iff (l := [.paperOut, .ticketJam, .doorOpen, .silent, .cardReader])
        (by intro k; cases k <;> simp [FaultKind.blocksCard, FaultKind.blocksAll])]
    cases fitted <;> simp [Fitted.hasCard]
  have hout' : (flags.heldOut || faults.anyActive FaultKind.blocksAll || (noCash && noCard)) = out := by
    rw [Bool.eq_iff_iff, hout, Bool.or_eq_true, Bool.or_eq_true, Bool.and_eq_true,
      anyActive_iff (l := [.paperOut, .ticketJam, .doorOpen, .silent])
        (by intro k; cases k <;> simp [FaultKind.blocksAll]), or_assoc, or_comm (b := noCash = true ∧ noCard = true)]
  rw [deriveService, hcash', hcard', hout']

/-- Every tally keeps its law under the denominations in force. -/
def State.talliesLawful (s : State) : Prop := ∀ m ∈ s.machines, m.tally.lawful s.cash.denominations = true

theorem talliesSound_iff (s : State) : s.talliesSound = true ↔ s.talliesLawful := by
  simp [State.talliesSound, State.talliesLawful]

/-- A tally keeps its law under other denominations that are the same wherever it holds coins (05 R82). -/
theorem Tally.lawful_of_used {a : Tally} {v w : Octet Nat} (h : ∀ i < 8, 0 < a.counts.get i → w.get i = v.get i)
    (ha : a.lawful v = true) : a.lawful w = true := by
  have hvalue : coinValue a.counts w = coinValue a.counts v := by
    rw [coinValue_eq, coinValue_eq]
    congr 1
    refine List.map_congr_left fun i hi => ?_
    rcases Nat.eq_zero_or_pos (a.counts.get i) with h0 | hpos
    · rw [h0, Nat.zero_mul, Nat.zero_mul]
    · rw [h i (List.mem_range.mp hi) hpos]
  rw [Tally.lawful, hvalue]
  exact ha

theorem MachineRecord.Same.tallyLawful {m m' : MachineRecord} {v : Octet Nat} (h : m.Same m')
    (hm : m.tally.lawful v = true) : m'.tally.lawful v = true := by rw [h.tally]; exact hm

theorem Change.talliesLawful {s t : State} (h : Change s t) (hs : s.talliesLawful) : t.talliesLawful := by
  cases h with
  | plain h => rw [State.talliesLawful, h.machines, h.denominations]; exact hs
  | refit h =>
    intro m hm
    obtain ⟨x, hx, rfl⟩ := List.mem_map.mp hm
    exact h.tally hs x hx
  | grantSlot _ hf _ =>
    intro m hm
    obtain ⟨x, hx, rfl⟩ := List.mem_map.mp hm
    split
    · obtain ⟨y, hy, he⟩ := hf x
      rw [he]
      exact hy.tallyLawful (hs x hx)
    · exact hs x hx
  | register =>
    intro m hm
    rcases mem_insertMachine.mp hm with rfl | hm
    · exact emptyTally_lawful _
    · exact hs m hm
  | deregister => exact fun m hm => hs m (List.mem_of_mem_filter hm)
  | denominations h => exact fun m hm => Tally.lawful_of_used (h m hm) (hs m hm)
  | @ask op =>
    have hd : (Machine.ask op s).cash = s.cash := by
      obtain ⟨pw, sf, ms, ws, st, h⟩ := ask_frame op s
      rw [h]
    rw [State.talliesLawful, hd]
    exact (ask_keepsMachines _ s).forall (fun _ _ => MachineRecord.Same.tallyLawful) hs
  | @free c =>
    have hd : (freeArray { s with store := c }).cash = s.cash := by
      obtain ⟨ms, ws, st, h⟩ := freeArray_frame { s with store := c }
      rw [h]
    rw [State.talliesLawful, hd]
    exact (freeArray_keepsMachines { s with store := c }).forall (fun _ _ => MachineRecord.Same.tallyLawful) hs
  | second =>
    obtain ⟨a, b, h⟩ := beginCycles_frame (passSecond s)
    rw [h]; exact hs
  | start => simp [State.talliesLawful, beginStart, State.reset]
  | array => exact hs
  | notify => exact hs
  | noticeArea => exact hs
  | store => exact hs
  | power => exact hs

theorem freeArray_talliesLawful {s : State} (hs : s.talliesLawful) : (freeArray s).talliesLawful := by
  have hd : (freeArray s).cash = s.cash := by
    obtain ⟨ms, ws, st, h⟩ := freeArray_frame s
    rw [h]
  rw [State.talliesLawful, hd]
  exact (freeArray_keepsMachines s).forall (fun _ _ => MachineRecord.Same.tallyLawful) hs

theorem Moves.talliesLawful {s t : State} (h : Moves s t) : s.talliesLawful → t.talliesLawful :=
  h.keep (I := State.talliesLawful) (fun _ _ hc => hc.talliesLawful)
    (fun _ _ _ _ _ h hs => freeArray_talliesLawful (h hs)) (fun _ _ _ h hs => h hs)

/-- The tallies that a start restores keep the law where the store's do. -/
theorem loaded_talliesLawful {cause : StartCause} {s : State} (h : s.storedTalliesSound = true) :
    (loaded cause s).talliesLawful := by
  simp only [State.storedTalliesSound, List.all_eq_true] at h
  intro m hm
  rw [loaded_machines] at hm
  obtain ⟨e, he, rfl⟩ := List.mem_map.mp hm
  exact h e he

/-- Settles O8: every change of a machine derives its service state, and of a tally keeps its law. -/
theorem serviceStatesStayDerived : Obligations.ServiceStatesStayDerived := by
  refine ⟨fun s t hs h => ?_, deriveService_table, fun s t hs hstored h => ?_⟩
  · rw [servicesSound_iff] at hs ⊢
    refine step_keeps (I := fun u => ∀ m ∈ u.machines, m.serviceDerived) (fun _ _ => id) Moves.servicesDerived hs
      (fun cause rest _ _ m hm => ?_) h
    rw [loaded_machines] at hm
    obtain ⟨e, -, rfl⟩ := List.mem_map.mp hm
    rfl
  · rw [talliesSound_iff] at hs ⊢
    exact step_keeps (I := State.talliesLawful) (fun _ _ => id) Moves.talliesLawful hs
      (fun cause rest hp _ => loaded_talliesLawful (s := { s with pending := rest }) (hstored cause hp)) h

/-! ## The safe output (11 R195) -/

theorem safeSound_iff (s : State) : s.safeSound = true ↔ s.safe = (s.power == .parked) := by simp [State.safeSound]

theorem ask_safeSound {op : StoreOp} {s : State} (h : s.safeSound = true) : (ask op s).safeSound = true := by
  have hleft : (leaveParked op s).safeSound = true := by
    unfold leaveParked
    split
    · rfl
    · exact h
  unfold ask
  dsimp only
  split
  · exact hleft
  · split
    · split
      · obtain ⟨ms, ws, st, he⟩ := grantOp_frame op (leaveParked op s)
        rw [he]; exact hleft
      · exact hleft
    · split <;> exact hleft

theorem freeArray_safeSound {s : State} (h : s.safeSound = true) : (freeArray s).safeSound = true := by
  obtain ⟨ms, ws, st, he⟩ := freeArray_frame s
  rw [he]; exact h

theorem Change.safeSound {s t : State} (h : Change s t) (hs : s.safeSound = true) : t.safeSound = true := by
  cases h with
  | plain h => rw [safeSound_iff, h.power, h.safe]; exact (safeSound_iff s).mp hs
  | power h => exact (safeSound_iff _).mpr h
  | ask => exact ask_safeSound hs
  | free => exact freeArray_safeSound hs
  | second =>
    obtain ⟨a, b, h⟩ := beginCycles_frame (passSecond s)
    rw [h]; exact hs
  | start => rfl
  | refit => exact hs
  | grantSlot => exact hs
  | register => exact hs
  | deregister => exact hs
  | denominations => exact hs
  | array => exact hs
  | notify => exact hs
  | noticeArea => exact hs
  | store => exact hs

theorem Moves.safeSound {s t : State} (h : Moves s t) : s.safeSound = true → t.safeSound = true :=
  h.keep (I := fun u => u.safeSound = true) (fun _ _ hc => hc.safeSound)
    (fun _ _ _ _ _ h hs => freeArray_safeSound (h hs)) (fun _ _ _ h hs => h hs)

/-! ## Machines and slots (07 R134, R145) -/

/-- The machines and the directory in ascending order, and each slot, of 1 to 32, held once. -/
structure State.Placed (s : State) : Prop where
  numbers : s.numbersAscend
  directory : directoryAscends s.nv.directory
  slots : (s.machines.filterMap MachineRecord.slot?).Nodup
  range : ∀ m ∈ s.machines, ∀ x, m.slot? = some x → 1 ≤ x.2 ∧ x.2 ≤ 32

theorem machinesSound_iff (s : State) : s.machinesSound = true ↔ s.Placed := by
  have hslots : s.heldSlots = s.machines.filterMap MachineRecord.slot? := rfl
  simp only [State.machinesSound, hslots, Bool.and_eq_true, decide_eq_true_eq, List.all_eq_true, List.mem_filterMap,
    forall_exists_index, and_imp]
  constructor
  · rintro ⟨⟨⟨h1, h2⟩, h3⟩, h4⟩
    exact ⟨h1, h2, h3, fun m hm x hx => h4 x m hm hx⟩
  · rintro ⟨h1, h2, h3, h4⟩
    exact ⟨⟨⟨h1, h2⟩, h3⟩, fun x m hm hx => h4 m hm x hx⟩

/-- Slots stay held once where each machine keeps its slot or loses it. -/
theorem slots_nodup_map {f : MachineRecord → MachineRecord} {ms : List MachineRecord}
    (hf : ∀ m ∈ ms, (f m).slot? = none ∨ (f m).slot? = m.slot?) (h : (ms.filterMap MachineRecord.slot?).Nodup) :
    ((ms.map f).filterMap MachineRecord.slot?).Nodup := by
  have hsub : ((ms.map f).filterMap MachineRecord.slot?).Sublist (ms.filterMap MachineRecord.slot?) := by
    induction ms with
    | nil => simp
    | cons m rest ih =>
      have hrest := ih (fun x hx => hf x (List.mem_cons_of_mem _ hx))
        (h.sublist (List.Sublist.filterMap _ (List.sublist_cons_self m rest)))
      rcases hf m List.mem_cons_self with hm | hm
      · rw [List.map_cons, List.filterMap_cons_none hm]
        exact hrest.trans (List.Sublist.filterMap _ (List.sublist_cons_self m rest))
      · cases hs : m.slot? with
        | none =>
          rw [List.map_cons, List.filterMap_cons_none (hm.trans hs), List.filterMap_cons_none hs]
          exact hrest
        | some x =>
          rw [List.map_cons, List.filterMap_cons_some (hm.trans hs), List.filterMap_cons_some hs]
          exact hrest.cons_cons x
  exact h.sublist hsub

/-- Machines that all keep their numbers, and their slots or lose them, stay placed. -/
theorem State.Placed.map {s : State} (h : s.Placed) {f : MachineRecord → MachineRecord} (hn : ∀ m ∈ s.machines, (f m).number = m.number)
    (hf : ∀ m ∈ s.machines, (f m).slot? = none ∨ (f m).slot? = m.slot?) :
    ({ s with machines := s.machines.map f } : State).Placed := by
  refine ⟨?_, h.directory, slots_nodup_map hf h.slots, fun m hm x hx => ?_⟩
  · have : (s.machines.map f).map MachineRecord.number = s.machines.map MachineRecord.number := by
      rw [List.map_map]
      exact List.map_congr_left hn
    show ((s.machines.map f).map MachineRecord.number).Pairwise (· < ·)
    rw [this]
    exact h.numbers
  · obtain ⟨y, hy, rfl⟩ := List.mem_map.mp hm
    rcases hf y hy with he | he
    · rw [he] at hx; simp at hx
    · exact h.range y hy x (he ▸ hx)

theorem State.Placed.of_same {s t : State} (h : s.Placed) (hm : t.machines = s.machines)
    (hd : t.nv.directory = s.nv.directory) : t.Placed := by
  obtain ⟨h1, h2, h3, h4⟩ := h
  exact ⟨by rw [State.numbersAscend, hm]; exact h1, by rw [hd]; exact h2, by rw [hm]; exact h3, by rw [hm]; exact h4⟩

theorem State.Placed.of_keeps {s t : State} (h : s.Placed) (hm : keepsMachines s.machines t.machines)
    (hd : t.nv.directory = s.nv.directory) : t.Placed := by
  obtain ⟨f, hf, he⟩ := hm
  refine (h.map (f := f) (fun m _ => (hf m).number) fun m _ => .inr ?_).of_same he hd
  rw [MachineRecord.slot?, (hf m).link]
  rfl

/-- A machine takes a slot that is its own, or that no other machine holds. -/
theorem State.Placed.grantSlot {s : State} (h : s.Placed) {n slot : Nat} {line : LineId} {m : MachineRecord}
    {f : MachineRecord → MachineRecord} (hm : s.machine? n = some m)
    (hf : ∀ x, ∃ y : MachineRecord, x.Same y ∧ f x = { y with link := .active ⟨line, slot, 0⟩ })
    (hfree : m.slot? = some (line, slot) ∨
      1 ≤ slot ∧ slot ≤ 32 ∧ ∀ x ∈ s.machines, x.number ≠ n → x.slot? ≠ some (line, slot)) :
    (s.onMachine n f).Placed := by
  have hmem := machine?_mem hm
  have hnumber : ∀ x, (f x).number = x.number := fun x => by
    obtain ⟨y, hy, he⟩ := hf x
    rw [he]; exact hy.number
  have hslot : ∀ x, (f x).slot? = some (line, slot) := fun x => by
    obtain ⟨y, -, he⟩ := hf x
    rw [he]; rfl
  have hrange : 1 ≤ slot ∧ slot ≤ 32 := by
    rcases hfree with hown | ⟨h1, h2, -⟩
    · exact h.range m hmem _ hown
    · exact ⟨h1, h2⟩
  have hother : ∀ x ∈ s.machines, x.number ≠ n → x.slot? ≠ some (line, slot) := by
    rcases hfree with hown | ⟨-, -, hfree⟩
    · intro x hx hne hsx
      have hinj : x = m := by
        by_contra hxm
        have hnodup := h.slots
        generalize s.machines = ms at hx hmem hnodup
        induction ms with
        | nil => simp at hx
        | cons y rest ih =>
          have hin : ∀ z ∈ rest, z.slot? = some (line, slot) → (line, slot) ∈ rest.filterMap MachineRecord.slot? :=
            fun z hz hs => List.mem_filterMap.mpr ⟨z, hz, hs⟩
          rcases List.mem_cons.mp hx with rfl | hx'
          · rw [List.filterMap_cons_some hsx, List.nodup_cons] at hnodup
            rcases List.mem_cons.mp hmem with he | hmem
            · exact hxm he.symm
            · exact hnodup.1 (hin m hmem hown)
          · rcases List.mem_cons.mp hmem with rfl | hmem
            · rw [List.filterMap_cons_some hown, List.nodup_cons] at hnodup
              exact hnodup.1 (hin x hx' hsx)
            · exact ih hx' hmem (hnodup.sublist (List.Sublist.filterMap _ (List.sublist_cons_self y rest)))
      rw [hinj, machine?_number hm] at hne
      exact hne rfl
    · exact hfree
  refine ⟨?_, h.directory, ?_, fun x hx z hz => ?_⟩
  · show ((s.onMachine n f).machines.map MachineRecord.number).Pairwise (· < ·)
    rw [onMachine_numbers n f s hnumber]
    exact h.numbers
  · have hnumbers := h.numbers
    have hnodup := h.slots
    rw [State.numbersAscend] at hnumbers
    show ((s.machines.map fun x => if x.number = n then f x else x).filterMap MachineRecord.slot?).Nodup
    clear hm hmem
    generalize s.machines = ms at hother hnumbers hnodup
    induction ms with
    | nil => simp
    | cons y rest ih =>
      simp only [List.map_cons, List.pairwise_cons] at hnumbers
      have hrest := ih (fun x hx => hother x (List.mem_cons_of_mem _ hx)) hnumbers.2
        (hnodup.sublist (List.Sublist.filterMap _ (List.sublist_cons_self y rest)))
      by_cases hy : y.number = n
      · have hsame : (rest.map fun x => if x.number = n then f x else x) = rest := by
          refine (List.map_congr_left fun x hx => if_neg ?_).trans (List.map_id rest)
          have := hnumbers.1 x.number (List.mem_map_of_mem hx)
          omega
        rw [List.map_cons, hsame, if_pos hy, List.filterMap_cons_some (hslot y), List.nodup_cons]
        rw [hsame] at hrest
        refine ⟨fun hin => ?_, hrest⟩
        obtain ⟨x, hx, hsx⟩ := List.mem_filterMap.mp hin
        have := hnumbers.1 x.number (List.mem_map_of_mem hx)
        exact hother x (List.mem_cons_of_mem _ hx) (by omega) hsx
      · rw [List.map_cons, if_neg hy]
        cases hs : y.slot? with
        | none => rw [List.filterMap_cons_none hs]; exact hrest
        | some z =>
          rw [List.filterMap_cons_some hs, List.nodup_cons]
          rw [List.filterMap_cons_some hs, List.nodup_cons] at hnodup
          refine ⟨fun hin => ?_, hrest⟩
          obtain ⟨x, hx, hsx⟩ := List.mem_filterMap.mp hin
          obtain ⟨w, hw, rfl⟩ := List.mem_map.mp hx
          by_cases hwn : w.number = n
          · rw [if_pos hwn, hslot] at hsx
            exact hother y List.mem_cons_self hy (hs.trans hsx.symm)
          · rw [if_neg hwn] at hsx
            exact hnodup.1 (List.mem_filterMap.mpr ⟨w, hw, hsx⟩)
  · obtain ⟨w, hw, rfl⟩ := List.mem_map.mp hx
    by_cases hwn : w.number = n
    · simp only [hwn, if_true, hslot, Option.some_inj] at hz
      rw [← hz]; exact hrange
    · simp only [hwn, if_false] at hz
      exact h.range w hw z hz

/-- A machine put in its place keeps the ascending order where its number is new. -/
theorem insertMachine_ascends {m : MachineRecord} {ms : List MachineRecord} (hnew : ∀ x ∈ ms, x.number ≠ m.number)
    (h : (ms.map MachineRecord.number).Pairwise (· < ·)) :
    ((insertMachine m ms).map MachineRecord.number).Pairwise (· < ·) := by
  induction ms with
  | nil => simp [insertMachine]
  | cons y rest ih =>
    simp only [List.map_cons, List.pairwise_cons, List.mem_map, forall_exists_index, and_imp,
      forall_apply_eq_imp_iff₂] at h
    obtain ⟨hy, hrest⟩ := h
    rw [insertMachine]
    split
    next hlt =>
      simp only [List.map_cons, List.pairwise_cons, List.mem_cons, List.mem_map, forall_eq_or_imp, forall_exists_index,
        and_imp, forall_apply_eq_imp_iff₂]
      exact ⟨⟨hlt, fun x hx => hlt.trans (hy x hx)⟩, hy, hrest⟩
    next hlt =>
      simp only [List.map_cons, List.pairwise_cons, List.mem_map, forall_exists_index, and_imp,
        forall_apply_eq_imp_iff₂]
      refine ⟨fun x hx => ?_, ih (fun x hx => hnew x (List.mem_cons_of_mem _ hx)) hrest⟩
      have := hnew y List.mem_cons_self
      rcases mem_insertMachine.mp hx with rfl | hx
      · omega
      · exact hy x hx

theorem insertMachine_slots {m : MachineRecord} {ms : List MachineRecord} (hm : m.slot? = none) :
    (insertMachine m ms).filterMap MachineRecord.slot? = ms.filterMap MachineRecord.slot? := by
  induction ms with
  | nil => simp [insertMachine, hm]
  | cons y rest ih =>
    rw [insertMachine]
    split
    · rw [List.filterMap_cons_none hm]
    · cases hs : y.slot? with
      | none => rw [List.filterMap_cons_none hs, List.filterMap_cons_none hs, ih]
      | some z => rw [List.filterMap_cons_some hs, List.filterMap_cons_some hs, ih]

theorem freshMachine_slot (n : Nat) (reg : Registration) : (freshMachine n reg).slot? = none := rfl

theorem State.Placed.register {s : State} (h : s.Placed) {n : Nat} {reg : Registration} (hn : s.machine? n = none) :
    ({ s with machines := insertMachine (freshMachine n reg) s.machines } : State).Placed := by
  have hnew : ∀ x ∈ s.machines, x.number ≠ n := by
    intro x hx he
    have := List.find?_eq_none.mp hn x hx
    simp [he] at this
  refine ⟨insertMachine_ascends hnew h.numbers, h.directory, ?_, fun m hm x hx => ?_⟩
  · show ((insertMachine (freshMachine n reg) s.machines).filterMap MachineRecord.slot?).Nodup
    rw [insertMachine_slots (freshMachine_slot n reg)]
    exact h.slots
  · rcases mem_insertMachine.mp hm with rfl | hm
    · rw [freshMachine_slot] at hx; simp at hx
    · exact h.range m hm x hx

theorem State.Placed.deregister {s : State} (h : s.Placed) (p : MachineRecord → Bool) :
    ({ s with machines := s.machines.filter p } : State).Placed :=
  ⟨List.Pairwise.sublist (List.filter_sublist.map _) h.numbers, h.directory,
    h.slots.sublist (List.Sublist.filterMap _ List.filter_sublist),
    fun m hm => h.range m (List.mem_of_mem_filter hm)⟩

theorem freeArray_nv (s : State) : (freeArray s).nv = s.nv := by
  obtain ⟨ms, ws, st, h⟩ := freeArray_frame s
  rw [h]

theorem ask_nv (op : StoreOp) (s : State) : (ask op s).nv = s.nv := by
  obtain ⟨pw, sf, ms, ws, st, h⟩ := ask_frame op s
  rw [h]

theorem Change.placed {s t : State} (h : Change s t) (hs : s.Placed) : t.Placed := by
  cases h with
  | plain h => exact hs.of_same h.machines h.directory
  | refit h => exact hs.map h.number (h.slot hs.numbers)
  | grantSlot hm hf hfree => exact hs.grantSlot hm hf hfree
  | register hn => exact hs.register hn
  | deregister => exact hs.deregister _
  | array h => exact ⟨hs.numbers, h hs.directory, hs.slots, hs.range⟩
  | @ask op => exact hs.of_keeps (ask_keepsMachines op s) (congrArg NvArray.directory (ask_nv op s))
  | @free c =>
    exact hs.of_keeps (freeArray_keepsMachines { s with store := c })
      (congrArg NvArray.directory (freeArray_nv { s with store := c }))
  | second =>
    obtain ⟨a, b, h⟩ := beginCycles_frame (passSecond s)
    rw [h]; exact hs.of_same rfl rfl
  | start => exact ⟨by simp [State.numbersAscend, beginStart, State.reset], hs.directory, by simp [beginStart, State.reset],
      by simp [beginStart, State.reset]⟩
  | denominations => exact hs.of_same rfl rfl
  | notify => exact hs.of_same rfl rfl
  | noticeArea => exact hs.of_same rfl rfl
  | store => exact hs.of_same rfl rfl
  | power => exact hs.of_same rfl rfl

theorem Moves.placed {s t : State} (h : Moves s t) : s.Placed → t.Placed :=
  h.keep (I := State.Placed) (fun _ _ hc => hc.placed)
    (fun s t _ _ _ h hs =>
      (h (hs.of_same (t := { s with store := s.store.ending }) rfl rfl)).of_keeps (freeArray_keepsMachines t)
        (congrArg NvArray.directory (freeArray_nv t)))
    (fun s _ timers h hs => (h (hs.of_same (t := { s with timers := timers }) rfl rfl)).of_same rfl rfl)

/-- What a start loads is placed where the store's directory is in order; no machine holds a slot (07 R134). -/
theorem loaded_placed {cause : StartCause} {s : State} (h : s.Placed) : (loaded cause s).Placed := by
  have hslot : ∀ m ∈ s.nv.directory.map (restoredMachine s.nv), m.slot? = none := by
    intro m hm
    obtain ⟨e, -, rfl⟩ := List.mem_map.mp hm
    rfl
  refine ⟨?_, h.directory, ?_, fun m hm x hx => ?_⟩
  · rw [State.numbersAscend, loaded_machines, List.map_map]
    exact h.directory
  · rw [loaded_machines, List.filterMap_eq_nil_iff.mpr hslot]
    exact List.nodup_nil
  · rw [hslot m hm] at hx
    simp at hx

/-- Settles O9, by what each elementary change makes of the power state, the machines and the directory. -/
theorem safeOutputFollowsParked : Obligations.SafeOutputFollowsParked := by
  refine ⟨fun s t hs h => ?_, fun s t hs h => ?_⟩
  · exact step_keeps (I := fun u => u.safeSound = true) (fun _ _ => id) Moves.safeSound hs (fun _ _ _ hu => hu) h
  · rw [machinesSound_iff] at hs ⊢
    exact step_keeps (I := State.Placed) (fun _ _ hu => hu.of_same rfl rfl) Moves.placed hs
      (fun _ _ _ hu => loaded_placed hu) h

/-! ## The arbiter (08 R153 to R162) -/

theorem arbiterSound_iff (s : State) : s.arbiterSound = true ↔ s.store.freeing = false ∧ s.store.Ordered := by
  cases hh : s.store.holder with
  | none =>
    simp only [State.arbiterSound, hh, Bool.and_eq_true, Bool.not_eq_true', List.all_eq_true, decide_eq_true_eq,
      Option.isNone_iff_eq_none]
    constructor
    · rintro ⟨⟨hf, hc⟩, hs, hw⟩
      exact ⟨hf, hc, fun _ => hs, fun _ _ => hw⟩
    · rintro ⟨hf, hc, hs, hw⟩
      exact ⟨⟨hf, hc⟩, hs hh, hw hh hf⟩
  | some x =>
    simp only [State.arbiterSound, hh, Bool.and_eq_true, Bool.not_eq_true', List.all_eq_true, decide_eq_true_eq, and_true]
    constructor
    · rintro ⟨hf, hc⟩
      exact ⟨hf, hc, fun hn => by simp [hh] at hn, fun hn => by simp [hh] at hn⟩
    · rintro ⟨hf, hc, -, -⟩
      exact ⟨hf, hc⟩

theorem Change.freeing {s t : State} (h : Change s t) (hs : s.store.freeing = false) : t.store.freeing = false := by
  cases h with
  | plain h => rw [h.store]; exact hs
  | ask => rw [ask_freeing]; exact hs
  | store _ _ h => exact h.trans hs
  | free => exact freeArray_freeing _
  | second =>
    obtain ⟨a, b, h⟩ := beginCycles_frame (passSecond s)
    rw [h]; exact hs
  | start => rfl
  | refit => exact hs
  | grantSlot => exact hs
  | register => exact hs
  | deregister => exact hs
  | denominations => exact hs
  | array => exact hs
  | notify => exact hs
  | noticeArea => exact hs
  | power => exact hs

theorem Change.ordered {s t : State} (h : Change s t) (hs : s.store.Ordered) : t.store.Ordered := by
  cases h with
  | plain h => rw [h.store]; exact hs
  | ask hlow hhigh => exact ask_ordered hlow hhigh hs
  | store h => exact h hs
  | free hclassed hidle => exact freeArray_ordered (s := { s with store := _ }) (hclassed hs) (hidle hs)
  | second =>
    obtain ⟨a, b, h⟩ := beginCycles_frame (passSecond s)
    rw [h]; exact hs
  | start => exact ⟨by simp [StoreControl.classed, beginStart, State.reset], fun _ => rfl,
      by simp [beginStart, State.reset]⟩
  | refit => exact hs
  | grantSlot => exact hs
  | register => exact hs
  | deregister => exact hs
  | denominations => exact hs
  | array => exact hs
  | notify => exact hs
  | noticeArea => exact hs
  | power => exact hs

theorem Change.counted {s t : State} (h : Change s t) (hs : s.store.Counted) : t.store.Counted := by
  cases h with
  | plain h => rw [h.store]; exact hs
  | ask => exact ask_counted hs
  | store _ h => exact h hs
  | free _ _ h => exact freeArray_counted (s := { s with store := _ }) (h hs)
  | second =>
    obtain ⟨a, b, h⟩ := beginCycles_frame (passSecond s)
    rw [h]; exact hs
  | start => exact ⟨by simp [beginStart, State.reset], by simp [beginStart, State.reset], by simp [beginStart, State.reset]⟩
  | refit => exact hs
  | grantSlot => exact hs
  | register => exact hs
  | deregister => exact hs
  | denominations => exact hs
  | array => exact hs
  | notify => exact hs
  | noticeArea => exact hs
  | power => exact hs

/-- While a completion is taken, anything may wait (08 R153). -/
theorem ending_ordered {c : StoreControl} (hs : c.serving = none) (h : c.Ordered) : c.ending.Ordered :=
  ⟨h.classed, fun _ => hs, fun _ hf => by simp [StoreControl.ending] at hf⟩

theorem Moves.ordered {s t : State} (h : Moves s t) : s.store.Ordered → t.store.Ordered :=
  h.keep (I := fun u => u.store.Ordered) (fun _ _ hc => hc.ordered)
    (fun _ _ _ hsv _ h hs => freeArray_ordered (h (ending_ordered hsv hs)).classed (h (ending_ordered hsv hs)).idle)
    (fun _ _ _ h hs => h hs)

theorem Moves.freeing {s t : State} (h : Moves s t) : s.store.freeing = false → t.store.freeing = false :=
  h.keep (I := fun u => u.store.freeing = false) (fun _ _ hc => hc.freeing)
    (fun _ _ _ _ _ _ _ => freeArray_freeing _) (fun _ _ _ h hs => h hs)

theorem Moves.counted {s t : State} (h : Moves s t) : s.store.Counted → t.store.Counted :=
  h.keep (I := fun u => u.store.Counted) (fun _ _ hc => hc.counted)
    (fun _ _ _ _ _ h hs => freeArray_counted (h ⟨hs.backlog, hs.urgent, hs.pointer⟩)) (fun _ _ _ h hs => h hs)

/-- What a start loads holds classes 4 to 6 back and leaves the rest of the arbiter as it was (11 R195). -/
theorem loaded_ordered {cause : StartCause} {s : State} (h : s.store.Ordered) : (loaded cause s).store.Ordered :=
  ⟨h.classed, h.idle, fun hn hf o ho => ⟨rfl, (h.waiting hn hf o ho).2⟩⟩

theorem countsSound_iff (s : State) : s.countsSound = true ↔ s.store.Counted := by
  simp only [State.countsSound, Bool.and_eq_true, decide_eq_true_eq]
  exact ⟨fun ⟨⟨h1, h2⟩, h3⟩ => ⟨h1, h2, h3⟩, fun ⟨h1, h2, h3⟩ => ⟨⟨h1, h2⟩, h3⟩⟩

/-- Settles O10, by what each elementary change makes of the store's state, and of an array that frees. -/
theorem arbiterOrderStays : Obligations.ArbiterOrderStays := by
  refine ⟨fun s t hs h => ?_, fun s t hs h => ?_⟩
  · rw [arbiterSound_iff] at hs ⊢
    exact step_keeps (I := fun u => u.store.freeing = false ∧ u.store.Ordered) (fun _ _ => id)
      (fun hm hu => ⟨hm.freeing hu.1, hm.ordered hu.2⟩) hs (fun _ _ _ hu => ⟨hu.1, loaded_ordered hu.2⟩) h
  · rw [countsSound_iff] at hs ⊢
    exact step_keeps (I := fun u => u.store.Counted) (fun _ _ => id) Moves.counted hs
      (fun _ _ _ hu => ⟨hu.backlog, hu.urgent, hu.pointer⟩) h

end Sys2Proof.Machine

/-! PROOFS. The step, reset, and the two ports while they are busy or not served. -/

namespace Sys2Proof.Machine

/-- Settles O1. -/
theorem stepRunsTheFrontCommand : Obligations.StepRunsTheFrontCommand := by
  refine ⟨fun c s => rfl, fun s h => ?_⟩
  unfold step
  rw [h]

/-- Settles O3: reset spells each value out. -/
theorem resetHoldsTheStartValues : Obligations.ResetHoldsTheStartValues := by
  refine ⟨rfl, rfl, rfl, rfl, rfl, rfl, rfl, by decide, rfl, rfl, rfl, rfl, rfl, rfl, rfl, rfl, rfl, rfl, rfl, rfl, rfl,
    rfl, rfl, rfl, fun slot h1 h32 => ?_, rfl, rfl, rfl, rfl, rfl, rfl, rfl, rfl, rfl, rfl, rfl⟩
  have henabled : ∀ slot < 33, 1 ≤ slot →
      State.reset.lineA.slotEnabled slot = true ∧ State.reset.lineB.slotEnabled slot = true := by decide
  exact henabled slot (by omega) h1

/-- Settles O11: with no machine, no operation and no notice, each invariant evaluates. -/
theorem resetMeetsTheInvariants : Obligations.ResetMeetsTheInvariants := by
  refine ⟨?_, ?_, ?_, ?_, ?_, ?_, ?_, ?_, ?_⟩ <;> decide

/-! ## The cabinet port (10 R182, R184) -/

/-- Every cabinet command is a transaction at the cabinet port. -/
theorem exec_of_cabinetArgs {c : Instr} {code : Nat} {args : List Byte} (h : cabinetArgs c = some (code, args)) :
    ∃ body, ∀ s, exec c s = .next (transaction body s) := by
  cases c
  case status | result | readSummary | fetchDrop | holdRequest | holdRelease | pendingSeal | pendingCancel |
      orderlyRestart | readNotices | advanceNotices | setClock | overrideToday | specialDayAdd | specialDayRemove |
      pendingBegin | pendingZone | setGuard | permitInsert | permitUpdate | permitDelete | permitRead | registerMachine |
      deregisterMachine | readMachine | clearCardTotals | roundSkip | setSlotEnable | setDenominations | setTimers |
      setFlag | clearFlag | ackFault | roundOpen | roundClose | roundCloseForced => exact ⟨_, fun _ => rfl⟩
  all_goals simp [cabinetArgs] at h

/-- The cabinet commands but Status, Result, ReadNotices and AdvanceNotices wait for the one outstanding (10 R184). -/
theorem exec_of_cabinetArgs_waiting {c : Instr} {code : Nat} {args : List Byte} (h : cabinetArgs c = some (code, args))
    (hserved : code ∉ [1, 2, 10, 11]) : ∃ body, ∀ s, exec c s = .next (command body s) := by
  cases c
  case status | result | readNotices | advanceNotices =>
    simp only [cabinetArgs, Option.some.injEq, Prod.mk.injEq] at h
    simp [← h.1] at hserved
  case readSummary | fetchDrop | holdRequest | holdRelease | pendingSeal | pendingCancel | orderlyRestart | setClock |
      overrideToday | specialDayAdd | specialDayRemove | pendingBegin | pendingZone | setGuard | permitInsert |
      permitUpdate | permitDelete | permitRead | registerMachine | deregisterMachine | readMachine | clearCardTotals |
      roundSkip | setSlotEnable | setDenominations | setTimers | setFlag | clearFlag | ackFault | roundOpen |
      roundClose | roundCloseForced => exact ⟨_, fun _ => rfl⟩
  all_goals simp [cabinetArgs] at h

/-- Settles O4. -/
theorem outstandingCommandMakesOthersBusy : Obligations.OutstandingCommandMakesOthersBusy := by
  intro c code args s h h1 h2 h10 h11 hl ho
  obtain ⟨body, hbody⟩ := exec_of_cabinetArgs_waiting h (by simp [h1, h2, h10, h11])
  rw [hbody, command_busy hl ho]

/-- Settles O5. -/
theorem startingDisregardsThePorts : Obligations.StartingDisregardsThePorts := by
  intro s hl
  constructor
  · intro c code args h
    obtain ⟨body, hbody⟩ := exec_of_cabinetArgs h
    rw [hbody]
    simp [transaction, hl]
  · intro key ch
    show Host.Outcome.next (portCharacter _ _ s) = .next s
    simp [portCharacter, hl]

end Sys2Proof.Machine

/-! PROOFS. Fields, and the frames of the cabinet port (12 R202, R204): what the fields carry is read back, and a frame is
decoded exactly where its length is the one of its command. -/

namespace Sys2Proof.Machine

/-! ## Fields -/

@[simp] theorem fits_iff {bits n : Nat} : fits bits n = true ↔ n < 2 ^ bits := by simp [fits]

theorem toNat_field {n : Nat} (h : n < 2 ^ 8) : (BitVec.ofNat 8 n).toNat = n := by simp [BitVec.toNat_ofNat]; omega

theorem beNat_byte1 {n : Nat} (h : n < 2 ^ 8) : beNat [BitVec.ofNat 8 n] = n := by
  simp [beNat, BitVec.toNat_ofNat]; omega

theorem beNat_byte2 {n : Nat} (h : n < 2 ^ 16) : beNat [BitVec.ofNat 8 (n / 256), BitVec.ofNat 8 n] = n := by
  simp [beNat, BitVec.toNat_ofNat]; omega

theorem beNat_byte3 {n : Nat} (h : n < 2 ^ 24) :
    beNat [BitVec.ofNat 8 (n / 65536), BitVec.ofNat 8 (n / 256), BitVec.ofNat 8 n] = n := by
  simp [beNat, BitVec.toNat_ofNat]; omega

theorem beNat_byte4 {n : Nat} (h : n < 2 ^ 32) :
    beNat [BitVec.ofNat 8 (n / 16777216), BitVec.ofNat 8 (n / 65536), BitVec.ofNat 8 (n / 256), BitVec.ofNat 8 n] = n := by
  simp [beNat, BitVec.toNat_ofNat]; omega

theorem dateArg_dateArgBytes {d : DateArg} (h : d.wf = true) :
    dateArg (BitVec.ofNat 8 d.yy) (BitVec.ofNat 8 d.mm) (BitVec.ofNat 8 d.dd) = d := by
  simp only [DateArg.wf, Bool.and_eq_true, fits_iff] at h
  obtain ⟨⟨hy, hm⟩, hd⟩ := h
  simp only [dateArg, toNat_field hy, toNat_field hm, toNat_field hd]

theorem words_flatMap_byte2 : ∀ {ns : List Nat}, (∀ n ∈ ns, n < 2 ^ 16) → words (ns.flatMap byte2) = ns
  | [], _ => rfl
  | n :: ns, h => by
    simp only [List.flatMap_cons, byte2, List.cons_append, List.nil_append, words, beNat_byte2 (h n (.head _))]
    rw [words_flatMap_byte2 fun m hm => h m (.tail _ hm)]

theorem length_flatMap_byte2 (ns : List Nat) : (ns.flatMap byte2).length = 2 * ns.length := by
  induction ns with
  | nil => rfl
  | cons n ns ih => simp [List.flatMap_cons, byte2, ih]; omega

/-- The field of a band in PendingZone (12 R204). -/
def bandBytes (b : BandArg) : List Byte := byte2 b.start ++ byte1 b.kind ++ byte2 b.rate

theorem bandArgs_flatMap : ∀ {bands : List BandArg},
    (∀ b ∈ bands, b.start < 2 ^ 16 ∧ b.kind < 2 ^ 8 ∧ b.rate < 2 ^ 16) → bandArgs (bands.flatMap bandBytes) = bands
  | [], _ => rfl
  | b :: bands, h => by
    obtain ⟨hs, hk, hr⟩ := h b (.head _)
    simp only [List.flatMap_cons, bandBytes, byte2, byte1, List.cons_append, List.nil_append, bandArgs, beNat_byte2 hs,
      toNat_field hk, beNat_byte2 hr]
    rw [bandArgs_flatMap fun b hb => h b (.tail _ hb)]

theorem length_flatMap_bandBytes (bands : List BandArg) : (bands.flatMap bandBytes).length = 5 * bands.length := by
  induction bands with
  | nil => rfl
  | cons n ns ih => simp [List.flatMap_cons, bandBytes, byte2, byte1, ih]; omega

/-! ## Masks (12 R204, log entry 59) -/

theorem testBit_maskOf : ∀ (present : List Bool) (i : Nat), (maskOf present).testBit i = present.getD i false
  | [], i => by simp [maskOf]
  | b :: present, i => by
    have hcons : maskOf (b :: present) = Nat.bit b (maskOf present) := by
      cases b <;> simp [maskOf, Nat.bit, Nat.add_comm]
    rw [hcons]
    cases i with
    | zero => simp
    | succ i => rw [Nat.testBit_bit_succ, testBit_maskOf present i]; rfl

theorem getLsbD_maskOf (present : List Bool) {i : Nat} (hi : i < 8) :
    (BitVec.ofNat 8 (maskOf present)).getLsbD i = present.getD i false := by
  rw [BitVec.getLsbD_ofNat, testBit_maskOf]
  simp [hi]

/-- A field carried is taken off the front, one left out takes nothing. -/
theorem maskedField_elim {α : Type} {mask : Byte} {bit n : Nat} {v : Option α} {f : α → List Byte} (rest : List Byte)
    (hbit : mask.getLsbD bit = v.isSome) (hlen : ∀ x, (f x).length = n) :
    maskedField mask bit n (v.elim [] f ++ rest) = (v.map f, rest) := by
  cases v with
  | none => simp [maskedField, hbit]
  | some x => simp [maskedField, hbit, ← hlen x]

theorem length_elim {α : Type} {v : Option α} {f : α → List Byte} {n : Nat} (hlen : ∀ x, (f x).length = n) :
    (v.elim [] f).length = if v.isSome then n else 0 := by
  cases v with
  | none => rfl
  | some x => exact hlen x

theorem map_beNat_byte2 {v : Option Nat} (h : fitsOption 16 v = true) : (v.map byte2).map beNat = v := by
  cases v with
  | none => rfl
  | some n => exact congrArg some (beNat_byte2 (fits_iff.mp h))

theorem map_beNat_byte1 {v : Option Nat} (h : fitsOption 8 v = true) : (v.map byte1).map beNat = v := by
  cases v with
  | none => rfl
  | some n => exact congrArg some (beNat_byte1 (fits_iff.mp h))

theorem bind_twoDates {v : Option (DateArg × DateArg)} (h : (v.all fun d => d.1.wf && d.2.wf) = true) :
    (v.map fun d => dateArgBytes d.1 ++ dateArgBytes d.2).bind twoDates = v := by
  cases v with
  | none => rfl
  | some d =>
    simp only [Option.all_some, Bool.and_eq_true] at h
    simp [dateArgBytes, byte1, twoDates, dateArg_dateArgBytes h.1, dateArg_dateArgBytes h.2]

/-- A field of two bytes is taken off the front of the fields that a list of options carries. -/
theorem maskedField_flatMap {mask : Byte} {bit : Nat} {v : Option Nat} (vs : List (Option Nat))
    (hbit : mask.getLsbD bit = v.isSome) :
    maskedField mask bit 2 ((v :: vs).flatMap fun v => v.elim [] byte2) =
      (v.map byte2, vs.flatMap fun v => v.elim [] byte2) := maskedField_elim _ hbit fun _ => rfl

theorem length_flatMap_elim (vs : List (Option Nat)) :
    (vs.flatMap fun v => v.elim [] byte2).length = (vs.map fun v => if v.isSome then 2 else 0).sum := by
  rw [List.length_flatMap]
  congr 1
  exact List.map_congr_left fun v _ => length_elim fun _ => rfl

/-! ## What a frame names -/

/-- A PermitUpdate of the length that its mask gives is read field by field. -/
theorem cabinetOfArgs_of_maskedFields (key : KeyInput) {a b c d mask : Byte} {rest rest1 rest2 rest3 rest4 : List Byte}
    {state dates zones balance : Option (List Byte)} (hlen : rest.length = maskedLength mask [1, 6, 2, 2])
    (h0 : maskedField mask 0 1 rest = (state, rest1)) (h1 : maskedField mask 1 6 rest1 = (dates, rest2))
    (h2 : maskedField mask 2 2 rest2 = (zones, rest3)) (h3 : maskedField mask 3 2 rest3 = (balance, rest4)) :
    cabinetOfArgs key 20 (a :: b :: c :: d :: mask :: rest) =
      some (.permitUpdate ⟨beNat [a, b, c, d], state.map beNat, dates.bind twoDates, zones.map beNat, balance.map beNat⟩) := by
  have hdecode : cabinetOfArgs key 20 (a :: b :: c :: d :: mask :: rest) =
      if rest.length == maskedLength mask [1, 6, 2, 2] then
        let f0 := maskedField mask 0 1 rest
        let f1 := maskedField mask 1 6 f0.2
        let f2 := maskedField mask 2 2 f1.2
        some (.permitUpdate ⟨beNat [a, b, c, d], f0.1.map beNat, f1.1.bind twoDates, f2.1.map beNat,
          (maskedField mask 3 2 f2.2).1.map beNat⟩)
      else none := rfl
  simp only [hdecode, hlen, beq_self_eq_true, if_true, h0, h1, h2, h3]

theorem cabinetOfArgs_permitUpdate (key : KeyInput) {a : PermitChange} (hwf : (Instr.permitUpdate a).wf = true)
    {args : List Byte} (h : cabinetArgs (.permitUpdate a) = some (20, args)) :
    args.length < 2 ^ 8 ∧ cabinetOfArgs key 20 args = some (.permitUpdate a) := by
  simp only [cabinetArgs, Option.some.injEq, Prod.mk.injEq, List.append_assoc, true_and] at h
  simp only [Instr.wf, Bool.and_eq_true, fits_iff] at hwf
  obtain ⟨⟨⟨⟨hn, hs⟩, hd⟩, hz⟩, hb⟩ := hwf
  obtain ⟨mask, hdef⟩ : ∃ mask, mask = BitVec.ofNat 8 (maskOf [a.state.isSome, a.dates.isSome, a.zones.isSome, a.balance.isSome]) :=
    ⟨_, rfl⟩
  have hmask (i : Nat) (hi : i < 8) : mask.getLsbD i = _ := hdef ▸ getLsbD_maskOf _ hi
  have hb0 : mask.getLsbD 0 = a.state.isSome := hmask 0 (by decide)
  have hb1 : mask.getLsbD 1 = a.dates.isSome := hmask 1 (by decide)
  have hb2 : mask.getLsbD 2 = a.zones.isSome := hmask 2 (by decide)
  have hb3 : mask.getLsbD 3 = a.balance.isSome := hmask 3 (by decide)
  have hlen : ((a.state.elim [] byte1) ++ ((a.dates.elim [] fun d => dateArgBytes d.1 ++ dateArgBytes d.2) ++
      (a.zones.elim [] byte2 ++ a.balance.elim [] byte2))).length = maskedLength mask [1, 6, 2, 2] := by
    simp only [List.length_append, length_elim (f := byte1) (n := 1) fun _ => rfl,
      length_elim (f := byte2) (n := 2) fun _ => rfl,
      length_elim (f := fun d : DateArg × DateArg => dateArgBytes d.1 ++ dateArgBytes d.2) (n := 6) fun _ => rfl]
    simp [maskedLength, hb0, hb1, hb2, hb3, -BitVec.getLsbD_eq_getElem]
  have h3 := maskedField_elim (f := byte2) (n := 2) [] hb3 fun _ => rfl
  rw [List.append_nil] at h3
  subst h
  refine ⟨?_, ?_⟩
  · have hmax : maskedLength mask [1, 6, 2, 2] ≤ 11 := by
      simp only [maskedLength, List.zipIdx, List.map_cons, List.map_nil, List.sum_cons, List.sum_nil]
      split <;> split <;> split <;> split <;> decide
    rw [List.length_append, List.length_append, hlen]
    simp only [byte4, byte1, List.length_cons, List.length_nil]
    omega
  · have hfields := cabinetOfArgs_of_maskedFields key (a := BitVec.ofNat 8 (a.number / 16777216))
      (b := BitVec.ofNat 8 (a.number / 65536)) (c := BitVec.ofNat 8 (a.number / 256)) (d := BitVec.ofNat 8 a.number) hlen
      (maskedField_elim _ hb0 fun _ => rfl) (maskedField_elim _ hb1 fun _ => rfl) (maskedField_elim _ hb2 fun _ => rfl) h3
    rw [beNat_byte4 hn, map_beNat_byte1 hs, bind_twoDates hd, map_beNat_byte2 hz, map_beNat_byte2 hb, hdef] at hfields
    exact hfields

/-- The fields of a SetTimers, one after another. -/
theorem cabinetOfArgs_timers (key : KeyInput) (mask : Byte) (rest : List Byte) :
    cabinetOfArgs key 30 (mask :: rest) =
      if rest.length == maskedLength mask [2, 2, 2, 2, 2, 2, 2] then
        let f0 := maskedField mask 0 2 rest
        let f1 := maskedField mask 1 2 f0.2
        let f2 := maskedField mask 2 2 f1.2
        let f3 := maskedField mask 3 2 f2.2
        let f4 := maskedField mask 4 2 f3.2
        let f5 := maskedField mask 5 2 f4.2
        some (.setTimers ⟨f0.1.map beNat, f1.1.map beNat, f2.1.map beNat, f3.1.map beNat, f4.1.map beNat, f5.1.map beNat,
          (maskedField mask 6 2 f5.2).1.map beNat⟩)
      else none := rfl

theorem cabinetOfArgs_setTimers (key : KeyInput) {a : TimerArgs} (hwf : (Instr.setTimers a).wf = true)
    {args : List Byte} (h : cabinetArgs (.setTimers a) = some (30, args)) :
    args.length < 2 ^ 8 ∧ cabinetOfArgs key 30 args = some (.setTimers a) := by
  simp only [cabinetArgs, Option.some.injEq, Prod.mk.injEq, true_and] at h
  simp only [Instr.wf, List.all_cons, List.all_nil, Bool.and_eq_true] at hwf
  obtain ⟨vs, hvs⟩ : ∃ vs, vs = [a.lifetime, a.holdLimit, a.silence, a.release, a.period, a.threshold, a.timeout] := ⟨_, rfl⟩
  obtain ⟨mask, hdef⟩ : ∃ mask, mask = BitVec.ofNat 8 (maskOf (vs.map Option.isSome)) := ⟨_, rfl⟩
  have hmask (i : Nat) (hi : i < 8) : mask.getLsbD i = _ := hdef ▸ getLsbD_maskOf _ hi
  rw [hvs] at hmask
  have hlen : (vs.flatMap fun v => v.elim [] byte2).length = maskedLength mask [2, 2, 2, 2, 2, 2, 2] := by
    rw [length_flatMap_elim, hvs]
    simp [maskedLength, hmask, -BitVec.getLsbD_eq_getElem]
  have hmax : maskedLength mask [2, 2, 2, 2, 2, 2, 2] ≤ 14 := by
    rw [← hlen, length_flatMap_elim, hvs]
    simp only [List.map_cons, List.map_nil, List.sum_cons, List.sum_nil]
    split_ifs <;> decide
  have hb0 : mask.getLsbD 0 = a.lifetime.isSome := hmask 0 (by decide)
  have hb1 : mask.getLsbD 1 = a.holdLimit.isSome := hmask 1 (by decide)
  have hb2 : mask.getLsbD 2 = a.silence.isSome := hmask 2 (by decide)
  have hb3 : mask.getLsbD 3 = a.release.isSome := hmask 3 (by decide)
  have hb4 : mask.getLsbD 4 = a.period.isSome := hmask 4 (by decide)
  have hb5 : mask.getLsbD 5 = a.threshold.isSome := hmask 5 (by decide)
  have hb6 : mask.getLsbD 6 = a.timeout.isSome := hmask 6 (by decide)
  obtain rfl : mask :: vs.flatMap (fun v => v.elim [] byte2) = args := by rw [← h, ← hvs, hdef]; rfl
  refine ⟨by simp only [List.length_cons, hlen]; omega, ?_⟩
  rw [cabinetOfArgs_timers, if_pos (beq_iff_eq.mpr hlen)]
  subst hvs
  simp only [maskedField_flatMap _ hb0, maskedField_flatMap _ hb1,
    maskedField_flatMap _ hb2, maskedField_flatMap _ hb3, maskedField_flatMap _ hb4, maskedField_flatMap _ hb5,
    maskedField_flatMap _ hb6, map_beNat_byte2, hwf]


theorem cabinetOfArgs_cabinetArgs {c : Instr} {code : Nat} {args : List Byte} (key : KeyInput) (hwf : c.wf = true)
    (h : cabinetArgs c = some (code, args)) :
    code < 2 ^ 8 ∧ args.length < 2 ^ 8 ∧ cabinetOfArgs key code args = some (c.atKey key) := by
  cases c
  case status | result | readSummary | fetchDrop | holdRequest | holdRelease | pendingSeal | pendingCancel |
      orderlyRestart =>
    simp only [cabinetArgs, Option.some.injEq, Prod.mk.injEq] at h
    obtain ⟨rfl, rfl⟩ := h
    exact ⟨by decide, by decide, rfl⟩
  case readNotices | advanceNotices | setClock | overrideToday | specialDayAdd | specialDayRemove |
      pendingBegin | setGuard | permitInsert | permitDelete | permitRead | registerMachine |
      deregisterMachine | readMachine | clearCardTotals | roundSkip | setSlotEnable  |
      setFlag | clearFlag | ackFault =>
    simp only [cabinetArgs, Option.some.injEq, Prod.mk.injEq] at h
    obtain ⟨rfl, rfl⟩ := h
    simp only [Instr.wf, Bool.and_eq_true, fits_iff] at hwf
    refine ⟨by decide, by simp [byte1, byte2, byte4, dateArgBytes], ?_⟩
    conv_lhs => whnf
    simp only [Instr.atKey, beNat_byte2, beNat_byte4, toNat_field, dateArg_dateArgBytes, hwf]
  case setDenominations v =>
    simp only [cabinetArgs, Option.some.injEq, Prod.mk.injEq] at h
    obtain ⟨rfl, rfl⟩ := h
    simp only [Instr.wf, Octet.toList, List.all_cons, List.all_nil, Bool.and_eq_true, fits_iff] at hwf
    refine ⟨by decide, by rw [length_flatMap_byte2]; exact (by decide : 2 * 8 < 2 ^ 8), ?_⟩
    conv_lhs => whnf
    simp only [Instr.atKey, beNat_byte2, hwf]
  case pendingZone key' a =>
    simp only [cabinetArgs, Option.some.injEq, Prod.mk.injEq] at h
    obtain ⟨rfl, h⟩ := h
    simp only [Instr.wf, Bool.and_eq_true, fits_iff, decide_eq_true_eq, List.all_eq_true] at hwf
    obtain ⟨⟨⟨⟨⟨⟨⟨⟨hz, hmin⟩, hmax⟩, hdis⟩, hvis⟩, hcar⟩, hday⟩, hlen⟩, hbands⟩ := hwf
    obtain ⟨rest, hrest, hlength, hargs⟩ : ∃ rest, bandArgs rest = a.bands ∧ rest.length = 5 * a.bands.length ∧
        byte1 a.zone ++ byte2 a.minimum ++ byte2 a.maxStay ++ byte1 a.discount ++ byte2 a.visitorRate ++
          byte1 a.carryOver ++ byte1 a.dayClass ++ byte1 a.bands.length ++ rest = args :=
      ⟨a.bands.flatMap bandBytes, bandArgs_flatMap fun b hb => ⟨(hbands b hb).1.1, (hbands b hb).1.2, (hbands b hb).2⟩,
        length_flatMap_bandBytes _, h⟩
    subst hargs
    have hcount : (BitVec.ofNat 8 a.bands.length).toNat = a.bands.length := toNat_field (by omega)
    refine ⟨by decide, by simp [byte1, byte2]; omega, (if_pos (by simp [hcount, hlen, hlength])).trans ?_⟩
    simp only [Instr.atKey, beNat_byte2, toNat_field, List.append_eq, List.nil_append, *]
  case permitUpdate a =>
    obtain rfl : 20 = code := congrArg Prod.fst (Option.some.inj h)
    exact ⟨by decide, cabinetOfArgs_permitUpdate key hwf h⟩
  case setTimers a =>
    obtain rfl : 30 = code := congrArg Prod.fst (Option.some.inj h)
    exact ⟨by decide, cabinetOfArgs_setTimers key hwf h⟩
  case roundOpen ms =>
    simp only [cabinetArgs, Option.some.injEq, Prod.mk.injEq] at h
    obtain ⟨rfl, rfl⟩ := h
    simp only [Instr.wf, Bool.and_eq_true, decide_eq_true_eq, List.all_eq_true, fits_iff] at hwf
    obtain ⟨hlen, hms⟩ := hwf
    have hcount : (BitVec.ofNat 8 ms.length).toNat = ms.length := toNat_field (by omega)
    have hlength := length_flatMap_byte2 ms
    refine ⟨by decide, by simp only [byte1, List.length_append, List.length_singleton, hlength]; omega, ?_⟩
    refine (if_pos (by rw [hcount, beq_iff_eq]; exact hlength)).trans ?_
    exact congrArg (fun x => some (Instr.roundOpen x)) (words_flatMap_byte2 hms)
  case roundClose a =>
    simp only [cabinetArgs, Option.some.injEq, Prod.mk.injEq] at h
    obtain ⟨rfl, rfl⟩ := h
    simp only [Instr.wf, Bool.and_eq_true, fits_iff, bne_iff_ne] at hwf
    refine ⟨by decide, by simp [byte1], (if_neg ?_).trans ?_⟩
    · rw [toNat_field hwf.1]; exact hwf.2
    · rw [toNat_field hwf.1]; rfl
  case roundCloseForced =>
    simp only [cabinetArgs, Option.some.injEq, Prod.mk.injEq] at h
    obtain ⟨rfl, rfl⟩ := h
    exact ⟨by decide, by decide, rfl⟩
  all_goals simp [cabinetArgs] at h

/-! ## The length of a command (10 R183) -/

/-- No code above 35 names a command. -/
theorem lengthOfCommand_above {code : Nat} (h : 35 < code) (args : List Byte) : lengthOfCommand code args = none := by
  unfold lengthOfCommand
  repeat rw [if_neg (by omega)]

/-- The commands of fixed length but RoundClose: what they are decoded from has that length, and all that has it is. -/
theorem decodes_fixed (key : KeyInput) {code n : Nat} (h : lengthOfCommand code [] = some n) (hne : code ≠ 35)
    (args : List Byte) :
    lengthOfCommand code args = some n ∧ (cabinetOfArgs key code args).isSome = (args.length == n) := by
  have hcode : code < 35 := by
    by_contra hlarge
    rw [lengthOfCommand_above (by omega)] at h
    cases h
  interval_cases code
  all_goals
    simp only [lengthOfCommand] at h
    simp at h
  all_goals
    subst h
    refine ⟨rfl, ?_⟩
    rcases args with _ | ⟨a1, _ | ⟨a2, _ | ⟨a3, _ | ⟨a4, _ | ⟨a5, _ | ⟨a6, _ | ⟨a7, _ | ⟨a8, _ | ⟨a9, _ | ⟨a10, _ | ⟨a11, _ |
      ⟨a12, _ | ⟨a13, _ | ⟨a14, _ | ⟨a15, _ | ⟨a16, _ | ⟨a17, _ | ⟨a18, args⟩⟩⟩⟩⟩⟩⟩⟩⟩⟩⟩⟩⟩⟩⟩⟩⟩⟩ <;> rfl

theorem decodes_roundClose (key : KeyInput) (args : List Byte) :
    (cabinetOfArgs key 35 args).isSome = true ↔ lengthOfCommand 35 args = some args.length := by
  rcases args with _ | ⟨a, _ | ⟨b, rest⟩⟩
  · exact iff_of_false Bool.false_ne_true (by simp [lengthOfCommand])
  · refine iff_of_true ?_ rfl
    have hdecode : cabinetOfArgs key 35 [a] = if a.toNat = 1 then some .roundCloseForced else some (.roundClose a.toNat) := rfl
    rw [hdecode]
    split <;> rfl
  · exact iff_of_false Bool.false_ne_true (by simp [lengthOfCommand])

theorem decodes_roundOpen (key : KeyInput) (args : List Byte) :
    (cabinetOfArgs key 34 args).isSome = true ↔ lengthOfCommand 34 args = some args.length := by
  rcases args with _ | ⟨n, rest⟩
  · exact iff_of_false Bool.false_ne_true (by simp [lengthOfCommand])
  · have hdecode : cabinetOfArgs key 34 (n :: rest) = if rest.length == 2 * n.toNat then some (.roundOpen (words rest)) else none :=
      rfl
    have hlength : lengthOfCommand 34 (n :: rest) = some (1 + 2 * n.toNat) := rfl
    rw [hdecode, hlength, Option.some.injEq, List.length_cons]
    split
    next h => simp only [beq_iff_eq] at h; simp [h, Nat.add_comm]
    next h => simp only [beq_iff_eq] at h; simp; omega

theorem decodes_setTimers (key : KeyInput) (args : List Byte) :
    (cabinetOfArgs key 30 args).isSome = true ↔ lengthOfCommand 30 args = some args.length := by
  rcases args with _ | ⟨mask, rest⟩
  · exact iff_of_false Bool.false_ne_true (by simp [lengthOfCommand])
  · have hlength : lengthOfCommand 30 (mask :: rest) = some (1 + maskedLength mask [2, 2, 2, 2, 2, 2, 2]) := rfl
    rw [cabinetOfArgs_timers, hlength, Option.some.injEq, List.length_cons]
    split
    next h => simp only [beq_iff_eq] at h; simp [h, Nat.add_comm]
    next h => simp only [beq_iff_eq] at h; simp; omega

theorem decodes_permitUpdate (key : KeyInput) (args : List Byte) :
    (cabinetOfArgs key 20 args).isSome = true ↔ lengthOfCommand 20 args = some args.length := by
  rcases args with _ | ⟨a, _ | ⟨b, _ | ⟨c, _ | ⟨d, _ | ⟨mask, rest⟩⟩⟩⟩⟩
  case cons.cons.cons.cons.cons =>
    have hlength : lengthOfCommand 20 (a :: b :: c :: d :: mask :: rest) = some (5 + maskedLength mask [1, 6, 2, 2]) := rfl
    rw [hlength, Option.some.injEq]
    simp only [List.length_cons]
    by_cases h : rest.length = maskedLength mask [1, 6, 2, 2]
    · refine iff_of_true ?_ (by omega)
      rw [cabinetOfArgs_of_maskedFields key h rfl rfl rfl rfl]; rfl
    · have hdecode : cabinetOfArgs key 20 (a :: b :: c :: d :: mask :: rest) = none := if_neg (by simpa using h)
      rw [hdecode]
      exact iff_of_false Bool.false_ne_true (by omega)
  all_goals exact iff_of_false Bool.false_ne_true (by simp [lengthOfCommand])

theorem decodes_pendingZone (key : KeyInput) (args : List Byte) :
    (cabinetOfArgs key 17 args).isSome = true ↔ lengthOfCommand 17 args = some args.length := by
  rcases args with _ | ⟨a1, _ | ⟨a2, _ | ⟨a3, _ | ⟨a4, _ | ⟨a5, _ | ⟨a6, _ | ⟨a7, _ | ⟨a8, _ | ⟨a9, _ | ⟨a10, _ | ⟨n, rest⟩⟩⟩⟩⟩⟩⟩⟩⟩⟩⟩
  case cons.cons.cons.cons.cons.cons.cons.cons.cons.cons.cons =>
    have hlength : lengthOfCommand 17 (a1 :: a2 :: a3 :: a4 :: a5 :: a6 :: a7 :: a8 :: a9 :: a10 :: n :: rest) =
      if n.toNat ≤ 15 then some (11 + 5 * n.toNat) else none := rfl
    have hdecode : cabinetOfArgs key 17 (a1 :: a2 :: a3 :: a4 :: a5 :: a6 :: a7 :: a8 :: a9 :: a10 :: n :: rest) =
      if n.toNat ≤ 15 && rest.length == 5 * n.toNat then
        some (.pendingZone key ⟨a1.toNat, beNat [a2, a3], beNat [a4, a5], a6.toNat, beNat [a7, a8], a9.toNat, a10.toNat,
          bandArgs rest⟩)
      else none := rfl
    rw [hlength, hdecode]
    by_cases hn : n.toNat ≤ 15
    · simp [hn]; omega
    · simp [hn]
  all_goals exact iff_of_false Bool.false_ne_true (by simp [lengthOfCommand])

/-- A code with its arguments is decoded exactly where they have the length of its command. -/
theorem decodes_iff (key : KeyInput) (code : Nat) (args : List Byte) :
    (cabinetOfArgs key code args).isSome = true ↔ lengthOfCommand code args = some args.length := by
  by_cases h35 : code = 35
  · exact h35 ▸ decodes_roundClose key args
  rcases h : lengthOfCommand code [] with _ | n
  · by_cases hlarge : 35 < code
    · rw [lengthOfCommand_above hlarge]
      refine iff_of_false ?_ (by simp)
      obtain ⟨k, rfl⟩ : ∃ k, code = k + 36 := ⟨code - 36, by omega⟩
      exact Bool.false_ne_true
    · have hcases : code = 0 ∨ code = 17 ∨ code = 20 ∨ code = 30 ∨ code = 34 := by
        revert h
        interval_cases code <;> simp [lengthOfCommand]
      rcases hcases with rfl | rfl | rfl | rfl | rfl
      · exact iff_of_false Bool.false_ne_true (by simp [lengthOfCommand])
      · exact decodes_pendingZone key args
      · exact decodes_permitUpdate key args
      · exact decodes_setTimers key args
      · exact decodes_roundOpen key args
  · obtain ⟨hlength, hdecode⟩ := decodes_fixed key h h35 args
    rw [hlength, hdecode, beq_iff_eq, Option.some.injEq, eq_comm]

/-- The whole bytes of a cabinet transaction: a command where the frame check of 10 R183 passes. -/
theorem cabinetCommand_eq_none_iff (key : KeyInput) (edges : Nat) (bytes : List Byte) :
    cabinetCommand key edges bytes = none ↔ frameRejected edges bytes := by
  unfold cabinetCommand frameRejected
  by_cases hedges : edges % 8 = 0
  · rcases bytes with _ | ⟨code, _ | ⟨length, rest⟩⟩
    case cons.cons =>
      by_cases hshort : rest.length < length.toNat
      · simp [hedges, hshort]
      · have hiff := decodes_iff key code.toNat (rest.take length.toNat)
        rw [List.length_take_of_le (by omega)] at hiff
        simp only [hedges, bne_self_eq_false, Bool.false_eq_true, if_false, hshort, ne_eq, not_true_eq_false, false_or,
          ← hiff, Bool.not_eq_true, Option.isSome_eq_false_iff, Option.isNone_iff_eq_none]
    all_goals simp [hedges]
  · simp [hedges]

/-- Settles O12. -/
theorem cabinetFramesDecodeToTheirCommands : Obligations.CabinetFramesDecodeToTheirCommands := by
  refine ⟨fun key c frame after hwf h => ?_, cabinetCommand_eq_none_iff⟩
  obtain ⟨⟨code, args⟩, hargs, rfl⟩ := Option.map_eq_some_iff.mp h
  obtain ⟨hcode, hlength, hdecode⟩ := cabinetOfArgs_cabinetArgs key hwf hargs
  have hcode' : code % 256 = code := Nat.mod_eq_of_lt hcode
  have hlength' : args.length % 256 = args.length := Nat.mod_eq_of_lt hlength
  simp [cabinetCommand, byte1, hcode', hlength', hdecode]

end Sys2Proof.Machine

/-! PROOFS. The receiver of a machine line (07 R127, 12 R203): the CRC, the frames heard, and the commands they carry. -/

namespace Sys2Proof.Machine

/-! ## The CRC -/

theorem crcBit_eq (crc : BitVec 16) (bit : Bool) :
    crcBit crc bit = (crc <<< 1) ^^^ (if crc.getLsbD 15 = bit then 0#16 else 0x1021#16) := by
  have hmsb : crc.msb = crc.getLsbD 15 := rfl
  by_cases h : crc.getLsbD 15 = bit <;> simp [crcBit, hmsb, h, -BitVec.getLsbD_eq_getElem]

theorem crc16_append (bytes : List Byte) (b : Byte) : crc16 (bytes ++ [b]) = crcByte (crc16 bytes) b := by
  simp [crc16]

/-- The CRC field, high byte first, is the number that it is compared with. -/
theorem byte2_eq_iff {c : BitVec 16} {high low : Byte} : byte2 c.toNat = [high, low] ↔ c.toNat = beNat [high, low] := by
  have hc := c.isLt
  have hh := high.isLt
  have hl := low.isLt
  simp only [byte2, List.cons.injEq, and_true, beNat, List.foldl_cons, List.foldl_nil, ← BitVec.toNat_inj, BitVec.toNat_ofNat]
  omega

/-! ## The frames heard -/

theorem lengthAllowed_iff {contents : List Byte} :
    lengthAllowed contents = true ↔ ∃ kind, contents[0]? = some kind ∧
      (kind = 1 ∧ contents.length = 13 ∨ kind = 2 ∧ contents.length = 3 ∨
        kind = 3 ∧ (∃ n : Byte, contents[3]? = some n ∧ n.toNat ≤ 15 ∧ contents.length = 4 + n.toNat) ∨
        kind = 4 ∧ contents.length = 11 ∨
        kind = 5 ∧ (∃ n : Byte, contents[14]? = some n ∧ n.toNat ≤ 15 ∧ contents.length = 15 + 2 * n.toNat) ∨
        kind = 6 ∧ contents.length = 3 ∨ kind = 7 ∧ contents.length = 5) := by
  rcases contents with _ | ⟨kind, rest⟩
  · simp [lengthAllowed]
  have hkind (n : Nat) (hn : n < 256) : kind = BitVec.ofNat 8 n ↔ kind.toNat = n := by
    rw [← BitVec.toNat_inj, toNat_field hn]
  have h1 : kind = 1 ↔ kind.toNat = 1 := hkind 1 (by decide)
  have h2 : kind = 2 ↔ kind.toNat = 2 := hkind 2 (by decide)
  have h3 : kind = 3 ↔ kind.toNat = 3 := hkind 3 (by decide)
  have h4 : kind = 4 ↔ kind.toNat = 4 := hkind 4 (by decide)
  have h5 : kind = 5 ↔ kind.toNat = 5 := hkind 5 (by decide)
  have h6 : kind = 6 ↔ kind.toNat = 6 := hkind 6 (by decide)
  have h7 : kind = 7 ↔ kind.toNat = 7 := hkind 7 (by decide)
  have hcoins : (kind :: rest)[14]? = (rest.drop 13)[0]? := by simp
  simp only [List.getElem?_cons_zero, Option.some.injEq, exists_eq_left', h1, h2, h3, h4, h5, h6, h7, hcoins]
  unfold lengthAllowed
  dsimp only
  split
  case h_3 hk =>
    rcases rest with _ | ⟨a, _ | ⟨b, _ | ⟨n, rest⟩⟩⟩ <;> simp [hk]
  case h_5 hk =>
    rcases rest.drop 13 with _ | ⟨n, after⟩ <;> simp [hk]
  case h_8 _ n1 n2 n3 n4 n5 n6 n7 =>
    simp only [Bool.false_eq_true, false_iff]
    rintro (⟨hk, -⟩ | ⟨hk, -⟩ | ⟨hk, -⟩ | ⟨hk, -⟩ | ⟨hk, -⟩ | ⟨hk, -⟩ | ⟨hk, -⟩)
    exacts [n1 hk, n2 hk, n3 hk, n4 hk, n5 hk, n6 hk, n7 hk]
  all_goals simp [*]

theorem frameHeard_iff {length high low : Byte} {contents : List Byte} :
    frameHeard length contents high low = true ↔ frameSound length contents high low := by
  rw [frameHeard, Bool.and_eq_true, beq_iff_eq, ← byte2_eq_iff, lengthAllowed_iff]
  rfl

/-- Bytes before the first sync byte are disregarded. -/
theorem dropWhile_noise {before : List Byte} (h : ∀ b ∈ before, b ≠ 0xC3#8) (rest : List Byte) :
    (before ++ 0xC3#8 :: rest).dropWhile (· != 0xC3#8) = 0xC3#8 :: rest := by
  rw [List.dropWhile_append_of_pos (by simpa using h)]
  simp

/-- More fuel than bytes makes no difference: a frame tried takes a byte at least. -/
theorem hearFrame_fuel : ∀ {f g : Nat} {bytes : List Byte}, bytes.length < f → bytes.length < g →
    hearFrame f bytes = hearFrame g bytes := by
  intro f
  induction f with
  | zero => intro g bytes h; omega
  | succ f ih =>
    intro g bytes hf hg
    obtain ⟨g, rfl⟩ : ∃ k, g = k + 1 := ⟨g - 1, by omega⟩
    simp only [hearFrame]
    have hdrop := (List.dropWhile_sublist (· != 0xC3#8) (l := bytes)).length_le
    split
    next x length rest heq =>
      rw [heq] at hdrop
      split
      next high low after hafter =>
        have hle : after.length < rest.length := by
          have := congrArg List.length hafter
          simp only [List.length_drop, List.length_cons] at this
          omega
        simp only [List.length_cons] at hdrop
        split
        · rfl
        · exact ih (by omega) (by omega)
      · rfl
    · rfl

theorem hear_noise {before : List Byte} (h : ∀ b ∈ before, b ≠ 0xC3#8) : hear before = none := by
  have hdrop : before.dropWhile (· != 0xC3#8) = [] := List.dropWhile_eq_nil_iff.mpr (by simpa using h)
  rw [hear, hearFrame, hdrop]

theorem hear_lone_sync {before : List Byte} (h : ∀ b ∈ before, b ≠ 0xC3#8) : hear (before ++ [0xC3#8]) = none := by
  rw [hear, hearFrame, dropWhile_noise h]

theorem hear_cut_short {before : List Byte} (h : ∀ b ∈ before, b ≠ 0xC3#8) {length : Byte} {rest : List Byte}
    (hshort : rest.length < length.toNat + 2) : hear (before ++ 0xC3#8 :: length :: rest) = none := by
  rw [hear, hearFrame, dropWhile_noise h]
  dsimp only
  split
  next high low after hafter =>
    have := congrArg List.length hafter
    simp only [List.length_drop, List.length_cons] at this
    omega
  · rfl

/-- A whole frame is heard, or the bytes after it decide. -/
theorem hear_whole {before : List Byte} (h : ∀ b ∈ before, b ≠ 0xC3#8) {length high low : Byte}
    {contents after : List Byte} (hlength : contents.length = length.toNat) :
    hear (before ++ 0xC3#8 :: length :: (contents ++ high :: low :: after)) =
      if frameHeard length contents high low then some contents else hear after := by
  have hfuel (n : Nat) (hn : after.length < n) : hearFrame n after = hear after := hearFrame_fuel hn (Nat.lt_succ_self _)
  rw [hear, hearFrame, dropWhile_noise h]
  simp only [← hlength, List.take_left, List.drop_left]
  rw [hfuel _ (by simp; omega)]

/-! ## The commands heard -/

/-- The field of a coin pair in SaleCommit (12 R203). -/
def coinBytes (c : CoinPair) : List Byte := byte1 c.index ++ byte1 c.count

theorem coinPairs_flatMap : ∀ {coins : List CoinPair}, (∀ c ∈ coins, c.index < 2 ^ 8 ∧ c.count < 2 ^ 8) →
    coinPairs (coins.flatMap coinBytes) = coins
  | [], _ => rfl
  | c :: coins, h => by
    obtain ⟨hi, hc⟩ := h c (.head _)
    simp only [List.flatMap_cons, coinBytes, byte1, List.cons_append, List.nil_append, coinPairs, toNat_field hi,
      toNat_field hc]
    rw [coinPairs_flatMap fun c hc => h c (.tail _ hc)]

theorem length_flatMap_coinBytes (coins : List CoinPair) : (coins.flatMap coinBytes).length = 2 * coins.length := by
  induction coins with
  | nil => rfl
  | cons c coins ih => simp [List.flatMap_cons, coinBytes, byte1, ih]; omega

theorem map_toNat_flatMap_byte1 : ∀ {ns : List Nat}, (∀ n ∈ ns, n < 2 ^ 8) →
    (ns.flatMap byte1).map BitVec.toNat = ns
  | [], _ => rfl
  | n :: ns, h => by
    simp only [List.flatMap_cons, byte1, List.cons_append, List.nil_append, List.map_cons, toNat_field (h n (.head _))]
    rw [map_toNat_flatMap_byte1 fun m hm => h m (.tail _ hm)]

theorem uplinkCommand_unheard {line : LineId} {window : Nat} {bytes : List Byte} (h : hear bytes = none) :
    uplinkCommand line window bytes = .nothingHeard line window := by
  simp [uplinkCommand, h]

theorem uplinkOfContents_misplaced {line : LineId} {window : Nat} {contents : List Byte}
    (h : window = 0 ∧ contents[0]? ≠ some 1#8 ∨ window ≠ 0 ∧ contents[0]? = some 1#8) :
    uplinkOfContents line window contents = .nothingHeard line window := by
  have hjoin (k : Byte) (hk : k ≠ 1#8) : k.toNat ≠ 1 := fun he => hk (BitVec.eq_of_toNat_eq he)
  rcases h with ⟨rfl, h⟩ | ⟨hw, h⟩
  · unfold uplinkOfContents
    split
    · rw [if_neg (hjoin _ (by simpa using h))]
    · rfl
    · contradiction
    · rfl
  · obtain ⟨slot, rfl⟩ := Nat.exists_eq_succ_of_ne_zero hw
    rcases contents with _ | ⟨k, rest⟩
    · rfl
    · obtain rfl : k = 1#8 := Option.some.inj h
      rcases rest with _ | ⟨m1, _ | ⟨m0, rest⟩⟩ <;> rfl

theorem uplinkOfContents_uplinkContents {line : LineId} {window : Nat} {c : Instr} (hwf : c.wf = true)
    (h : c.uplinkAt = some (line, window)) :
    (uplinkContents c).length < 256 ∧ lengthAllowed (uplinkContents c) = true ∧
      uplinkOfContents line window (uplinkContents c) = c := by
  cases c
  case join line' f =>
    obtain ⟨rfl, rfl⟩ : line' = line ∧ 0 = window := by simpa [Instr.uplinkAt] using h
    simp only [Instr.wf, Bool.and_eq_true, fits_iff] at hwf
    refine ⟨by simp [uplinkContents, byte1, byte2, byte3, byte4], rfl, ?_⟩
    conv_lhs => whnf
    simp only [toNat_field, beNat_byte2, beNat_byte3, beNat_byte4, hwf]
  case leave line' slot m | boxRemoved line' slot m =>
    obtain ⟨rfl, rfl⟩ : line' = line ∧ slot = window := by simpa [Instr.uplinkAt] using h
    simp only [Instr.wf, slotWf, Bool.and_eq_true, fits_iff, decide_eq_true_eq] at hwf
    obtain ⟨k, rfl⟩ : ∃ k, slot = k + 1 := ⟨slot - 1, by omega⟩
    refine ⟨by simp [uplinkContents, byte1, byte2], rfl, ?_⟩
    conv_lhs => whnf
    simp only [beNat_byte2 hwf.2]
  case statusFrame line' slot m kinds =>
    obtain ⟨rfl, rfl⟩ : line' = line ∧ slot = window := by simpa [Instr.uplinkAt] using h
    simp only [Instr.wf, slotWf, Bool.and_eq_true, fits_iff, decide_eq_true_eq, List.all_eq_true] at hwf
    obtain ⟨⟨⟨hslot, hm⟩, hlen⟩, hkinds⟩ := hwf
    obtain ⟨k, rfl⟩ : ∃ k, slot = k + 1 := ⟨slot - 1, by omega⟩
    have hlength : (kinds.flatMap byte1).length = kinds.length := by
      rw [← List.length_map (f := BitVec.toNat), map_toNat_flatMap_byte1 hkinds]
    refine ⟨by simp [uplinkContents, byte1, byte2]; omega, ?_, ?_⟩
    · refine lengthAllowed_iff.mpr ⟨3, rfl, .inr (.inr (.inl ⟨rfl, BitVec.ofNat 8 kinds.length, rfl, ?_, ?_⟩))⟩
      · rw [toNat_field (by omega)]; exact hlen
      · rw [toNat_field (by omega), uplinkContents, List.length_append, hlength]; rfl
    · conv_lhs => whnf
      simp only [beNat_byte2 hm, List.append_eq, List.nil_append, map_toNat_flatMap_byte1 hkinds]
  case quoteRequest line' slot f =>
    obtain ⟨rfl, rfl⟩ : line' = line ∧ slot = window := by simpa [Instr.uplinkAt] using h
    simp only [Instr.wf, slotWf, Bool.and_eq_true, fits_iff, decide_eq_true_eq] at hwf
    obtain ⟨k, rfl⟩ : ∃ k, slot = k + 1 := ⟨slot - 1, by omega⟩
    refine ⟨by simp [uplinkContents, byte1, byte2, byte4], rfl, ?_⟩
    conv_lhs => whnf
    simp only [toNat_field, beNat_byte2, beNat_byte4, hwf]
  case saleCommit line' slot f =>
    obtain ⟨rfl, rfl⟩ : line' = line ∧ slot = window := by simpa [Instr.uplinkAt] using h
    simp only [Instr.wf, slotWf, Bool.and_eq_true, fits_iff, decide_eq_true_eq, List.all_eq_true] at hwf
    obtain ⟨⟨⟨⟨⟨⟨⟨⟨hslot, hm⟩, ht⟩, hs⟩, hp⟩, htend⟩, hauth⟩, hlen⟩, hcoins⟩ := hwf
    obtain ⟨k, rfl⟩ : ∃ k, slot = k + 1 := ⟨slot - 1, by omega⟩
    have hpairs : coinPairs (f.coins.flatMap fun c => byte1 c.index ++ byte1 c.count) = f.coins := coinPairs_flatMap hcoins
    have hlength : (f.coins.flatMap fun c => byte1 c.index ++ byte1 c.count).length = 2 * f.coins.length :=
      length_flatMap_coinBytes f.coins
    have hcontents : (uplinkContents (.saleCommit line' (k + 1) f)).length = 15 + 2 * f.coins.length := by
      rw [uplinkContents, List.length_append, hlength]; rfl
    refine ⟨by omega, ?_, ?_⟩
    · refine lengthAllowed_iff.mpr
        ⟨5, rfl, .inr (.inr (.inr (.inr (.inl ⟨rfl, BitVec.ofNat 8 f.coins.length, rfl, ?_, ?_⟩))))⟩
      · rw [toNat_field (by omega)]; exact hlen
      · rw [toNat_field (by omega)]; exact hcontents
    · conv_lhs => whnf
      simp only [toNat_field, beNat_byte2, beNat_byte3, beNat_byte4, List.append_eq, List.nil_append, *]
  case boxInserted line' slot m b =>
    obtain ⟨rfl, rfl⟩ : line' = line ∧ slot = window := by simpa [Instr.uplinkAt] using h
    simp only [Instr.wf, slotWf, Bool.and_eq_true, fits_iff, decide_eq_true_eq] at hwf
    obtain ⟨k, rfl⟩ : ∃ k, slot = k + 1 := ⟨slot - 1, by omega⟩
    refine ⟨by simp [uplinkContents, byte1, byte2], rfl, ?_⟩
    conv_lhs => whnf
    simp only [beNat_byte2, hwf]
  all_goals simp [Instr.uplinkAt] at h

/-- Settles O13. -/
theorem uplinkFramesAreHeardAsTheirCommands : Obligations.UplinkFramesAreHeardAsTheirCommands := by
  refine ⟨fun line window c before after hwf h hbefore => ?_, fun before h => ⟨hear_noise h, hear_lone_sync h,
    fun _ _ hshort => hear_cut_short h hshort, fun length high low contents after hlength => ⟨fun hs => ?_, fun hs => ?_⟩⟩,
    fun line window bytes => ⟨uplinkCommand_unheard, fun contents hheard hplace => ?_⟩, fun _ => rfl, rfl, fun bytes b => ?_⟩
  · obtain ⟨hlength, hallowed, hcommand⟩ := uplinkOfContents_uplinkContents hwf h
    have hheard : hear (before ++ lineFrame (uplinkContents c) ++ after) = some (uplinkContents c) := by
      have hframe := hear_whole hbefore (length := BitVec.ofNat 8 (uplinkContents c).length)
        (high := BitVec.ofNat 8 ((crc16 (BitVec.ofNat 8 (uplinkContents c).length :: uplinkContents c)).toNat / 256))
        (low := BitVec.ofNat 8 (crc16 (BitVec.ofNat 8 (uplinkContents c).length :: uplinkContents c)).toNat)
        (contents := uplinkContents c) (after := after) (by rw [toNat_field hlength])
      rw [if_pos] at hframe
      · simpa [lineFrame, byte1, byte2] using hframe
      · rw [frameHeard, hallowed, Bool.and_true, beq_iff_eq]
        exact byte2_eq_iff.mp rfl
    rw [uplinkCommand, hheard]
    exact hcommand
  · rw [hear_whole h hlength, if_pos (frameHeard_iff.mpr hs)]
  · rw [hear_whole h hlength, if_neg (mt frameHeard_iff.mp hs)]
  · rw [uplinkCommand, hheard]
    exact uplinkOfContents_misplaced hplace
  · rw [crc16_append, crcByte]
    congr 1
    funext c i
    exact crcBit_eq c _

end Sys2Proof.Machine

/-! PROOFS. The clock and the calendar (01, sections 1.2 and 1.3). -/

namespace Sys2Proof.Machine

/-! ## The second boundary -/

/-- A cycle whose phases have all been run is not run on. -/
theorem endCycle_over {line : LineId} {s : State} (h : (s.line line).cycleOpen = true → 66 ≤ (s.line line).phase) :
    endCycle line s = s := by
  unfold endCycle
  split
  next ho =>
    have hphase : Config.cyclePhases - (s.line line).phase = 0 := by
      have := h ho
      simp only [Config.cyclePhases]
      omega
    rw [runTo, hphase, quietPhases]
  · rfl

/-- What a tick makes of the time (01 R4). -/
theorem ClockTime.tick_cases (t : ClockTime) :
    (t.second < 59 → t.tick = (some ⟨t.date, t.minute, t.second + 1⟩, false, false)) ∧
      (59 ≤ t.second → t.minute < 1439 → t.tick = (some ⟨t.date, t.minute + 1, 0⟩, true, false)) ∧
      (59 ≤ t.second → 1439 ≤ t.minute → t.date ≠ ⟨2099, 12, 31⟩ → t.tick = (some ⟨t.date.next, 0, 0⟩, true, true)) ∧
      (59 ≤ t.second → 1439 ≤ t.minute → t.date = ⟨2099, 12, 31⟩ → t.tick = (none, false, false)) := by
  refine ⟨fun h => ?_, fun h h' => ?_, fun h h' hd => ?_, fun h h' hd => ?_⟩
  · rw [tick, if_pos h]
  · rw [tick, if_neg (by omega), if_pos h']
  · exact (if_neg (by omega)).trans ((if_neg (by omega)).trans (if_neg hd))
  · exact (if_neg (by omega)).trans ((if_neg (by omega)).trans (if_pos hd))

theorem Clock.ticked_of_none {c : Clock} (h : c.time = none) : c.ticked = c := by
  simp [ticked, h]

theorem Clock.ticked_on {c : Clock} {t t' : ClockTime} {minute midnight : Bool} (h : c.time = some t)
    (ht : t.tick = (some t', minute, midnight)) :
    c.ticked =
      { c with time := some t', minuteDue := c.minuteDue || minute, midnightDue := c.midnightDue || midnight } := by
  simp [ticked, h, ht]

theorem Clock.ticked_out {c : Clock} {t : ClockTime} {minute midnight : Bool} (h : c.time = some t)
    (ht : t.tick = (none, minute, midnight)) :
    c.ticked = { c with time := none, overrideClass := none, minuteDue := false, midnightDue := false } := by
  simp [ticked, h, ht]

/-- While no event is left due, a tick changes the time, and the override where the range of the clock ends. -/
theorem Clock.ticked_time (c : Clock) :
    { c.ticked with minuteDue := false, midnightDue := false } =
      { c with
        time := c.ticked.time
        overrideClass := if c.time ≠ none ∧ c.ticked.time = none then none else c.overrideClass
        minuteDue := false
        midnightDue := false } := by
  rcases h : c.time with _ | t
  · simp [Clock.ticked_of_none h, h]
  · rcases ht : t.tick with ⟨_ | t', minute, midnight⟩
    · simp [Clock.ticked_out h ht]
    · simp [Clock.ticked_on h ht]

/-- The cycles begun at a boundary with no cycle left to run (07 R125, R126). -/
theorem secondTick_supplied {s : State} (hp : s.power ≠ .off)
    (h : ∀ line, (s.line line).cycleOpen = true → 66 ≤ (s.line line).phase) :
    secondTick s = decideOutput (beginCycles (passSecond s)) := by
  have hb : endCycle .b (endCycle .a s) = s := by rw [endCycle_over (h .a), endCycle_over (h .b)]
  rw [secondTick, if_neg hp, hb]

theorem linesRun_iff (s : State) : s.linesRun = true ↔ s.power = .running ∨ s.power = .flushing ∧ s.linesStopped = false := by
  simp [State.linesRun]

/-- Settles O14. -/
theorem secondTickAdvancesCounterClockAndCycles : Obligations.SecondTickAdvancesCounterClockAndCycles := by
  refine ⟨fun s hp => ⟨s.clock.ticked.time, ?_, fun h => by rw [Clock.ticked_of_none h, h], fun t ht => ?_⟩,
    fun s hp h => ⟨{ s.clock.ticked with counter := s.clock.counter + 1 }, ?_, fun h => by rw [Clock.ticked_of_none h],
      fun t ht => ?_⟩⟩
  · show Host.Outcome.next (secondTick s) = _
    rw [secondTick, if_pos hp, Clock.ticked_time]
  · obtain ⟨h1, h2, h3, h4⟩ := t.tick_cases
    exact ⟨fun h => by rw [Clock.ticked_on ht (h1 h)], fun h h' => by rw [Clock.ticked_on ht (h2 h h')],
      fun h h' hd => by rw [Clock.ticked_on ht (h3 h h' hd)], fun h h' hd => by rw [Clock.ticked_out ht (h4 h h' hd)]⟩
  · show Host.Outcome.next (secondTick s) = _
    rw [secondTick_supplied hp h]
    by_cases hr : s.power = .running ∨ s.power = .flushing ∧ s.linesStopped = false
    · have hl : (passSecond s).linesRun = true := (linesRun_iff s).mpr hr
      rw [beginCycles, if_pos hl, if_pos hr, if_pos hr]
      rfl
    · have hl : (passSecond s).linesRun ≠ true := mt (linesRun_iff s).mp hr
      rw [beginCycles, if_neg hl, if_neg hr, if_neg hr]
      rfl
  · obtain ⟨h1, h2, h3, h4⟩ := t.tick_cases
    exact ⟨fun h => by simp [Clock.ticked_on ht (h1 h)], fun h h' => by simp [Clock.ticked_on ht (h2 h h')],
      fun h h' hd => by simp [Clock.ticked_on ht (h3 h h' hd)], fun h h' hd => by simp [Clock.ticked_out ht (h4 h h' hd)]⟩

/-! ## Dates -/

theorem daysInMonth_bounds (y m : Nat) : 28 ≤ daysInMonth y m ∧ daysInMonth y m ≤ 31 := by
  unfold daysInMonth
  split
  case h_1 => split <;> decide
  all_goals decide

theorem Date.valid_iff (d : Date) :
    d.valid = true ↔ 2000 ≤ d.year ∧ d.year ≤ 2099 ∧ 1 ≤ d.month ∧ d.month ≤ 12 ∧ 1 ≤ d.day ∧
      d.day ≤ daysInMonth d.year d.month := by
  simp [valid, and_assoc]

/-- The days of a year of the range, and the leap days before it and after it. -/
theorem yearDays : ∀ k < 100, daysBefore (2000 + k) 12 + 31 + (k + 3) / 4 = 365 + (k + 4) / 4 := by decide

theorem daysBefore_succ {m : Nat} (y : Nat) (h : 1 ≤ m) : daysBefore y (m + 1) = daysBefore y m + daysInMonth y m := by
  obtain ⟨k, rfl⟩ : ∃ k, m = k + 1 := ⟨m - 1, by omega⟩
  rfl

/-- What the next date is: one day on in the month, in the year, or in the next year. -/
theorem Date.next_cases (d : Date) :
    (d.day < daysInMonth d.year d.month ∧ d.next = { d with day := d.day + 1 }) ∨
      (daysInMonth d.year d.month ≤ d.day ∧ d.month < 12 ∧ d.next = ⟨d.year, d.month + 1, 1⟩) ∨
      (daysInMonth d.year d.month ≤ d.day ∧ 12 ≤ d.month ∧ d.next = ⟨d.year + 1, 1, 1⟩) := by
  unfold next
  by_cases h : d.day < daysInMonth d.year d.month
  · exact .inl ⟨h, if_pos h⟩
  · by_cases hm : d.month < 12
    · exact .inr (.inl ⟨by omega, hm, by rw [if_neg h, if_pos hm]⟩)
    · exact .inr (.inr ⟨by omega, by omega, by rw [if_neg h, if_neg hm]⟩)

/-- No date lies between a date and the next. -/
theorem Date.next_spec {d : Date} (h : d.valid = true) (hlast : d ≠ ⟨2099, 12, 31⟩) :
    d.next.valid = true ∧ d.key < d.next.key ∧ d.next.dayNumber = d.dayNumber + 1 ∧
      ∀ e : Date, e.valid = true → e.key ≤ d.key ∨ d.next.key ≤ e.key := by
  obtain ⟨y, m, n⟩ := d
  obtain ⟨hy, hy', hm, hm', hn, hn'⟩ := (valid_iff _).mp h
  have hdays (y' m' : Nat) := daysInMonth_bounds y' m'
  dsimp only at *
  rcases next_cases ⟨y, m, n⟩ with ⟨hday, he⟩ | ⟨hday, hmonth, he⟩ | ⟨hday, hmonth, he⟩ <;> dsimp only at * <;> rw [he]
  case inl =>
    refine ⟨(valid_iff _).mpr ⟨hy, hy', hm, hm', by dsimp only; omega, hday⟩, by simp [key], ?_, fun e _ => ?_⟩
    · simp only [dayNumber]; omega
    · simp only [key]; omega
  case inr.inl =>
    have hnext := hdays y (m + 1)
    refine ⟨(valid_iff _).mpr ⟨hy, hy', by dsimp only; omega, by dsimp only; omega, by dsimp only; omega, by dsimp only; omega⟩,
      by have := hdays y m; simp only [key]; omega, ?_, fun e hv => ?_⟩
    · simp only [dayNumber, daysBefore_succ y hm]; omega
    · obtain ⟨hey, -, hem, hem', hed, hed'⟩ := (valid_iff _).mp hv
      have hle := hdays e.year e.month
      have hm31 := hdays y m
      simp only [key]
      by_cases hsame : e.year = y ∧ e.month = m
      · rw [hsame.1, hsame.2] at hed' ⊢; omega
      · omega
  case inr.inr =>
    obtain rfl : m = 12 := by omega
    have h31 : daysInMonth y 12 = 31 := rfl
    have hbound : y ≤ 2098 := by
      by_contra hlarge
      exact hlast (by rw [show y = 2099 by omega, show n = 31 by omega])
    obtain ⟨k, rfl⟩ : ∃ k, y = 2000 + k := ⟨y - 2000, by omega⟩
    refine ⟨(valid_iff _).mpr ⟨by dsimp only; omega, by dsimp only; omega, by simp, by simp, by simp, ?_⟩,
      by simp only [key]; omega, ?_, fun e hv => ?_⟩
    · exact le_trans (by simp) (hdays _ _).1
    · have hyear := yearDays k (by omega)
      have hfirst : daysBefore (2000 + k + 1) 1 = 0 := rfl
      simp only [dayNumber, hfirst]
      omega
    · obtain ⟨hey, -, hem, hem', hed, hed'⟩ := (valid_iff _).mp hv
      have hle := hdays e.year e.month
      simp only [key]
      omega

theorem Date.weekClass_eq (d : Date) :
    d.weekClass = if d.dayNumber % 7 = 0 then .saturday else if d.dayNumber % 7 = 1 then .sunday else .weekday := by
  unfold weekClass
  split
  next h => rw [if_pos h]
  next h => rw [h]; rfl
  next h0 h1 => rw [if_neg h0, if_neg h1]

/-- Settles O15. -/
theorem nextDateIsTheNextValidDate : Obligations.NextDateIsTheNextValidDate := by
  refine ⟨fun d => Date.next_spec, rfl, Date.weekClass_eq, fun s d => ⟨fun t c ht hc hd => ?_, fun h => ?_, ?_⟩⟩
  · simp [State.dayClass, ht, hc, hd]
  · unfold State.dayClass
    split
    next t c ht hc => rw [if_neg (h t c ht hc)]
    · rfl
  · simp [State.calendarClass]

end Sys2Proof.Machine

/-! PROOFS. The events of the clock and the activation of the pending set (01, sections 1.2 to 1.4). -/

namespace Sys2Proof.Machine

/-! ## Calm -/

theorem settle_of_calm {s : State} (h : s.calm = true) : settle s = s := by
  obtain ⟨hp, hb, hf, -, -⟩ := s.calm_iff.mp h
  exact settle_calm hp hb hf

/-- A write asked leaves all of the store controller but what holds the array and what waits. -/
theorem StoreControl.taking_frame (c : StoreControl) (op : StoreOp) :
    ∃ h q, c.taking op = { c with holder := h, queue := q } := by
  unfold taking
  split <;> exact ⟨_, _, rfl⟩

theorem calm_taking {s t : State} (h : s.calm = true) (hp : t.power = s.power) {op : StoreOp}
    (hs : t.store = s.store.taking op) : t.calm = true := by
  obtain ⟨x, q, he⟩ := s.store.taking_frame op
  rw [State.calm, hp, hs, he]; exact h

theorem calm_of_store {s t : State} (h : s.calm = true) (hp : t.power = s.power) (hs : t.store = s.store) : t.calm = true := by
  rw [State.calm, hp, hs]; exact h

theorem askTable_calm {s : State} (h : s.calm = true) (w : TableWrite) (r : Requester) :
    askTable w r s = { s with store := s.store.taking ⟨.table w, 5, r⟩ } := ask_calm h rfl fun _ => rfl

/-! ## Activation and abandonment -/

theorem activate_calm {s : State} (h : s.calm = true) (p : PendingSet) (zones : List ZoneEntry)
    (hz : p.zones.foldl activateZone s.tariff.zones = zones) :
    activate p s =
      { s with
        tariff := { s.tariff with zones := zones, pendingSet := none }
        notices :=
          (notify (tariffActivatedNotice (p.zones.map fun z => (z.zone, (zones.getD z.zone ⟨factoryTariff, 0⟩).generation)))
            s).notices
        store :=
          s.store.taking
            ⟨.table (.activation (p.zones.map fun z => (z.zone, (zones.getD z.zone ⟨factoryTariff, 0⟩).tariff))), 5,
              .nobody⟩ } := by
  subst hz
  rw [activate, askTable_calm]
  · rfl
  · exact h

theorem abandon_calm {s : State} (h : s.calm = true) (p : PendingSet) :
    abandon p s =
      { s with
        tariff := { s.tariff with pendingSet := none }
        notices := (notify (pendingAbandonedNotice p) s).notices
        store := s.store.taking ⟨.table (.pendingSet none), 5, .nobody⟩ } := by
  rw [abandon, askTable_calm]
  · rfl
  · exact h

theorem calm_activate {s : State} (h : s.calm = true) (p : PendingSet) : (activate p s).calm = true := by
  rw [activate_calm h p _ rfl]; exact calm_taking h rfl rfl

theorem calm_abandon {s : State} (h : s.calm = true) (p : PendingSet) : (abandon p s).calm = true := by
  rw [abandon_calm h p]; exact calm_taking h rfl rfl

theorem activationCheck_due {s : State} {p : PendingSet} {t : ClockTime} (hp : s.tariff.pendingSet = some p)
    (ht : s.clock.time = some t) (hdue : p.activation.atOrBefore t.moment = true) :
    activationCheck s = if p.isSealed then activate p s else abandon p s := by
  simp [activationCheck, hp, State.now, ht, hdue]

theorem activationCheck_not_due {s : State}
    (h : ∀ p t, s.tariff.pendingSet = some p → s.clock.time = some t → p.activation.atOrBefore t.moment = false) :
    activationCheck s = s := by
  unfold activationCheck State.now
  split
  next p t hp ht =>
    obtain ⟨t', ht', rfl⟩ := Option.map_eq_some_iff.mp ht
    simp [h p t' hp ht']
  · rfl

/-- A zone that no zone of the set names stays. -/
theorem foldl_activateZone_other {zs : List PendingZone} {n : Nat} (h : ∀ z ∈ zs, z.zone ≠ n) (zones : List ZoneEntry)
    (d : ZoneEntry) : (zs.foldl activateZone zones).getD n d = zones.getD n d := by
  induction zs generalizing zones with
  | nil => rfl
  | cons z zs ih =>
    rw [List.foldl_cons, ih fun z hz => h z (.tail _ hz)]
    simp [activateZone, List.getD_eq_getElem?_getD, List.getElem?_set_ne (h z (.head _))]

theorem length_foldl_activateZone (zs : List PendingZone) (zones : List ZoneEntry) :
    (zs.foldl activateZone zones).length = zones.length := by
  induction zs generalizing zones with
  | nil => rfl
  | cons z zs ih => rw [List.foldl_cons, ih]; simp [activateZone]

/-- A zone that the set names once is activated. -/
theorem foldl_activateZone_mem {zs : List PendingZone} (h : (zs.map PendingZone.zone).Pairwise (· < ·)) {z : PendingZone}
    (hz : z ∈ zs) {zones : List ZoneEntry} (hlt : z.zone < zones.length) :
    (zs.foldl activateZone zones).getD z.zone ⟨factoryTariff, 0⟩ =
      z.activated (zones.getD z.zone ⟨factoryTariff, 0⟩) := by
  induction zs generalizing zones with
  | nil => simp at hz
  | cons x zs ih =>
    rw [List.map_cons, List.pairwise_cons] at h
    rw [List.foldl_cons]
    rcases List.mem_cons.mp hz with rfl | hmem
    · rw [foldl_activateZone_other fun y hy => (h.1 _ (List.mem_map_of_mem hy)).ne']
      simp [activateZone, hlt]
    · rw [ih h.2 hmem (by simpa [activateZone] using hlt)]
      have hne : x.zone ≠ z.zone := (h.1 _ (List.mem_map_of_mem hmem)).ne
      simp [activateZone, List.getD_eq_getElem?_getD, List.getElem?_set_ne hne]

/-! ## The events of the clock -/

/-- Settles O16. -/
theorem minuteEventActivatesOrAbandons : Obligations.MinuteEventActivatesOrAbandons := by
  intro s hc hm
  have hexec : exec .minuteEvent s = .next (settle (takeMinuteEvent s)) := by
    show Host.Outcome.next (if s.clock.minuteDue then _ else _) = _
    rw [if_pos hm]
  have hc' : ({ s with clock := { s.clock with minuteDue := false } } : State).calm = true := hc
  rw [hexec]
  refine ⟨fun p t hp ht hdue hs hlen hasc hlt => ⟨p.zones.foldl activateZone s.tariff.zones, ?_, ?_, fun z hz => ?_, ?_⟩,
    fun p t hp ht hdue hs => ?_, fun h => ?_⟩
  · rw [takeMinuteEvent, activationCheck_due (s := { s with clock := { s.clock with minuteDue := false } }) hp ht hdue,
      if_pos hs, settle_of_calm (calm_activate hc' p), activate_calm hc' p _ rfl]
    rfl
  · rw [length_foldl_activateZone, hlen]
  · rw [foldl_activateZone_mem hasc hz (by rw [hlen]; exact hlt z hz)]
    exact ⟨rfl, rfl⟩
  · exact fun n _ hn => foldl_activateZone_other hn _ _
  · rw [takeMinuteEvent, activationCheck_due (s := { s with clock := { s.clock with minuteDue := false } }) hp ht hdue,
      if_neg (by simp [hs]), settle_of_calm (calm_abandon hc' p), abandon_calm hc' p]
    rfl
  · rw [takeMinuteEvent, activationCheck_not_due (s := { s with clock := { s.clock with minuteDue := false } }) h, settle_of_calm hc']

/-- The days pruned at a date: a write records the list where a date went (01 R9). -/
theorem pruneDays_calm {s : State} (h : s.calm = true) {t : ClockTime} (ht : s.clock.time = some t) {days : List Date}
    (hd : s.tariff.specialDays.filter (fun d => decide (t.date.key ≤ d.key)) = days) :
    pruneDays s =
      { s with
        tariff := { s.tariff with specialDays := days }
        store := if days = s.tariff.specialDays then s.store else s.store.taking ⟨.table (.specialDays days), 5, .nobody⟩ } := by
  have hiff : days.length = s.tariff.specialDays.length ↔ days = s.tariff.specialDays := by
    refine ⟨fun he => ?_, fun he => by rw [he]⟩
    rw [← hd] at he ⊢
    exact List.filter_sublist.eq_of_length he
  simp only [pruneDays, ht, hd, hiff]
  split
  next he => rw [he]
  · rw [askTable_calm]
    exact h

/-- Settles O17. -/
theorem midnightEventClearsOverrideAndPrunes : Obligations.MidnightEventClearsOverrideAndPrunes := by
  intro s t hc hm ht
  have hexec : exec .midnightEvent s = .next (settle (takeMidnightEvent s)) := by
    show Host.Outcome.next (if s.clock.midnightDue then _ else _) = _
    rw [if_pos hm]
  have hall : (s.tariff.specialDays.all fun d => decide (t.date.key ≤ d.key)) = true ↔
      (s.tariff.specialDays.filter fun d => decide (t.date.key ≤ d.key)) = s.tariff.specialDays := by
    rw [List.filter_eq_self, List.all_eq_true]
  have hc' : ({ s with clock := { s.clock with midnightDue := false, overrideClass := none } } : State).calm = true := hc
  rw [hexec, takeMidnightEvent, pruneDays_calm hc' ht rfl]
  simp only [hall]
  refine congrArg Host.Outcome.next (settle_of_calm ?_)
  split
  · exact hc
  · exact calm_taking hc rfl rfl

/-! ## Commands at the cabinet port (10 R182, R184, R185) -/

/-- The state as a command finds it: its answer shifted out, its result buffer emptied. -/
@[reducible] def State.atCommand (s : State) : State :=
  { s with cabinet := ⟨s.cabinet.answer, s.cabinet.answer, false, .nothing⟩ }


theorem calm_atCommand {s : State} (h : s.calm = true) : s.atCommand.calm = true := h

theorem command_atCommand {s : State} (h : s.cabinetReady = true) (body : State → State) :
    command body s = body s.atCommand := command_ready h body

theorem refuse_atCommand (c : Code) (s : State) :
    refuse c s.atCommand = { s with cabinet := s.cabinet.answered c.plain } := rfl

theorem answerDone_atCommand (s : State) :
    answerDone s.atCommand = { s with cabinet := s.cabinet.answered Code.done.plain } := rfl

theorem answerPending_atCommand (s : State) :
    answerPending s.atCommand = { s with cabinet := s.cabinet.awaiting } := rfl

/-! ## Setting the clock -/

/-- The activation check of a Set clock, by the set that is due. -/
theorem activationCheck_of_set {s : State} {t : ClockTime} (ht : s.clock.time = some t) :
    (s.tariff.pendingSet.filter (fun p => p.activation.atOrBefore t.moment) = none → activationCheck s = s) ∧
      ∀ p, s.tariff.pendingSet.filter (fun p => p.activation.atOrBefore t.moment) = some p →
        activationCheck s = if p.isSealed then activate p s else abandon p s := by
  refine ⟨fun hn => activationCheck_not_due fun p t' hp ht' => ?_, fun p hp => ?_⟩
  · obtain rfl : t = t' := Option.some.inj (ht.symm.trans ht')
    simpa [hp] using hn
  · obtain ⟨hp, hdue⟩ := Option.filter_eq_some_iff.mp hp
    exact activationCheck_due hp ht hdue

/-- A SetClock in range takes the time, then the midnight event or the pruning, then the minute event (01 R6). -/
theorem setClock_in_range {arg : DateArg} {minute second : Nat} {d : Date} (hd : dateOfArg arg = some d)
    (hm : minute ≤ 1439) (hs : second ≤ 59) (s : State) {t : State}
    (hnone : s.clock.time = none → t = pruneDays (answerDone { s with clock := { s.clock with time := some ⟨d, minute, second⟩ } }))
    (hsame : ∀ old, s.clock.time = some old → old.date = d →
      t = answerDone { s with clock := { s.clock with time := some ⟨d, minute, second⟩ } })
    (hother : ∀ old, s.clock.time = some old → old.date ≠ d →
      t = takeMidnightEvent (answerDone { s with clock := { s.clock with time := some ⟨d, minute, second⟩ } })) :
    setClock arg minute second s = settle (if s.now = some ⟨d, minute⟩ then t else takeMinuteEvent t) := by
  have hrange : ¬(1439 < minute ∨ 59 < second) := by omega
  rcases ht : s.clock.time with _ | old
  · simp [setClock, hd, hrange, State.now, ht, hnone ht]
  · by_cases hdate : old.date = d
    · simp [setClock, hd, hrange, State.now, ClockTime.moment, ht, hsame old ht hdate, hdate]
    · simp [setClock, hd, hrange, State.now, ClockTime.moment, ht, hother old ht hdate, hdate]

/-- The days that a new date leaves, and the write that records them (01 R6, R9). -/
theorem setClock_pruned {s : State} (hc : s.calm = true) {d : Date} {minute second : Nat} {days : List Date}
    {pruned : StoreControl}
    (hdays : days = if s.clock.time.map ClockTime.date = some d then s.tariff.specialDays
      else s.tariff.specialDays.filter fun x => decide (d.key ≤ x.key))
    (hpruned : pruned = if days = s.tariff.specialDays then s.store
      else s.store.taking ⟨.table (.specialDays days), 5, .nobody⟩) :
    ∃ t : State, t =
        { s with
          clock :=
            { s.clock with
              time := some ⟨d, minute, second⟩
              overrideClass :=
                if (s.clock.time.map ClockTime.date).any (fun old => decide (old ≠ d)) then none
                else s.clock.overrideClass
              midnightDue :=
                if (s.clock.time.map ClockTime.date).any (fun old => decide (old ≠ d)) then false
                else s.clock.midnightDue }
          tariff := { s.tariff with specialDays := days }
          store := pruned
          cabinet := s.cabinet.answered Code.done.plain } ∧ t.calm = true ∧
      (s.clock.time = none →
        t = pruneDays (answerDone { s.atCommand with clock := { s.clock with time := some ⟨d, minute, second⟩ } })) ∧
      (∀ old, s.clock.time = some old → old.date = d →
        t = answerDone { s.atCommand with clock := { s.clock with time := some ⟨d, minute, second⟩ } }) ∧
      ∀ old, s.clock.time = some old → old.date ≠ d →
        t = takeMidnightEvent (answerDone { s.atCommand with clock := { s.clock with time := some ⟨d, minute, second⟩ } }) := by
  refine ⟨_, rfl, ?_, fun hn => ?_, fun old ho hdate => ?_, fun old ho hdate => ?_⟩
  · by_cases he : days = s.tariff.specialDays
    · exact calm_of_store hc rfl (hpruned.trans (if_pos he))
    · exact calm_taking hc rfl (hpruned.trans (if_neg he))
  · have hprune := pruneDays_calm
      (s := answerDone { s.atCommand with clock := { s.clock with time := some ⟨d, minute, second⟩ } }) hc rfl
      (hdays.trans (if_neg (by simp [hn]))).symm
    rw [hprune, hpruned, hn]
    rfl
  · have hdays' : days = s.tariff.specialDays := hdays.trans (by simp [ho, hdate])
    have hpruned' : pruned = s.store := hpruned.trans (if_pos hdays')
    simp [hpruned', hdays', ho, hdate, answerDone, answer, CabinetPort.answered]
  · have hprune := pruneDays_calm
      (s := { answerDone { s.atCommand with clock := { s.clock with time := some ⟨d, minute, second⟩ } } with
        clock := { s.clock with time := some ⟨d, minute, second⟩, midnightDue := false, overrideClass := none } }) hc rfl
      (hdays.trans (if_neg (by simp [ho, hdate]))).symm
    have hany : (s.clock.time.map ClockTime.date).any (fun old => decide (old ≠ d)) = true := by simp [ho, hdate]
    refine Eq.trans ?_ hprune.symm
    rw [if_pos hany, if_pos hany, hpruned]
    rfl

/-- Settles O18. -/
theorem setClockSetsTimeAndCountsAsEvents : Obligations.SetClockSetsTimeAndCountsAsEvents := by
  intro s arg minute second hc hr
  have hexec : exec (.setClock arg minute second) s = .next (setClock arg minute second s.atCommand) :=
    congrArg Host.Outcome.next (command_atCommand hr _)
  rw [hexec]
  refine ⟨fun h => ?_, fun d hd hm hs days due zones pruned hdays hpruned hdue hzones => ?_⟩
  · rw [← refuse_atCommand]
    rcases hd : dateOfArg arg with _ | d
    · simp [setClock, hd]
    · simp [setClock, hd, h.resolve_left (by simp [hd])]
  · obtain ⟨t, ht, hct, hnone, hsame, hother⟩ := setClock_pruned (second := second) (minute := minute) hc hdays hpruned
    rw [setClock_in_range hd hm hs s.atCommand hnone hsame hother]
    have hnow : s.atCommand.now = s.now := rfl
    rw [hnow]
    by_cases hsamenow : s.now = some ⟨d, minute⟩
    · rw [if_pos hsamenow] at hdue ⊢
      subst hdue
      rw [settle_of_calm hct, ht, hzones]
      simp [hsamenow]
    · rw [if_neg hsamenow] at hdue ⊢
      obtain ⟨u, hu⟩ : ∃ u : State, u = { t with clock := { t.clock with minuteDue := false } } := ⟨_, rfl⟩
      have htake : takeMinuteEvent t = activationCheck u := by rw [hu]; rfl
      have hcu : u.calm = true := by rw [hu]; exact hct
      have hset : u.tariff.pendingSet = s.tariff.pendingSet := by rw [hu, ht]
      have hzone : u.tariff.zones = s.tariff.zones := by rw [hu, ht]
      obtain ⟨hstay, hdone⟩ := activationCheck_of_set (s := u) (t := ⟨d, minute, second⟩) (by rw [hu, ht])
      simp only [hset, ClockTime.moment, ← hdue] at hstay hdone
      rw [htake]
      rcases due with _ | p
      · rw [hstay rfl, settle_of_calm hcu, hu, ht, hzones]
        simp [hsamenow]
      · rw [hdone p rfl]
        by_cases hsealed : p.isSealed = true
        · simp only [hsealed, if_true] at hzones ⊢
          rw [settle_of_calm (calm_activate hcu p), activate_calm hcu p zones (by rw [hzones, ← hzone]), hu, ht]
          simp [hsamenow]
          rfl
        · simp only [hsealed, Bool.false_eq_true, if_false] at hzones ⊢
          rw [settle_of_calm (calm_abandon hcu p), abandon_calm hcu p, hu, ht, hzones]
          simp [hsamenow]
          rfl

/-- Settles O19. -/
theorem overrideTodaySetsOrClears : Obligations.OverrideTodaySetsOrClears := by
  intro s n hr
  have hexec : exec (.overrideToday n) s = .next (overrideToday n s.atCommand) :=
    congrArg Host.Outcome.next (command_atCommand hr _)
  rw [hexec]
  refine ⟨fun h => ?_, fun h => ⟨fun c hn => ?_, fun hn => ?_, fun hne hn => ?_⟩⟩
  · rw [overrideToday, h]; rfl
  · have hne : n ≠ 255 := by rintro rfl; simp [DayClass.ofNumber] at hn
    simp [overrideToday, h, hne, hn]
    rfl
  · simp [overrideToday, h, hn]
    rfl
  · simp [overrideToday, h, hne, hn]
    rfl

end Sys2Proof.Machine

/-! PROOFS. The pending set, the special days and the tariff guard (01, sections 1.3 to 1.5). -/

namespace Sys2Proof.Machine

/-! ## Tariff commands taken and refused -/

theorem takenTable_calm {s : State} (h : s.calm = true) (w : TableWrite) :
    takenTable w s = answerPending { s with store := s.store.taking ⟨.table w, 5, .cabinet⟩ } := by
  rw [takenTable, askTable_calm h]
  exact settle_of_calm (calm_taking h rfl rfl)

/-- A change of the pending set, recorded and answered PENDING (01 R11). -/
theorem putPendingSet_atCommand {s : State} (h : s.calm = true) (p : Option PendingSet) :
    putPendingSet p s.atCommand =
      { s with
        tariff := { s.tariff with pendingSet := p }
        store := s.store.taking ⟨.table (.pendingSet p), 5, .cabinet⟩
        cabinet := s.cabinet.awaiting } := by
  rw [putPendingSet, takenTable_calm]
  · rfl
  · exact h

/-- A change of the special days, recorded and answered PENDING (01 R8). -/
theorem putDays_atCommand {s : State} (h : s.calm = true) (days : List Date) :
    putDays days s.atCommand =
      { s with
        tariff := { s.tariff with specialDays := days }
        store := s.store.taking ⟨.table (.specialDays days), 5, .cabinet⟩
        cabinet := s.cabinet.awaiting } := by
  rw [putDays, takenTable_calm]
  · rfl
  · exact h

theorem setGuarded_eq_false_iff {s : State} {key : KeyPosition} {p : PendingSet} :
    s.setGuarded key p = false ↔ ∀ z ∈ p.zones, s.writable key z.zone = true := by
  simp [State.setGuarded]

theorem setGuarded_of_mem {s : State} {key : KeyPosition} {p : PendingSet} {z : PendingZone} (hz : z ∈ p.zones)
    (h : s.writable key z.zone = false) : s.setGuarded key p = true :=
  List.any_eq_true.mpr ⟨z, hz, by simp [h]⟩

@[simp] theorem writable_atCommand (s : State) : s.atCommand.writable = s.writable := rfl

@[simp] theorem setGuarded_atCommand (s : State) : s.atCommand.setGuarded = s.setGuarded := rfl

@[simp] theorem guardMode_atCommand (s : State) : s.atCommand.guardMode = s.guardMode := rfl

@[simp] theorem now_atCommand (s : State) : s.atCommand.now = s.now := rfl

/-! ## PendingBegin, PendingSeal and PendingCancel (01 R12, R14, R15) -/

theorem pendingBegin_in_range {arg : DateArg} {minute : Nat} {d : Date} (hd : dateOfArg arg = some d) (hm : minute ≤ 1439)
    (key : KeyPosition) (s : State) :
    pendingBegin key arg minute s =
      if s.tariff.pendingSet.any (s.setGuarded key) then refuse .guarded s
      else putPendingSet (some ⟨⟨d, minute⟩, false, []⟩) s := by
  simp [pendingBegin, hd, show ¬1439 < minute by omega]

theorem pendingBegin_out_of_range {arg : DateArg} {minute : Nat} (h : dateOfArg arg = none ∨ 1439 < minute)
    (key : KeyPosition) (s : State) : pendingBegin key arg minute s = refuse .badRequest s := by
  rcases hd : dateOfArg arg with _ | d
  · simp [pendingBegin, hd]
  · simp [pendingBegin, hd, h.resolve_left (by simp [hd])]

theorem pendingSeal_not_loading {s : State} (h : ∀ p, s.tariff.pendingSet = some p → p.isSealed = true)
    (key : KeyPosition) : pendingSeal key s = refuse .notLoading s := by
  rcases hp : s.tariff.pendingSet with _ | p
  · simp [pendingSeal, hp]
  · simp [pendingSeal, hp, h p hp]

theorem pendingSeal_loading {s : State} {p : PendingSet} (hp : s.tariff.pendingSet = some p) (hs : p.isSealed = false)
    (hz : p.zones ≠ []) {t : Moment} (ht : s.now = some t) (key : KeyPosition) :
    pendingSeal key s =
      if p.activation.minutes < t.minutes + 2 then refuse .tooLate s
      else if s.setGuarded key p then refuse .guarded s
      else putPendingSet (some { p with isSealed := true }) s := by
  simp [pendingSeal, hp, hs, hz, ht]

/-- The exec of the pending-set commands, once the cabinet port takes them. -/
theorem exec_pendingBegin {s : State} (hr : s.cabinetReady = true) (key : KeyInput) (arg : DateArg) (minute : Nat) :
    exec (.pendingBegin key arg minute) s = .next (pendingBegin (readKey key) arg minute s.atCommand) :=
  congrArg Host.Outcome.next (command_atCommand hr _)

theorem exec_pendingSeal {s : State} (hr : s.cabinetReady = true) (key : KeyInput) :
    exec (.pendingSeal key) s = .next (pendingSeal (readKey key) s.atCommand) :=
  congrArg Host.Outcome.next (command_atCommand hr _)

theorem exec_pendingCancel {s : State} (hr : s.cabinetReady = true) (key : KeyInput) :
    exec (.pendingCancel key) s = .next (pendingCancel (readKey key) s.atCommand) :=
  congrArg Host.Outcome.next (command_atCommand hr _)

theorem exec_pendingZone {s : State} (hr : s.cabinetReady = true) (key : KeyInput) (a : ZoneArgs) :
    exec (.pendingZone key a) s = .next (pendingZone (readKey key) a s.atCommand) :=
  congrArg Host.Outcome.next (command_atCommand hr _)

/-- Settles O20. -/
theorem pendingSetOpensSealsAndCancels : Obligations.PendingSetOpensSealsAndCancels := by
  intro s key hc hr
  rw [exec_pendingSeal hr, exec_pendingCancel hr]
  refine ⟨fun arg minute d hd hm hw => ?_, fun p t hp hs hz ht hfar hw => ?_, fun p hp hw => ?_, fun hp => ?_,
    fun arg minute h => ?_, fun h => ?_, fun p hp hs => ⟨fun hz => ?_, fun hz ht => ?_, fun t hz ht hnear => ?_⟩⟩
  · have hguard : s.tariff.pendingSet.any (s.setGuarded (readKey key)) = false := by
      rcases hp : s.tariff.pendingSet with _ | p
      · rfl
      · exact setGuarded_eq_false_iff.mpr (hw p hp)
    rw [exec_pendingBegin hr, pendingBegin_in_range hd hm]
    simp only [setGuarded_atCommand, hguard, Bool.false_eq_true, if_false, putPendingSet_atCommand hc]
  · rw [pendingSeal_loading (s := s.atCommand) hp hs hz ht, if_neg (by omega), setGuarded_atCommand,
      setGuarded_eq_false_iff.mpr hw]
    exact congrArg Host.Outcome.next (putPendingSet_atCommand hc _)
  · simp only [pendingCancel, hp, setGuarded_atCommand, setGuarded_eq_false_iff.mpr hw,
      Bool.false_eq_true, if_false, putPendingSet_atCommand hc]
  · simp only [pendingCancel, hp, answerDone_atCommand]
  · rw [exec_pendingBegin hr, pendingBegin_out_of_range h, refuse_atCommand]
  · rw [pendingSeal_not_loading (s := s.atCommand) h, refuse_atCommand]
  · simp [pendingSeal, hp, hs, hz, refuse_atCommand]
  · simp [pendingSeal, hp, hs, hz, State.now, ht, refuse_atCommand]
  · rw [pendingSeal_loading (s := s.atCommand) hp hs hz ht, if_pos hnear, refuse_atCommand]

/-! ## PendingZone (01 R13) -/

/-- The set that PendingZone changes is the Loading one. -/
theorem pendingZone_not_loading {s : State} (h : ∀ p, s.tariff.pendingSet = some p → p.isSealed = true)
    (key : KeyPosition) (a : ZoneArgs) : pendingZone key a s = refuse .notLoading s := by
  rcases hp : s.tariff.pendingSet with _ | p
  · simp [pendingZone, hp]
  · simp [pendingZone, hp, h p hp]

theorem pendingZone_refused {s : State} {p : PendingSet} (hp : s.tariff.pendingSet = some p) (hs : p.isSealed = false)
    {a : ZoneArgs} {c : Code} (h : loadOfArgs a = .error c) (key : KeyPosition) : pendingZone key a s = refuse c s := by
  simp only [pendingZone, hp, hs, Bool.false_eq_true, if_false, h]
  split
  next h' => cases h'; rfl
  next h' => cases h'; rfl
  all_goals simp_all

theorem pendingZone_loaded {s : State} {p : PendingSet} (hp : s.tariff.pendingSet = some p) (hs : p.isSealed = false)
    {a : ZoneArgs} {load : Option (DayClass × List Band)} (h : loadOfArgs a = .ok load) (key : KeyPosition) :
    (paramsOfArgs a = none → pendingZone key a s = refuse .badTariff s) ∧
      ∀ params, paramsOfArgs a = some params →
        pendingZone key a s =
          if !s.writable key a.zone then refuse .guarded s
          else putPendingSet (some { p with zones := includeZone a.zone params load p.zones }) s := by
  constructor
  · intro hn; simp [pendingZone, hp, hs, h, hn]
  · intro params hn; simp [pendingZone, hp, hs, h, hn]

/-- Settles O22. -/
theorem guardedZonesRefuseTariffCommands : Obligations.GuardedZonesRefuseTariffCommands := by
  intro s key p hr hp
  refine ⟨fun z hz hw => ⟨fun arg minute hd hm => ?_, ?_, fun hs t ht hfar => ?_⟩, fun a params load hs hl hpar hw => ?_⟩
  all_goals
    rw [← refuse_atCommand]
  · obtain ⟨d, hd⟩ := Option.ne_none_iff_exists'.mp hd
    rw [exec_pendingBegin hr, pendingBegin_in_range hd hm]
    simp [hp, setGuarded_of_mem hz hw]
  · rw [exec_pendingCancel hr]
    simp [pendingCancel, hp, setGuarded_of_mem hz hw]
  · rw [exec_pendingSeal hr, pendingSeal_loading (s := s.atCommand) hp hs (List.ne_nil_of_mem hz) ht, if_neg (by omega),
      setGuarded_atCommand, if_pos (setGuarded_of_mem hz hw)]
  · rw [exec_pendingZone hr, (pendingZone_loaded (s := s.atCommand) hp hs hl _).2 params hpar, writable_atCommand, hw]
    rfl

/-! ## The guard (01 R19 to R22) -/

theorem readKey_eq_service_iff {key : KeyInput} : readKey key = .service ↔ key = .service := by
  cases key <;> decide

theorem marks_of_low {g : GuardWord} (h : g.side = .low) (zone : Nat) : g.marks zone = decide (zone < g.span) := by
  simp [GuardWord.marks, h]

theorem marks_of_high {g : GuardWord} (h : g.side = .high) (hs : g.span ≤ 16) (zone : Nat) :
    g.marks zone = decide (16 - g.span ≤ zone) := by
  simp only [GuardWord.marks, h, decide_eq_decide]
  omega

theorem writable_iff (s : State) (key : KeyPosition) (zone : Nat) :
    s.writable key zone = true ↔
      s.tariff.guardWord.guards zone = false ∨
        s.frozenLatch = false ∧
          (s.tariff.guardWord.mode = .opened ∨ s.tariff.guardWord.mode = .keyed ∧ key = .service) := by
  unfold State.writable State.guardMode
  cases s.tariff.guardWord.guards zone
  case false => simp
  case true =>
    cases s.frozenLatch
    case true => simp
    case false => cases s.tariff.guardWord.mode <;> simp

theorem exec_setGuard {s : State} (hr : s.cabinetReady = true) (key : KeyInput) (side span complement mode : Nat) :
    exec (.setGuard key side span complement mode) s =
      .next (setGuard (readKey key) side span complement mode s.atCommand) :=
  congrArg Host.Outcome.next (command_atCommand hr _)

theorem validSpan_iff {n : Nat} : validSpan n = true ↔ n ∈ [0, 1, 2, 4, 8, 16] := by
  simp [validSpan, or_assoc]

/-- Numbers of a field with two or three values (12 R202). -/
theorem guardSide_ofNumber (n : Nat) : GuardSide.ofNumber n = [GuardSide.low, .high][n]? := by
  rcases n with _ | _ | n <;> rfl

theorem guardMode_ofNumber (n : Nat) : GuardMode.ofNumber n = [GuardMode.opened, .keyed, .frozen][n]? := by
  rcases n with _ | _ | _ | n <;> rfl

theorem yesNo_of_le {n : Nat} (h : n ≤ 1) : yesNo n = some (decide (n = 1)) := by
  interval_cases n <;> rfl

theorem yesNo_eq_none_iff {n : Nat} : yesNo n = none ↔ 1 < n := by
  rcases n with _ | _ | n <;> simp [yesNo]

/-- A SetGuard whose four values are all of their sets (01 R21). -/
theorem setGuard_in_set {side span complement mode : Nat} {sd : GuardSide} {md : GuardMode}
    (hsd : [GuardSide.low, .high][side]? = some sd) (hc : complement ≤ 1)
    (hmd : [GuardMode.opened, .keyed, .frozen][mode]? = some md) (hspan : span ∈ [0, 1, 2, 4, 8, 16]) (key : KeyPosition)
    (s : State) :
    setGuard key side span complement mode s =
      if s.guardMode = .frozen then refuse .guardFrozen s
      else if s.guardMode = .keyed ∧ key ≠ .service then refuse .keyRequired s
      else
        takenTable (.guardWord ⟨sd, span, decide (complement = 1), if md = .frozen then .keyed else md⟩)
          { s with
            tariff := { s.tariff with
              guardWord := ⟨sd, span, decide (complement = 1), if md = .frozen then .keyed else md⟩ }
            frozenLatch := s.frozenLatch || md == .frozen } := by
  simp [setGuard, guardSide_ofNumber, hsd, yesNo_of_le hc, guardMode_ofNumber, hmd, validSpan_iff.mpr hspan]

theorem setGuard_out_of_set {side span complement mode : Nat}
    (h : 1 < side ∨ 1 < complement ∨ 2 < mode ∨ span ∉ [0, 1, 2, 4, 8, 16]) (key : KeyPosition) (s : State) :
    setGuard key side span complement mode s = refuse .badRequest s := by
  unfold setGuard
  split
  next sd comp md hsd hcomp hmd =>
    have hside : ¬1 < side := by
      intro hlt
      rw [guardSide_ofNumber, List.getElem?_eq_none (by simpa using Nat.succ_le_of_lt hlt)] at hsd
      cases hsd
    have hcomplement : ¬1 < complement := fun hlt => by rw [yesNo_eq_none_iff.mpr hlt] at hcomp; cases hcomp
    have hmode : ¬2 < mode := by
      intro hlt
      rw [guardMode_ofNumber, List.getElem?_eq_none (by simpa using Nat.succ_le_of_lt hlt)] at hmd
      cases hmd
    have hspan : validSpan span = false := by
      rw [← Bool.not_eq_true, validSpan_iff]
      exact ((h.resolve_left hside).resolve_left hcomplement).resolve_left hmode
    simp [hspan]
  · rfl

/-- Settles O23. -/
theorem guardDecidesAndIsChanged : Obligations.GuardDecidesAndIsChanged := by
  refine ⟨fun s key zone _ hspan => ⟨?_, writable_iff s key zone⟩, fun s key side span complement mode hc hr => ?_⟩
  · rcases hside : s.tariff.guardWord.side
    · rw [GuardWord.guards, marks_of_low hside]
    · rw [GuardWord.guards, marks_of_high hside hspan]
  rw [exec_setGuard hr]
  refine ⟨fun h => ?_, fun sd comp md hsd hcomp hdef hmd hspan => ?_⟩
  · rw [setGuard_out_of_set h, refuse_atCommand]
  rw [setGuard_in_set hsd hcomp hmd hspan, guardMode_atCommand, ← hdef]
  refine ⟨fun hm => ?_, fun hm hk => ?_, fun hm => ?_⟩
  · rw [if_pos hm, refuse_atCommand]
  · rw [if_neg (by simp [hm]), if_pos ⟨hm, mt readKey_eq_service_iff.mp hk⟩, refuse_atCommand]
  · have hopen : s.guardMode ≠ .frozen ∧ ¬(s.guardMode = .keyed ∧ readKey key ≠ .service) := by
      rcases hm with hm | ⟨hm, hk⟩
      · simp [hm]
      · simp [hm, readKey_eq_service_iff.mpr hk]
    rw [if_neg hopen.1, if_neg hopen.2, takenTable_calm]
    · rfl
    · exact hc

/-! ## Special days (01 R8) -/

theorem Date.key_inj {d e : Date} (hd : d.valid = true) (he : e.valid = true) (h : d.key = e.key) : d = e := by
  obtain ⟨y, m, n⟩ := d
  obtain ⟨y', m', n'⟩ := e
  obtain ⟨-, -, hm, hm', hn, hn'⟩ := (valid_iff _).mp hd
  obtain ⟨-, -, hem, hem', hen, hen'⟩ := (valid_iff _).mp he
  have h1 := (daysInMonth_bounds y m).2
  have h2 := (daysInMonth_bounds y' m').2
  simp only [key] at h
  dsimp only at *
  have hall : y = y' ∧ m = m' ∧ n = n' := by omega
  obtain ⟨rfl, rfl, rfl⟩ := hall
  rfl

theorem valid_of_dateOfArg {arg : DateArg} {d : Date} (h : dateOfArg arg = some d) : d.valid = true := by
  unfold dateOfArg at h
  dsimp only at h
  split at h
  next hv => cases h; exact hv
  · cases h

theorem mem_insertDate {d x : Date} {days : List Date} : x ∈ insertDate d days ↔ x = d ∨ x ∈ days := by
  induction days with
  | nil => simp [insertDate]
  | cons y days ih =>
    unfold insertDate
    split
    · simp
    · simp only [List.mem_cons, ih]
      tauto

theorem insertDate_ascends {d : Date} {days : List Date} (h : (days.map Date.key).Pairwise (· < ·))
    (hd : ∀ x ∈ days, x.key ≠ d.key) : ((insertDate d days).map Date.key).Pairwise (· < ·) := by
  induction days with
  | nil => simp [insertDate]
  | cons y days ih =>
    rw [List.map_cons, List.pairwise_cons] at h
    unfold insertDate
    split
    next hlt =>
      rw [List.map_cons, List.pairwise_cons]
      refine ⟨fun k hk => ?_, by rw [List.map_cons, List.pairwise_cons]; exact h⟩
      rcases List.mem_cons.mp hk with rfl | hk
      · exact hlt
      · exact hlt.trans (h.1 k hk)
    next hge =>
      rw [List.map_cons, List.pairwise_cons]
      refine ⟨fun k hk => ?_, ih h.2 fun x hx => hd x (.tail _ hx)⟩
      obtain ⟨x, hx, rfl⟩ := List.mem_map.mp hk
      rcases mem_insertDate.mp hx with rfl | hx
      · have := hd y (.head _)
        omega
      · exact h.1 _ (List.mem_map_of_mem hx)

/-- SpecialDayAdd of a date in range (01 R8). -/
theorem specialDayAdd_in_range {arg : DateArg} {d : Date} (hd : dateOfArg arg = some d) (s : State) :
    specialDayAdd arg s =
      if d ∈ s.tariff.specialDays then answerDone s
      else if 32 ≤ s.tariff.specialDays.length then refuse .listFull s
      else putDays (insertDate d s.tariff.specialDays) s := by
  simp only [specialDayAdd, hd, List.contains_iff_mem]
  rfl

/-- SpecialDayRemove of a date in range (01 R8). -/
theorem specialDayRemove_in_range {arg : DateArg} {d : Date} (hd : dateOfArg arg = some d) (s : State) :
    specialDayRemove arg s =
      if d ∈ s.tariff.specialDays then putDays (s.tariff.specialDays.filter fun x => x != d) s
      else refuse .notFound s := by
  simp [specialDayRemove, hd]

/-- Settles O24. -/
theorem specialDaysAreAddedAndRemoved : Obligations.SpecialDaysAreAddedAndRemoved := by
  intro s arg hc hr
  have hadd : exec (.specialDayAdd arg) s = .next (specialDayAdd arg s.atCommand) :=
    congrArg Host.Outcome.next (command_atCommand hr _)
  have hremove : exec (.specialDayRemove arg) s = .next (specialDayRemove arg s.atCommand) :=
    congrArg Host.Outcome.next (command_atCommand hr _)
  rw [hadd, hremove]
  refine ⟨fun hd => ?_, fun d hd => ?_⟩
  · simp only [specialDayAdd, specialDayRemove, hd, refuse_atCommand, and_self]
  rw [specialDayAdd_in_range hd, specialDayRemove_in_range hd]
  refine ⟨fun hmem => ?_, fun hmem => ?_⟩
  · rw [if_pos hmem, if_pos hmem, answerDone_atCommand, putDays_atCommand hc]
    exact ⟨rfl, rfl⟩
  · rw [if_neg hmem, if_neg hmem]
    refine ⟨by rw [refuse_atCommand], fun hfull => by rw [if_pos hfull, refuse_atCommand], fun hroom hasc hvalid => ?_⟩
    refine ⟨insertDate d s.tariff.specialDays, ?_, insertDate_ascends hasc fun x hx he => hmem ?_, fun x => mem_insertDate⟩
    · rw [if_neg (Nat.not_le.mpr hroom), putDays_atCommand hc]
    · rwa [← Date.key_inj (hvalid x hx) (valid_of_dateOfArg hd) he]

end Sys2Proof.Machine

/-! PROOFS. PendingZone: the parameters and the schedule it carries, and the zone it includes (01 R1, R2, R13). -/

namespace Sys2Proof.Machine

/-! ## The schedule carried (01 R1, R2) -/

/-- The band of a band argument in its set. -/
def argBand (b : BandArg) : Band :=
  ⟨b.start, if b.kind = 0 then .charged b.rate else if b.kind = 1 then .free else .noParking⟩

/-- A known kind, and a rate in range where it counts. -/
def bandKnown (b : BandArg) : Prop := b.kind ≤ 2 ∧ (b.kind = 0 → b.rate ≤ 9999)

/-- A list of band arguments that makes a schedule (01 R1, R2). -/
def scheduleInRange (bands : List BandArg) : Prop :=
  1 ≤ bands.length ∧ bands.length ≤ 8 ∧ bands.head?.map BandArg.start = some 0 ∧
    (bands.map BandArg.start).Pairwise (· < ·) ∧ ∀ b ∈ bands, b.start ≤ 1439 ∧ b.kind ≤ 2 ∧ (b.kind = 0 → b.rate ≤ 9999)

theorem bandOfArg_known {b : BandArg} (h : bandKnown b) : bandOfArg b = some (argBand b) := by
  obtain ⟨hk, hr⟩ := h
  obtain ⟨start, kind, rate⟩ := b
  rcases kind with _ | _ | _ | n
  · simp [bandOfArg, argBand, hr]
  · simp [bandOfArg, argBand]
  · simp [bandOfArg, argBand]
  · dsimp only at hk; omega

theorem bandOfArg_unknown {b : BandArg} (h : ¬bandKnown b) : bandOfArg b = none := by
  obtain ⟨start, kind, rate⟩ := b
  rcases kind with _ | _ | _ | n <;> simp_all [bandKnown, bandOfArg]

theorem mapM_bandOfArg {bands : List BandArg} :
    (∀ b ∈ bands, bandKnown b) ∧ bands.mapM bandOfArg = some (bands.map argBand) ∨
      (∃ b ∈ bands, ¬bandKnown b) ∧ bands.mapM bandOfArg = none := by
  induction bands with
  | nil => exact .inl ⟨by simp, rfl⟩
  | cons b bands ih =>
    rw [List.mapM_cons]
    by_cases hb : bandKnown b
    · rw [bandOfArg_known hb]
      rcases ih with ⟨hall, he⟩ | ⟨hex, he⟩
      · exact .inl ⟨List.forall_mem_cons.mpr ⟨hb, hall⟩, by rw [he]; rfl⟩
      · obtain ⟨x, hx, hn⟩ := hex
        exact .inr ⟨⟨x, .tail _ hx, hn⟩, by rw [he]; rfl⟩
    · exact .inr ⟨⟨b, .head _, hb⟩, by rw [bandOfArg_unknown hb]; rfl⟩

theorem startsIncrease_iff {low : Nat} {bands : List Band} :
    startsIncrease low bands = true ↔
      (bands.map Band.start).Pairwise (· < ·) ∧ ∀ b ∈ bands, low ≤ b.start ∧ b.start ≤ 1439 := by
  induction bands generalizing low with
  | nil => simp [startsIncrease]
  | cons b bands ih =>
    simp only [startsIncrease, Bool.and_eq_true, decide_eq_true_eq, ih, List.map_cons, List.pairwise_cons, List.mem_map,
      forall_exists_index, and_imp, forall_apply_eq_imp_iff₂, List.forall_mem_cons]
    constructor
    · rintro ⟨⟨hlow, hhigh⟩, hasc, hall⟩
      exact ⟨⟨fun x hx => by have := (hall x hx).1; omega, hasc⟩, ⟨hlow, hhigh⟩,
        fun x hx => ⟨by have := (hall x hx).1; omega, (hall x hx).2⟩⟩
    · rintro ⟨⟨hlt, hasc⟩, ⟨hlow, hhigh⟩, hall⟩
      exact ⟨⟨hlow, hhigh⟩, hasc, fun x hx => ⟨hlt x hx, (hall x hx).2⟩⟩

theorem scheduleValid_iff {bands : List Band} :
    scheduleValid bands = true ↔
      1 ≤ bands.length ∧ bands.length ≤ 8 ∧ bands.head?.map Band.start = some 0 ∧
        (bands.map Band.start).Pairwise (· < ·) ∧ ∀ b ∈ bands, b.start ≤ 1439 := by
  cases bands with
  | nil => simp [scheduleValid]
  | cons b rest =>
    simp only [scheduleValid, Bool.and_eq_true, beq_iff_eq, decide_eq_true_eq, startsIncrease_iff, List.length_cons,
      List.head?_cons, Option.map_some, Option.some.injEq, List.map_cons, List.pairwise_cons, List.mem_map,
      forall_exists_index, and_imp, forall_apply_eq_imp_iff₂, List.forall_mem_cons]
    constructor
    · rintro ⟨⟨h0, hlen⟩, hasc, hall⟩
      exact ⟨by omega, hlen, h0, ⟨fun x hx => by have := (hall x hx).1; omega, hasc⟩, by omega, fun x hx => (hall x hx).2⟩
    · rintro ⟨-, hlen, h0, ⟨hlt, hasc⟩, -, hall⟩
      exact ⟨⟨h0, hlen⟩, hasc, fun x hx => ⟨by have := hlt x hx; omega, hall x hx⟩⟩

theorem map_band_start (bands : List BandArg) : (bands.map argBand).map Band.start = bands.map BandArg.start := by
  simp [argBand]

theorem scheduleOfArgs_iff {args : List BandArg} {bands : List Band} :
    scheduleOfArgs args = some bands ↔ scheduleInRange args ∧ bands = args.map argBand := by
  have hhead : (args.map argBand).head?.map Band.start = args.head?.map BandArg.start := by
    cases args <;> rfl
  unfold scheduleOfArgs scheduleInRange
  rcases mapM_bandOfArg (bands := args) with ⟨hall, he⟩ | ⟨⟨b, hb, hn⟩, he⟩
  · rw [he]
    have hvalid : scheduleValid (args.map argBand) = true ↔ 1 ≤ args.length ∧ args.length ≤ 8 ∧
        args.head?.map BandArg.start = some 0 ∧ (args.map BandArg.start).Pairwise (· < ·) ∧
        ∀ b ∈ args, b.start ≤ 1439 ∧ b.kind ≤ 2 ∧ (b.kind = 0 → b.rate ≤ 9999) := by
      rw [scheduleValid_iff, List.length_map, hhead, map_band_start]
      refine and_congr_right fun _ => and_congr_right fun _ => and_congr_right fun _ => and_congr_right fun _ => ?_
      simp only [List.forall_mem_map]
      exact forall₂_congr fun b hb => ⟨fun h => ⟨h, hall b hb⟩, fun h => h.1⟩
    simp only [← hvalid]
    split
    next h => simp [h, eq_comm]
    next h => simp [h]
  · rw [he]
    simp only [reduceCtorEq, false_iff]
    rintro ⟨⟨-, -, -, -, hall⟩, -⟩
    exact hn (hall b hb).2

theorem scheduleOfArgs_eq_none_iff {args : List BandArg} : scheduleOfArgs args = none ↔ ¬scheduleInRange args := by
  rcases h : scheduleOfArgs args with _ | bands
  · refine iff_of_true rfl fun hr => ?_
    rw [scheduleOfArgs_iff.mpr ⟨hr, rfl⟩] at h
    cases h
  · exact iff_of_false (by simp) fun hn => hn (scheduleOfArgs_iff.mp h).1

/-! ## The parameters and the load carried (01 R2, R13) -/

theorem paramsOfArgs_iff {a : ZoneArgs} {params : ZoneParams} :
    paramsOfArgs a = some params ↔
      a.minimum ≤ 5000 ∧ a.maxStay ≤ 1440 ∧ a.discount ≤ 100 ∧ a.visitorRate ≤ 9999 ∧ a.carryOver ≤ 1 ∧
        params = ⟨a.minimum, a.maxStay, a.discount, a.visitorRate, decide (a.carryOver = 1)⟩ := by
  unfold paramsOfArgs
  by_cases hc : a.carryOver ≤ 1
  · rw [yesNo_of_le hc]
    simp only [Bool.and_eq_true, decide_eq_true_eq]
    split
    next h => simp [h, hc, eq_comm]
    next h =>
      simp only [reduceCtorEq, false_iff]
      rintro ⟨h1, h2, h3, h4, -, -⟩
      exact h ⟨⟨⟨h1, h2⟩, h3⟩, h4⟩
  · rw [yesNo_eq_none_iff.mpr (by omega)]
    simp [hc]

theorem paramsOfArgs_eq_none {a : ZoneArgs}
    (h : 5000 < a.minimum ∨ 1440 < a.maxStay ∨ 100 < a.discount ∨ 9999 < a.visitorRate ∨ 1 < a.carryOver) :
    paramsOfArgs a = none := by
  rcases hp : paramsOfArgs a with _ | params
  · rfl
  · obtain ⟨h1, h2, h3, h4, h5, -⟩ := paramsOfArgs_iff.mp hp
    omega

theorem dayClass_ofNumber (n : Nat) :
    DayClass.ofNumber n = [DayClass.weekday, .saturday, .sunday, .special][n]? := by
  rcases n with _ | _ | _ | _ | n <;> rfl

/-- The three outcomes of the schedule part of PendingZone (01 R13). -/
theorem loadOfArgs_none {a : ZoneArgs} (hz : a.zone ≤ 15) (hd : a.dayClass = 255) (hb : a.bands = []) :
    loadOfArgs a = .ok none := by
  simp [loadOfArgs, show ¬15 < a.zone by omega, hd, hb]

theorem loadOfArgs_class {a : ZoneArgs} (hz : a.zone ≤ 15) {c : DayClass}
    (hd : [DayClass.weekday, .saturday, .sunday, .special][a.dayClass]? = some c) :
    loadOfArgs a =
      if (scheduleOfArgs a.bands).isSome then .ok (some (c, a.bands.map argBand)) else .error .badTariff := by
  have hne : a.dayClass ≠ 255 := fun h => by rw [h] at hd; cases hd
  simp only [loadOfArgs, show ¬15 < a.zone by omega, hne, if_false, dayClass_ofNumber, hd]
  rcases hs : scheduleOfArgs a.bands with _ | bands
  · rfl
  · rw [(scheduleOfArgs_iff.mp hs).2]; rfl

theorem loadOfArgs_bad {a : ZoneArgs}
    (h : 15 < a.zone ∨ (3 < a.dayClass ∧ a.dayClass ≠ 255) ∨ (a.dayClass = 255 ∧ a.bands ≠ [])) :
    loadOfArgs a = .error .badRequest := by
  by_cases hz : 15 < a.zone
  · simp [loadOfArgs, hz]
  · rcases h.resolve_left hz with ⟨hd, hne⟩ | ⟨hd, hb⟩
    · have hnone : [DayClass.weekday, .saturday, .sunday, .special][a.dayClass]? = none :=
        List.getElem?_eq_none (by simpa using Nat.succ_le_of_lt hd)
      simp [loadOfArgs, hz, hne, dayClass_ofNumber, hnone]
    · simp [loadOfArgs, hz, hd, hb]

/-- With the zone and the day class in order, what is refused is the schedule. -/
theorem loadOfArgs_error {a : ZoneArgs} (hz : a.zone ≤ 15) (hd : a.dayClass ≤ 3 ∨ (a.dayClass = 255 ∧ a.bands = []))
    {c : Code} (h : loadOfArgs a = .error c) : c = .badTariff := by
  rcases hd with hd | ⟨hd, hb⟩
  · rw [loadOfArgs_class hz (List.getElem?_eq_getElem (by simpa using Nat.lt_succ_of_le hd))] at h
    split at h
    · cases h
    · cases h; rfl
  · rw [loadOfArgs_none hz hd hb] at h; cases h

/-- What a load that is taken says of the arguments. -/
theorem loadOfArgs_ok {a : ZoneArgs} {load : Option (DayClass × List Band)} (h : loadOfArgs a = .ok load) :
    a.zone ≤ 15 ∧
      (a.dayClass = 255 ∧ a.bands = [] ∧ load = none ∨
        ∃ c, [DayClass.weekday, .saturday, .sunday, .special][a.dayClass]? = some c ∧ scheduleInRange a.bands ∧
          load = some (c, a.bands.map argBand)) := by
  by_cases hbad : 15 < a.zone ∨ (3 < a.dayClass ∧ a.dayClass ≠ 255) ∨ (a.dayClass = 255 ∧ a.bands ≠ [])
  · rw [loadOfArgs_bad hbad] at h; cases h
  push Not at hbad
  obtain ⟨hz, hclass, hbands⟩ := hbad
  refine ⟨hz, ?_⟩
  by_cases hd : a.dayClass = 255
  · rw [loadOfArgs_none hz hd (hbands hd)] at h
    cases h
    exact .inl ⟨hd, hbands hd, rfl⟩
  · obtain ⟨c, hc⟩ : ∃ c, [DayClass.weekday, .saturday, .sunday, .special][a.dayClass]? = some c := by
      have hlt : a.dayClass < 4 := by
        have := mt hclass hd
        omega
      exact ⟨_, List.getElem?_eq_getElem hlt⟩
    rw [loadOfArgs_class hz hc] at h
    split at h
    next hs =>
      obtain ⟨bands, hs⟩ := Option.isSome_iff_exists.mp hs
      cases h
      exact .inr ⟨c, hc, (scheduleOfArgs_iff.mp hs).1, rfl⟩
    · cases h

/-! ## The zone included (01 R13, log entry 55) -/

/-- The contents of a zone with the parameters carried and the schedule loaded. -/
def PendingZone.filled (params : ZoneParams) (load : Option (DayClass × List Band)) (z : PendingZone) : PendingZone :=
  match load with
  | some (c, bands) => ({ z with params := params } : PendingZone).load c bands
  | none => { z with params := params }

theorem PendingZone.filled_zone (params : ZoneParams) (load : Option (DayClass × List Band)) (z : PendingZone) :
    (z.filled params load).zone = z.zone := by
  rcases load with _ | ⟨c, bands⟩
  · rfl
  · cases c <;> rfl

theorem PendingZone.filled_params (params : ZoneParams) (load : Option (DayClass × List Band)) (z : PendingZone) :
    (z.filled params load).params = params := by
  rcases load with _ | ⟨c, bands⟩
  · rfl
  · cases c <;> rfl

theorem includeZone_nil (zone : Nat) (params : ZoneParams) (load : Option (DayClass × List Band)) :
    includeZone zone params load [] = [PendingZone.filled params load ⟨zone, params, none, none, none, none⟩] := rfl

theorem includeZone_cons (zone : Nat) (params : ZoneParams) (load : Option (DayClass × List Band)) (z : PendingZone)
    (rest : List PendingZone) :
    includeZone zone params load (z :: rest) =
      if zone < z.zone then PendingZone.filled params load ⟨zone, params, none, none, none, none⟩ :: z :: rest
      else if zone = z.zone then z.filled params load :: rest
      else z :: includeZone zone params load rest := rfl

/-- The zone included stands among the others, which stay, in ascending order. -/
theorem includeZone_spec {zone : Nat} (params : ZoneParams) (load : Option (DayClass × List Band)) {zs : List PendingZone}
    (h : (zs.map PendingZone.zone).Pairwise (· < ·)) :
    ((includeZone zone params load zs).map PendingZone.zone).Pairwise (· < ·) ∧
      (∀ z : PendingZone, z.zone ≠ zone → (z ∈ includeZone zone params load zs ↔ z ∈ zs)) ∧
      ∃ old : PendingZone, old.filled params load ∈ includeZone zone params load zs ∧ old.zone = zone ∧
        (old ∈ zs ∨ (∀ y ∈ zs, y.zone ≠ zone) ∧ old = ⟨zone, params, none, none, none, none⟩) := by
  have hother (old z : PendingZone) (ho : old.zone = zone) (hz : z.zone ≠ zone) : z ≠ old.filled params load := by
    rintro rfl
    exact hz ((old.filled_zone params load).trans ho)
  induction zs with
  | nil =>
    rw [includeZone_nil]
    exact ⟨List.pairwise_singleton _ _, fun z hz => by simp [hother ⟨zone, params, none, none, none, none⟩ z rfl hz],
      _, .head _, rfl, .inr ⟨by simp, rfl⟩⟩
  | cons x zs ih =>
    rw [List.map_cons, List.pairwise_cons] at h
    obtain ⟨hasc, hmem, old, hin, hold, hcase⟩ := ih h.2
    rw [includeZone_cons]
    have habove (y : PendingZone) (hy : y ∈ zs) : x.zone < y.zone := h.1 _ (List.mem_map_of_mem hy)
    split
    next hlt =>
      refine ⟨?_, fun z hz => ?_, ⟨zone, params, none, none, none, none⟩, .head _, rfl, .inr ⟨fun y hy => ?_, rfl⟩⟩
      · rw [List.map_cons, List.pairwise_cons, PendingZone.filled_zone]
        refine ⟨fun k hk => ?_, by rw [List.map_cons, List.pairwise_cons]; exact h⟩
        rcases List.mem_cons.mp hk with rfl | hk
        · exact hlt
        · exact hlt.trans (h.1 k hk)
      · rw [List.mem_cons, or_iff_right (hother ⟨zone, params, none, none, none, none⟩ z rfl hz)]
      · rcases List.mem_cons.mp hy with rfl | hy
        · exact hlt.ne'
        · exact (hlt.trans (habove y hy)).ne'
    next hge =>
      split
      next heq =>
        refine ⟨?_, fun z hz => ?_, x, .head _, heq.symm, .inl (.head _)⟩
        · rw [List.map_cons, List.pairwise_cons, PendingZone.filled_zone]; exact h
        · have hx : z ≠ x := fun he => hz (he ▸ heq.symm)
          simp [hother x z heq.symm hz, hx]
      next hne =>
        refine ⟨?_, fun z hz => ?_, old, .tail _ hin, hold, ?_⟩
        · rw [List.map_cons, List.pairwise_cons]
          refine ⟨fun k hk => ?_, hasc⟩
          obtain ⟨y, hy, rfl⟩ := List.mem_map.mp hk
          by_cases hyz : y.zone = zone
          · omega
          · exact habove y ((hmem y hyz).mp hy)
        · simp [hmem z hz]
        · exact hcase.imp (fun h => .tail _ h) fun ⟨hnone, he⟩ =>
            ⟨List.forall_mem_cons.mpr ⟨fun hx => hne hx.symm, hnone⟩, he⟩

/-- Settles O21. -/
theorem pendingZoneIncludesTheZone : Obligations.PendingZoneIncludesTheZone := by
  refine ⟨fun s key a p params load hc hr hp hs hasc hz h1 h2 h3 h4 h5 hparams hload hw => ?_,
    fun a params load hparams hload => ?_, fun s key a hr => ⟨fun h => ?_, fun p hp hs => ⟨fun h => ?_, fun hz hd h => ?_⟩⟩⟩
  · have hok : loadOfArgs a = .ok load := by
      rcases hload with ⟨hd, hb, rfl⟩ | ⟨⟨c, hd, rfl⟩, hrange⟩
      · exact loadOfArgs_none hz hd hb
      · rw [loadOfArgs_class hz hd, if_pos (by rw [scheduleOfArgs_iff.mpr ⟨hrange, rfl⟩]; rfl)]
        rfl
    have hpar := paramsOfArgs_iff.mpr ⟨h1, h2, h3, h4, h5, hparams⟩
    obtain ⟨hasc', hmem, old, hin, hold, hcase⟩ := includeZone_spec (zone := a.zone) params load hasc
    refine ⟨includeZone a.zone params load p.zones, ?_, hasc', hmem, old, _, hin, (old.filled_zone _ _).trans hold,
      old.filled_params _ _, hcase.imp_left fun h => ⟨h, hold⟩, ?_⟩
    · rw [exec_pendingZone hr, (pendingZone_loaded (s := s.atCommand) hp hs hok _).2 params hpar, writable_atCommand, hw]
      exact congrArg Host.Outcome.next (putPendingSet_atCommand hc _)
    · rcases load with _ | ⟨c, bands⟩
      · rfl
      · cases c <;> rfl
  · obtain ⟨h1, h2, h3, h4, h5, rfl⟩ := paramsOfArgs_iff.mp hparams
    obtain ⟨hz, hcase⟩ := loadOfArgs_ok hload
    refine ⟨hz, h1, h2, h3, h4, h5, rfl, ?_⟩
    rcases hcase with ⟨hd, hb, rfl⟩ | ⟨c, hd, ⟨hlen, hlen', hhead, hasc, hall⟩, rfl⟩
    · exact ⟨iff_of_true rfl hd, fun _ => hb, nofun⟩
    · have hne : a.dayClass ≠ 255 := fun h => by rw [h] at hd; cases hd
      refine ⟨iff_of_false (by simp) hne, nofun, fun c' bands he => ?_⟩
      obtain ⟨rfl, rfl⟩ : c = c' ∧ a.bands.map argBand = bands := by simpa using he
      refine ⟨hd, rfl, by simpa using hlen, by simpa using hlen', ?_, by rwa [map_band_start], ?_, ?_, by simp⟩
      · rw [← hhead]; cases a.bands <;> rfl
      · simpa [argBand] using fun b hb => (hall b hb).1
      · intro b hb r hk
        obtain ⟨x, hx, rfl⟩ := List.mem_map.mp hb
        dsimp only [argBand] at hk
        split at hk
        next h0 => cases hk; exact (hall x hx).2.2 h0
        · split at hk <;> cases hk
  · rw [exec_pendingZone hr, pendingZone_not_loading (s := s.atCommand) h, refuse_atCommand]
  · rw [exec_pendingZone hr, pendingZone_refused (s := s.atCommand) hp hs (loadOfArgs_bad h), refuse_atCommand]
  · rw [exec_pendingZone hr, ← refuse_atCommand]
    by_cases hparams : 5000 < a.minimum ∨ 1440 < a.maxStay ∨ 100 < a.discount ∨ 9999 < a.visitorRate ∨ 1 < a.carryOver
    · rcases hload : loadOfArgs a with c | load
      · have hc : c = .badTariff := loadOfArgs_error hz hd hload
        rw [pendingZone_refused (s := s.atCommand) hp hs hload, hc]
      · rw [(pendingZone_loaded (s := s.atCommand) hp hs hload _).1 (paramsOfArgs_eq_none hparams)]
    · simp only [not_or] at hparams
      obtain ⟨n1, n2, n3, n4, n5⟩ := hparams
      obtain ⟨hclass, hbands⟩ :=
        ((((h.resolve_left n1).resolve_left n2).resolve_left n3).resolve_left n4).resolve_left n5
      obtain ⟨c, hc⟩ : ∃ c, [DayClass.weekday, .saturday, .sunday, .special][a.dayClass]? = some c :=
        ⟨_, List.getElem?_eq_getElem (by simpa using Nat.lt_succ_of_le hclass)⟩
      have hbad : ¬scheduleInRange a.bands := by
        rintro ⟨hlen, hlen', hhead, hasc, hall⟩
        rcases hbands with h | h | h | h | ⟨b, hb, h⟩
        · rw [h] at hlen; simp at hlen
        · omega
        · exact h hhead
        · exact h hasc
        · have := hall b hb
          omega
      have hload : loadOfArgs a = .error .badTariff := by
        rw [loadOfArgs_class hz hc, scheduleOfArgs_eq_none_iff.mpr hbad]; rfl
      rw [pendingZone_refused (s := s.atCommand) hp hs hload]

end Sys2Proof.Machine

/-! PROOFS. Frames heard in a slot's window, and the requests they open (07 R128 to R130). -/

namespace Sys2Proof.Machine

/-! ## Steady states -/

/-- Steadiness is a matter of the power state and the store controller. -/
theorem steady_congr {s t : State} (h : s.steady) (hp : t.power = s.power) (hs : t.store = s.store) : t.steady := by
  unfold State.steady at h ⊢
  rw [hp, hs]
  exact h

theorem running_of_calm {s : State} (h : s.calm = true) : s.power = .running := (s.calm_iff.mp h).1

/-! ## Frames and requests -/

theorem passPhase_onMachine (line : LineId) (n : Nat) (f : MachineRecord → MachineRecord) (s : State) :
    passPhase line (s.onMachine n f) = (passPhase line s).onMachine n f := by
  cases line <;> rfl

theorem machine?_passPhase (line : LineId) (n : Nat) (s : State) : (passPhase line s).machine? n = s.machine? n := by
  rw [State.machine?, passPhase_machines]; rfl

theorem holder?_passPhase (line line' : LineId) (slot : Nat) (s : State) :
    (passPhase line s).holder? line' slot = s.holder? line' slot := by
  rw [State.holder?, passPhase_machines]; rfl

/-- A request opened is a change of the one machine, once the phase has passed (07 R129). -/
theorem requested_eq (s : State) (line : LineId) (n : Nat) (fl : LinkFields) (kind : RequestKind) (reply : Option Answer) :
    s.requested line n fl kind reply =
      { passPhase line s with nextId := s.nextId + 1 }.onMachine n fun x =>
        { x with link := .active { fl with silence := 0 }, request := some ⟨kind, s.nextId, reply, false⟩ } := by
  cases line <;> rfl

theorem steady_requested {s : State} (h : s.steady) (line : LineId) (n : Nat) (fl : LinkFields) (kind : RequestKind)
    (reply : Option Answer) : (s.requested line n fl kind reply).steady := by
  rw [requested_eq]
  exact steady_congr h (passPhase_power line s) (passPhase_store line s)

/-- A reply made ready for the request just opened (07 R130). -/
theorem giveReply_requested (s : State) (line : LineId) (n : Nat) (fl : LinkFields) (kind : RequestKind) (a : Answer) :
    giveReply n s.nextId a (s.requested line n fl kind none) = s.requested line n fl kind (some a) := by
  rw [requested_eq, requested_eq, giveReply, onMachine_onMachine (by intro; rfl)]
  simp

section
variable {s : State} {line : LineId} {slot : Nat} {m : MachineRecord} {fl : LinkFields}

/-- The machine as a request of it leaves it. -/
theorem machine?_requested (h : s.machine? m.number = some m) (kind : RequestKind) (reply : Option Answer) :
    (s.requested line m.number fl kind reply).machine? m.number =
      some { m with link := .active { fl with silence := 0 }, request := some ⟨kind, s.nextId, reply, false⟩ } := by
  have hm : ({ passPhase line s with nextId := s.nextId + 1 } : State).machine? m.number = some m :=
    (machine?_passPhase line m.number s).trans h
  rw [requested_eq, machine?_onMachine_same (by intro; rfl), hm]
  rfl

/-- A valid uplink of an Active machine is passed on once the machine has been heard (07 R128, R135). -/
theorem validUplink_hears (h : s.hears line slot m fl) (body : MachineRecord → State → State) :
    validUplink line slot m.number body s =
      body { m with link := .active { fl with silence := 0 } } (s.heardFrom line m.number fl) := by
  obtain ⟨hstands, hholder, hmachine, hlink⟩ := h
  have hheard : hearMachine m.number (passPhase line s) = s.heardFrom line m.number fl := by
    rw [hearMachine, machine?_passPhase, hmachine]
    simp only [Option.map_some, hlink]
    exact (passPhase_onMachine line _ _ s).symm
  have hfound : (s.heardFrom line m.number fl).machine? m.number = some { m with link := .active { fl with silence := 0 } } := by
    rw [State.heardFrom, machine?_passPhase, machine?_onMachine_same (by intro; rfl), hmachine]
    rfl
  rw [validUplink, inPhase_stands hstands, hholder]
  simp only [if_true, hheard, hfound]

/-- A request of an Active machine with none pending becomes its pending request and is passed to its block
(07 R129, R130). -/
theorem request_hears {kind : RequestKind} (h : s.hears line slot m fl) (hr : m.request = none)
    (hw : ¬(s.power = .flushing ∧ kind.waits = true)) (body : MachineRecord → Nat → State → State) :
    request line slot m.number kind body s =
      settle (body { m with link := .active { fl with silence := 0 } } s.nextId
        (s.requested line m.number fl kind none)) := by
  have hflush : ¬((s.heardFrom line m.number fl).power = .flushing ∧ kind.waits = true) := by
    rw [show (s.heardFrom line m.number fl).power = s.power from passPhase_power line _]
    exact hw
  have hid : (s.heardFrom line m.number fl).nextId = s.nextId := passPhase_nextId line _
  have hopened : ({ s.heardFrom line m.number fl with nextId := s.nextId + 1 } : State).onMachine m.number
      (fun x => { x with request := some ⟨kind, s.nextId, none, false⟩ }) = s.requested line m.number fl kind none := by
    rw [requested_eq, State.heardFrom, passPhase_onMachine]
    exact onMachine_onMachine (s := { passPhase line s with nextId := s.nextId + 1 }) (by intro; rfl)
  rw [request, validUplink_hears h, if_neg (by simp [hr]), if_neg hflush]
  simp only [takeId, hid, hopened]

end

end Sys2Proof.Machine

/-! PROOFS. The QuoteRequest and the lookup's completion (02, sections 2.1, 2.2 and 2.8). -/

namespace Sys2Proof.Machine

/-! ## Form and payment kinds (02 R24, R26) -/

theorem allows_iff (m : MachineRecord) (pay : PayKind) :
    m.allows pay = true ↔
      pay = .cash ∧ m.reg.fitted ≠ .card ∧ (m.service = .inService ∨ m.service = .cashOnly) ∨
        (pay = .card ∨ pay = .unpaid) ∧ m.reg.fitted ≠ .cash ∧
          (m.service = .inService ∨ m.service = .cardOnly) := by
  unfold MachineRecord.allows
  cases pay <;> cases m.reg.fitted <;> cases m.service <;> decide

theorem permitNumber_iff {n : Nat} : permitNumber n = true ↔ 1 ≤ n ∧ n ≤ 99999999 := by
  simp [permitNumber]

theorem rateClass_ofNumber_eq_none {n : Nat} (h : 2 < n) : RateClass.ofNumber n = none := by
  rcases n with _ | _ | _ | n
  · omega
  · omega
  · omega
  · rfl

theorem payKind_ofNumber_eq_none {n : Nat} (h : 2 < n) : PayKind.ofNumber n = none := by
  rcases n with _ | _ | _ | n
  · omega
  · omega
  · omega
  · rfl

theorem rateClass_ofNumber_standard {n : Nat} : RateClass.ofNumber n = some .standard ↔ n = 0 := by
  rcases n with _ | _ | _ | n <;> simp [RateClass.ofNumber]

theorem payKind_ofNumber_cash {n : Nat} : PayKind.ofNumber n = some .cash ↔ n = 0 := by
  rcases n with _ | _ | _ | n <;> simp [PayKind.ofNumber]

theorem quoteForm_ok {f : QuoteFrame} {rate : RateClass} {pay : PayKind} (hr : RateClass.ofNumber f.rateClass = some rate)
    (hp : PayKind.ofNumber f.payKind = some pay) (ha : 1 ≤ f.amount) (ha' : pay ≠ .cash → f.amount ≤ 1440)
    (hn : rate ≠ .standard → 1 ≤ f.permit ∧ f.permit ≤ 99999999) (hv : rate ≠ .visitor ∨ pay ≠ .cash) :
    quoteForm f = .ok (rate, pay) := by
  have h1 : ¬(pay = .cash ∧ f.amount = 0) := by omega
  have h2 : ¬(pay ≠ .cash ∧ (f.amount = 0 ∨ 1440 < f.amount)) := by
    rintro ⟨hc, h⟩
    have := ha' hc
    omega
  have h3 : ¬(rate ≠ .standard ∧ permitNumber f.permit = false) := by
    rintro ⟨hs, h⟩
    rw [permitNumber_iff.mpr (hn hs)] at h
    cases h
  have h4 : ¬(rate = .visitor ∧ pay = .cash) := by tauto
  rw [quoteForm, hr, hp]
  simp only [if_neg h1, if_neg h2, if_neg h3, if_neg h4]

theorem quoteForm_bad {f : QuoteFrame}
    (h : 2 < f.rateClass ∨ 2 < f.payKind ∨ f.amount = 0 ∨ (f.payKind ≠ 0 ∧ 1440 < f.amount) ∨
      (f.rateClass ≠ 0 ∧ (f.permit = 0 ∨ 99999999 < f.permit))) : quoteForm f = .error .badRequest := by
  unfold quoteForm
  split
  next rate pay hr hp =>
    have hrate : ¬2 < f.rateClass := fun hlt => by rw [rateClass_ofNumber_eq_none hlt] at hr; cases hr
    have hpay : ¬2 < f.payKind := fun hlt => by rw [payKind_ofNumber_eq_none hlt] at hp; cases hp
    have hcash : pay = .cash ↔ f.payKind = 0 := by rw [← payKind_ofNumber_cash, hp]; simp
    have hstandard : rate = .standard ↔ f.rateClass = 0 := by rw [← rateClass_ofNumber_standard, hr]; simp
    have hnumber : permitNumber f.permit = false ↔ f.permit = 0 ∨ 99999999 < f.permit := by
      rw [← Bool.not_eq_true, permitNumber_iff]; omega
    simp only [ne_eq, hcash, hstandard, hnumber]
    split
    · rfl
    split
    · rfl
    rw [if_pos (by omega)]
  · rfl

theorem quoteForm_visitor_cash {f : QuoteFrame} (hr : f.rateClass = 2) (hp : f.payKind = 0) (ha : 1 ≤ f.amount)
    (hn : 1 ≤ f.permit) (hn' : f.permit ≤ 99999999) : quoteForm f = .error .kindNotAllowed := by
  have hnumber : permitNumber f.permit = true := permitNumber_iff.mpr ⟨hn, hn'⟩
  have hamount : f.amount ≠ 0 := by omega
  simp [quoteForm, hr, hp, RateClass.ofNumber, PayKind.ofNumber, hnumber, hamount]

/-! ## The quote answered -/

/-- What a quote comes to is a matter of the tariffs, the special days and the clock. -/
theorem computeQuote_congr {s t : State} (ht : t.tariff = s.tariff) (hc : t.clock = s.clock) (q : QuoteWork) :
    computeQuote q t = computeQuote q s := by
  have hclass (d : Date) : t.calendarClass d = s.calendarClass d := by rw [State.calendarClass, ht]; rfl
  have hday (d : Date) : t.dayClass d = s.dayClass d := by
    simp only [State.dayClass, hc, hclass]
  have hzone : t.zone = s.zone := by funext z; rw [State.zone, ht]; rfl
  have hsegs : t.walkSegments = s.walkSegments := by
    funext zone rate date
    simp only [State.walkSegments, hzone, hday, hclass]
  simp only [computeQuote, hzone, hsegs]

theorem finishQuote_reply {s : State} {q : QuoteWork} {a : Answer} (h : computeQuote q s = .reply a) (n id : Nat) :
    finishQuote n id q s = giveReply n id a s := by
  simp [finishQuote, h]

/-- The record that a QUOTED reply opens (02 R43). -/
def quoteRecord (s : State) (m : MachineRecord) (q : QuoteWork) (minutes : Nat) (price : QuotePrice) (expiry : Moment) :
    OpenQuote :=
  ⟨nextToken m.tokens, q.zone, (s.zone q.zone).generation, q.rate, q.pay, minutes, price, expiry, q.permit,
    s.clock.counter⟩

theorem finishQuote_quoted {s : State} {q : QuoteWork} {minutes : Nat} {price : QuotePrice} {expiry : Moment}
    {clamped raised : Bool} {stop : StopReason} (h : computeQuote q s = .quoted minutes price expiry clamped raised stop)
    {n : Nat} {m : MachineRecord} (hm : s.machine? n = some m) (id : Nat) :
    finishQuote n id q s =
      giveReply n id (quotedAnswer (quoteRecord s m q minutes price expiry) q.unverified clamped raised stop)
        (s.onMachine n fun x => x.quoted (quoteRecord s m q minutes price expiry)) := by
  simp only [finishQuote, h, openQuote, hm]
  rfl

/-- A machine once a reply is ready for the request that a piece of work answers. -/
def MachineRecord.withReply (id : Nat) (a : Answer) (m : MachineRecord) : MachineRecord :=
  match m.request with
  | some r => if r.id = id then { m with request := some { r with reply := some a } } else m
  | none => m

theorem giveReply_eq (n id : Nat) (a : Answer) (s : State) :
    giveReply n id a s = s.onMachine n (MachineRecord.withReply id a) := rfl

theorem withReply_number (id : Nat) (a : Answer) (m : MachineRecord) : (m.withReply id a).number = m.number := by
  unfold MachineRecord.withReply
  split
  · split <;> rfl
  · rfl

/-- A reply does not meet a change of the machine that leaves its request. -/
theorem giveReply_onMachine {f : MachineRecord → MachineRecord} (hn : ∀ m, (f m).number = m.number)
    (hr : ∀ m r, f { m with request := r } = { f m with request := r }) (s : State) (n id : Nat) (a : Answer) :
    giveReply n id a (s.onMachine n f) = (giveReply n id a s).onMachine n f := by
  have hrequest (m : MachineRecord) : (f m).request = m.request :=
    (congrArg MachineRecord.request (hr m m.request) : (f m).request = _)
  rw [giveReply_eq, giveReply_eq, onMachine_onMachine hn, onMachine_onMachine (withReply_number id a)]
  congr 1
  funext m
  unfold MachineRecord.withReply
  rw [hrequest]
  rcases m.request with _ | r
  · rfl
  · by_cases hid : r.id = id
    · simp only [hid, if_true]
      exact (hr m _).symm
    · simp only [hid, if_false]

@[simp] theorem requested_power (s : State) (line : LineId) (n : Nat) (fl : LinkFields) (kind : RequestKind)
    (reply : Option Answer) : (s.requested line n fl kind reply).power = s.power := passPhase_power line _

@[simp] theorem requested_store (s : State) (line : LineId) (n : Nat) (fl : LinkFields) (kind : RequestKind)
    (reply : Option Answer) : (s.requested line n fl kind reply).store = s.store := passPhase_store line _

@[simp] theorem requested_tariff (s : State) (line : LineId) (n : Nat) (fl : LinkFields) (kind : RequestKind)
    (reply : Option Answer) : (s.requested line n fl kind reply).tariff = s.tariff := passPhase_tariff line _

@[simp] theorem requested_clock (s : State) (line : LineId) (n : Nat) (fl : LinkFields) (kind : RequestKind)
    (reply : Option Answer) : (s.requested line n fl kind reply).clock = s.clock := passPhase_clock line _

@[simp] theorem requested_permits (s : State) (line : LineId) (n : Nat) (fl : LinkFields) (kind : RequestKind)
    (reply : Option Answer) : (s.requested line n fl kind reply).permits = s.permits := passPhase_permits line _

theorem steady_requested_onMachine {s : State} (h : s.steady) (line : LineId) (n : Nat) (fl : LinkFields)
    (kind : RequestKind) (reply : Option Answer) (k : Nat) (f : MachineRecord → MachineRecord) :
    ((s.requested line n fl kind reply).onMachine k f).steady :=
  steady_congr h (requested_power s line n fl kind reply) (requested_store s line n fl kind reply)

/-- The walk of a quote at the arrival of its request, and its reply. -/
theorem finishQuote_requested {s : State} (h : s.steady) {line : LineId} {m : MachineRecord}
    (hm : s.machine? m.number = some m) (fl : LinkFields) (q : QuoteWork) :
    (∀ a, computeQuote q s = .reply a →
      settle (finishQuote m.number s.nextId q (s.requested line m.number fl .quoteRequest none)) =
        s.requested line m.number fl .quoteRequest (some a)) ∧
    ∀ minutes price expiry clamped raised stop,
      computeQuote q s = .quoted minutes price expiry clamped raised stop →
        settle (finishQuote m.number s.nextId q (s.requested line m.number fl .quoteRequest none)) =
          (s.requested line m.number fl .quoteRequest
            (some (quotedAnswer (quoteRecord s m q minutes price expiry) q.unverified clamped raised stop))).onMachine
            m.number fun x => x.quoted (quoteRecord s m q minutes price expiry) := by
  have hsame : computeQuote q (s.requested line m.number fl .quoteRequest none) = computeQuote q s :=
    computeQuote_congr (requested_tariff ..) (requested_clock ..) q
  refine ⟨fun a ha => ?_, fun minutes price expiry clamped raised stop hq => ?_⟩
  · rw [finishQuote_reply (hsame.trans ha), giveReply_requested]
    exact settle_steady (steady_requested h ..)
  · have hrecord : quoteRecord (s.requested line m.number fl .quoteRequest none)
        { m with link := .active { fl with silence := 0 }, request := some ⟨.quoteRequest, s.nextId, none, false⟩ } q
        minutes price expiry = quoteRecord s m q minutes price expiry := by
      simp only [quoteRecord, State.zone, requested_tariff, requested_clock]
    rw [finishQuote_quoted (hsame.trans hq) (machine?_requested hm ..), hrecord,
      giveReply_onMachine (by intro; rfl) (by intros; rfl), giveReply_requested]
    exact settle_steady (steady_requested_onMachine h ..)

/-- Settles O27. -/
theorem quoteRequestIsAnsweredOrLookedUp : Obligations.QuoteRequestIsAnsweredOrLookedUp := by
  refine ⟨allows_iff, fun s line slot m fl f hs hh hr hf => ?_⟩
  have hexec : exec (.quoteRequest line slot f) s =
      .next (settle (quoteArrival f { m with link := .active { fl with silence := 0 } } s.nextId
        (s.requested line m.number fl .quoteRequest none))) := by
    show Host.Outcome.next (request line slot f.machine .quoteRequest (quoteArrival f) s) = _
    rw [hf, request_hears hh hr (by simp [RequestKind.waits])]
  have hreply (a : Answer) : settle (giveReply m.number s.nextId a (s.requested line m.number fl .quoteRequest none)) =
      s.requested line m.number fl .quoteRequest (some a) := by
    rw [giveReply_requested]; exact settle_steady (steady_requested hs ..)
  have hmachine := hh.2.2.1
  rw [hexec]
  refine ⟨fun h => ?_, fun h2 h0 ha hn hn' => ?_, fun rate pay hrate hpay ha ha' hn hv => ?_⟩
  · simp only [quoteArrival, quoteForm_bad h, hreply]
  · simp only [quoteArrival, quoteForm_visitor_cash h2 h0 ha hn hn', hreply]
  have hform := quoteForm_ok hrate hpay ha ha' hn hv
  refine ⟨fun ht => ?_, fun t ht => ⟨fun hblocked => ?_, fun hallowed hstandard => ?_, fun hallowed hrate hclosed => ?_,
    fun hallowed hrate hopen => ?_⟩⟩
  · simp only [quoteArrival, hform, requested_clock, ht, hreply]
  · have hblocked' : ({ m with link := .active { fl with silence := 0 } } : MachineRecord).allows pay = false := hblocked
    simp only [quoteArrival, hform, requested_clock, ht, hblocked', if_true, hreply]
  · have hallowed' : ({ m with link := .active { fl with silence := 0 } } : MachineRecord).allows pay = true := hallowed
    simp only [quoteArrival, hform, requested_clock, ht, hallowed', hstandard, if_true, Bool.true_eq_false, if_false]
    obtain ⟨hreplied, hquoted⟩ := finishQuote_requested hs (line := line) hmachine fl
      ⟨m.reg.zone, t.date, t.minute, .standard, pay, f.amount, none, none, false⟩
    exact ⟨fun a h => congrArg Host.Outcome.next (hreplied a h), fun minutes price expiry clamped raised stop h =>
      ⟨_, rfl, congrArg Host.Outcome.next (hquoted minutes price expiry clamped raised stop h)⟩⟩
  · have hallowed' : ({ m with link := .active { fl with silence := 0 } } : MachineRecord).allows pay = true := hallowed
    have hclosed' : s.permits.hold.closed = true := by rcases hclosed with h | h <;> rw [h] <;> rfl
    simp only [quoteArrival, hform, requested_clock, ht, hallowed', hrate, Bool.true_eq_false, if_false, askLookup,
      requested_permits, hclosed', if_true, takeUnverified]
    refine ⟨fun hv hp => ?_, fun hvp => ?_⟩
    · rw [if_pos ⟨hv, hp⟩, hreply]
    · have hvp' : ¬(rate = .visitor ∧ pay = .unpaid) := by tauto
      rw [if_neg hvp', walkUnlessMoved, if_neg (by simp)]
      obtain ⟨hreplied, hquoted⟩ := finishQuote_requested hs (line := line) hmachine fl
        ⟨m.reg.zone, t.date, t.minute, .standard, pay, f.amount, none, none, true⟩
      exact ⟨fun a h => congrArg Host.Outcome.next (hreplied a h), fun minutes price expiry clamped raised stop h =>
        ⟨_, rfl, congrArg Host.Outcome.next (hquoted minutes price expiry clamped raised stop h)⟩⟩
  · have hallowed' : ({ m with link := .active { fl with silence := 0 } } : MachineRecord).allows pay = true := hallowed
    have hopen' : s.permits.hold.closed = false := by rcases hopen with h | h <;> rw [h] <;> rfl
    have hsteady := steady_requested hs line m.number fl .quoteRequest none
    simp only [quoteArrival, hform, requested_clock, ht, hallowed', hrate, Bool.true_eq_false, if_false, askLookup,
      requested_permits, hopen', Bool.false_eq_true]
    have hask := ask_read_steady
      (op := ⟨.lookup ⟨m.number, s.nextId, f.permit, rate, pay, f.amount, m.reg.zone, t.date, t.minute, false⟩, 3, .nobody⟩)
      hsteady rfl (le_refl 3) rfl
    have hreading := settle_steady (steady_reading hsteady
      ⟨.lookup ⟨m.number, s.nextId, f.permit, rate, pay, f.amount, m.reg.zone, t.date, t.minute, false⟩, 3, .nobody⟩)
    rw [requested_store] at hask hreading
    rw [hask, hreading]
    simp only [requested_clock, requested_permits]

/-! ## The lookup's completion (02 R27 to R29; 04 R65, R66) -/

/-- What a completion's work leaves of the state it is done in. -/
theorem performing_frame {s t : State} {r : StoreOp} (h : s.performing r)
    (ht : t = endServing s ∨ t = { s with store := s.store.ending }) :
    ∃ c, t = { s with store := c } ∧ c.backlog = 0 ∧ c.flush = false := by
  obtain ⟨-, hb, hf, -, -⟩ := s.calm_iff.mp h.1
  rcases ht with rfl | rfl
  · obtain ⟨sv, q, he⟩ := endServing_frame s
    exact ⟨_, he, hb, hf⟩
  · exact ⟨_, rfl, hb, hf⟩

/-- A read's completion in calm whose work leaves the power state and the store controller. -/
theorem onCompletion_read {awaited : StoreWork → Bool} {effect : Holder → State → State} {s : State} {r : StoreOp}
    {body : State → State} (h : s.performing r) (ha : awaited r.work = true)
    (hb : ∀ (x : Holder) (c : StoreControl), x.op = r → effect x { s with store := c } = body { s with store := c })
    (hp : ∀ t, (body t).power = t.power) (hs : ∀ t, (body t).store = t.store) :
    onCompletion awaited effect s = s.whenDone body := by
  refine onCompletion_performing h ha (fun x t hx ht => ?_) fun t ht => ?_
  · obtain ⟨c, rfl, -, -⟩ := performing_frame h ht
    exact hb x c hx
  · obtain ⟨c, rfl, hb', hf⟩ := performing_frame h ht
    rw [hp, hs]
    exact ⟨(show s.power = .running from running_of_calm h.1), hb', hf⟩

theorem exec_lookupCompletion {s : State} {w : LookupWork} {cls : Nat} {asker : Requester}
    (h : s.performing ⟨.lookup w, cls, asker⟩) {body : State → State}
    (hb : ∀ c : StoreControl, lookupDone w { s with store := c } = body { s with store := c })
    (hp : ∀ t, (body t).power = t.power) (hs : ∀ t, (body t).store = t.store) :
    exec .lookupCompletion s = .next (s.whenDone body) := by
  refine congrArg Host.Outcome.next (onCompletion_read h rfl (fun x c hx => ?_) hp hs)
  rw [lookupEffect, hx]
  exact hb c

theorem permitCause_some (rate : RateClass) (date : Date) (zone : Nat) (p : Permit) :
    permitCause (some p) rate (some date) zone =
      if ¬(p.kind = .resident ∧ rate = .resident ∨ p.kind = .visitor ∧ rate = .visitor) then some .wrongKind
      else if p.state = .revoked then some .revoked
      else if p.state = .suspended then some .suspended
      else if date.key < p.validFrom.key ∨ p.validTo.key < date.key then some .notCurrent
      else if p.zones.getLsbD zone = false then some .wrongZone
      else none := by
  have hserves : p.kind.serves rate = true ↔
      (p.kind = .resident ∧ rate = .resident ∨ p.kind = .visitor ∧ rate = .visitor) := by
    cases p.kind <;> cases rate <;> decide
  simp only [permitCause, ← hserves, Bool.not_eq_true', Bool.or_eq_true, decide_eq_true_eq, Bool.not_eq_true]

/-- The quote of a lookup, walked with the values fixed at arrival: its reply, or the quote opened. -/
theorem finishQuote_lookup {s : State} {n : Nat} {m : MachineRecord} (hm : s.machine? n = some m) (id : Nat) (q : QuoteWork)
    (c : StoreControl) :
    (∀ a, computeQuote q s = .reply a →
      finishQuote n id q { s with store := c } = giveReply n id a { s with store := c }) ∧
    ∀ minutes price expiry clamped raised stop,
      computeQuote q s = .quoted minutes price expiry clamped raised stop →
        finishQuote n id q { s with store := c } =
          giveReply n id (quotedAnswer (quoteRecord s m q minutes price expiry) q.unverified clamped raised stop)
            (({ s with store := c } : State).onMachine n fun x => x.quoted (quoteRecord s m q minutes price expiry)) := by
  have hsame : computeQuote q { s with store := c } = computeQuote q s := computeQuote_congr rfl rfl q
  exact ⟨fun a ha => finishQuote_reply (hsame.trans ha) n id, fun _ _ _ _ _ _ hq =>
    finishQuote_quoted (hsame.trans hq) hm id⟩

/-- Settles O28. -/
theorem lookupCompletionFinishesTheQuote : Obligations.LookupCompletionFinishesTheQuote := by
  refine ⟨fun rate date zone => ⟨rfl, permitCause_some rate date zone⟩, fun s w cls asker h =>
    ⟨fun hgone => ?_, fun m r hm hr hid => ⟨fun c hv hc => ?_, fun p hv hp hc => ⟨fun hvis hbal => ?_, fun hbal hmoved => ?_,
      fun hbal hmoved q hq => ?_⟩, fun hu => ⟨fun hvis hpay => ?_, fun hpay hmoved => ?_, fun hpay hmoved q hq => ?_⟩⟩⟩⟩
  · refine exec_lookupCompletion h (fun c => ?_) (fun _ => rfl) fun _ => rfl
    unfold lookupDone
    split
    · rfl
    next r hr =>
      obtain ⟨m, hm, hr⟩ := Option.bind_eq_some_iff.mp hr
      rw [if_neg (hgone m r hm hr)]
  all_goals
    have hfound (c : StoreControl) : (({ s with store := c } : State).machine? w.machine).bind MachineRecord.request = some r :=
      Option.bind_eq_some_iff.mpr ⟨m, hm, hr⟩
  · refine exec_lookupCompletion h (fun c' => ?_) (fun _ => rfl) fun _ => rfl
    simp only [lookupDone, hfound, hid, if_true, hv, Bool.false_eq_true, if_false, takeLookup, hc]
  · have hbal' : w.rate = .visitor ∧ (some p).bind (·.balance) = some 0 := ⟨hvis, hbal⟩
    refine exec_lookupCompletion h (fun c' => ?_) (fun _ => rfl) fun _ => rfl
    simp only [lookupDone, hfound, hid, if_true, hv, Bool.false_eq_true, if_false, takeLookup, hp, hc, if_pos hbal']
  · have hbal' : ¬(w.rate = .visitor ∧ p.balance = some 0) := by tauto
    refine exec_lookupCompletion h (fun c' => ?_) (fun _ => rfl) fun _ => rfl
    simp only [lookupDone, hfound, hid, if_true, hv, Bool.false_eq_true, if_false, takeLookup, hp, hc, Option.bind_some,
      if_neg hbal', walkUnlessMoved, hmoved]
    rfl
  · have hbal' : ¬(w.rate = .visitor ∧ p.balance = some 0) := by tauto
    have hdone (c' : StoreControl) : lookupDone w { s with store := c' } = finishQuote w.machine w.id q { s with store := c' } := by
      simp only [lookupDone, hfound, hid, if_true, hv, Bool.false_eq_true, if_false, takeLookup, hp, hc, Option.bind_some,
        if_neg hbal', walkUnlessMoved, hmoved, hq]
      rfl
    refine ⟨fun a ha => exec_lookupCompletion h (fun c' => ?_) (fun _ => rfl) fun _ => rfl,
      fun minutes price expiry clamped raised stop hquoted => ⟨quoteRecord s m q minutes price expiry, by rw [hq]; rfl,
        exec_lookupCompletion h (fun c' => ?_) (fun _ => rfl) fun _ => rfl⟩⟩
    · rw [hdone, (finishQuote_lookup hm w.id q c').1 a ha]
    · rw [hdone, (finishQuote_lookup hm w.id q c').2 _ _ _ _ _ _ hquoted, hq]
      rfl
  · refine exec_lookupCompletion h (fun c' => ?_) (fun _ => rfl) fun _ => rfl
    simp only [lookupDone, hfound, hid, if_true, hu, takeUnverified, hvis, hpay, and_self]
  · have hpay' : ¬(w.rate = .visitor ∧ w.pay = .unpaid) := by tauto
    refine exec_lookupCompletion h (fun c' => ?_) (fun _ => rfl) fun _ => rfl
    simp only [lookupDone, hfound, hid, if_true, hu, takeUnverified, if_neg hpay', walkUnlessMoved, hmoved]
    rfl
  · have hpay' : ¬(w.rate = .visitor ∧ w.pay = .unpaid) := by tauto
    have hdone (c' : StoreControl) : lookupDone w { s with store := c' } = finishQuote w.machine w.id q { s with store := c' } := by
      simp only [lookupDone, hfound, hid, if_true, hu, takeUnverified, if_neg hpay', walkUnlessMoved, hmoved, hq,
        Bool.false_eq_true, if_false]
      rfl
    refine ⟨fun a ha => exec_lookupCompletion h (fun c' => ?_) (fun _ => rfl) fun _ => rfl,
      fun minutes price expiry clamped raised stop hquoted => ⟨quoteRecord s m q minutes price expiry, by rw [hq]; rfl,
        exec_lookupCompletion h (fun c' => ?_) (fun _ => rfl) fun _ => rfl⟩⟩
    · rw [hdone, (finishQuote_lookup hm w.id q c').1 a ha]
    · rw [hdone, (finishQuote_lookup hm w.id q c').2 _ _ _ _ _ _ hquoted, hq]
      rfl

/-! ## The lifetime of a quote (03 R56) -/

theorem onMachine_eq_self {s : State} {n : Nat} {f : MachineRecord → MachineRecord}
    (h : ∀ m ∈ s.machines, m.number = n → f m = m) : s.onMachine n f = s := by
  have hmap : (s.machines.map fun m => if m.number = n then f m else m) = s.machines := by
    refine (List.map_congr_left fun m hm => ?_).trans (List.map_id _)
    split
    next hn => exact h m hm hn
    · rfl
  rw [State.onMachine, hmap]

/-- With numbers distinct, the machine that a number names is the one it finds. -/
theorem machine?_of_nodup {s : State} (h : (s.machines.map MachineRecord.number).Nodup) {m : MachineRecord}
    (hm : m ∈ s.machines) : s.machine? m.number = some m := by
  obtain ⟨x, hx⟩ : ∃ x, s.machine? m.number = some x :=
    Option.isSome_iff_exists.mp (List.find?_isSome.mpr ⟨m, hm, by simp⟩)
  have hnumber : x.number = m.number := by simpa using List.find?_some hx
  rw [hx, List.inj_on_of_nodup_map h (machine?_mem hx) hm hnumber]

/-- A change that every machine of the number takes alike is that change. -/
theorem onMachine_congr {s : State} {n : Nat} {f g : MachineRecord → MachineRecord}
    (h : ∀ m ∈ s.machines, m.number = n → f m = g m) : s.onMachine n f = s.onMachine n g := by
  have hmap : (s.machines.map fun m => if m.number = n then f m else m) =
      s.machines.map fun m => if m.number = n then g m else m := by
    refine List.map_congr_left fun m hm => ?_
    split
    next hn => exact h m hm hn
    · rfl
  rw [State.onMachine, State.onMachine, hmap]

/-- Settles O29: the row asks each machine of the number for a quote whose lifetime has run out. -/
theorem quoteExpiryDiscardsTheQuote : Obligations.QuoteExpiryDiscardsTheQuote := by
  refine fun s n hnodup => ⟨fun m q hm hq hlate => congrArg Host.Outcome.next ?_, fun hearly => congrArg Host.Outcome.next ?_⟩
  · refine onMachine_congr fun x hx hxn => ?_
    have hxm : x = m := Option.some.inj ((machine?_of_nodup hnodup hx).symm.trans (hxn ▸ hm))
    have hexpired : s.quoteExpired q = true := decide_eq_true hlate
    simp only [hxm, hq, hexpired, if_true]
  · refine onMachine_eq_self fun x hx hxn => ?_
    have hxm : s.machine? n = some x := hxn ▸ machine?_of_nodup hnodup hx
    cases hq : x.openQuote with
    | none => simp only
    | some q =>
      have hnot : s.quoteExpired q = false := decide_eq_false (Nat.not_le.mpr (hearly x q hxm hq))
      simp only [hnot, Bool.false_eq_true, if_false]

end Sys2Proof.Machine

/-! PROOFS. Faults raised and cleared: what they make of the machine, and what they leave (06, section 6.3). -/

namespace Sys2Proof.Machine

/-! ## Entries -/

@[simp] theorem FaultEntries.get_set_same (f : FaultEntries) (k : FaultKind) (e : FaultEntry) : (f.set k e).get k = e := by
  cases k <;> rfl

theorem FaultEntries.get_set_other (f : FaultEntries) {k k' : FaultKind} (e : FaultEntry) (h : k' ≠ k) :
    (f.set k e).get k' = f.get k' := by
  cases k <;> cases k' <;> first | rfl | exact absurd rfl h

theorem FaultEntries.active_set_same (f : FaultEntries) (k : FaultKind) (e : FaultEntry) :
    (f.set k e).active k = e.active := by
  rw [FaultEntries.active, FaultEntries.get_set_same]

theorem FaultEntries.active_set_other (f : FaultEntries) {k k' : FaultKind} (e : FaultEntry) (h : k' ≠ k) :
    (f.set k e).active k' = f.active k' := by
  rw [FaultEntries.active, FaultEntries.get_set_other f e h, FaultEntries.active]

/-! ## The machine after a raise or a clear -/

/-- A machine after a raise at a moment (06 R110, R111). -/
def MachineRecord.raised (k : FaultKind) (t : Option Moment) (m : MachineRecord) : MachineRecord :=
  m.withEntry k ((m.faults.get k).raised t)

/-- A machine after a clear at a moment (06 R112). -/
def MachineRecord.cleared (k : FaultKind) (t : Option Moment) (m : MachineRecord) : MachineRecord :=
  m.withEntry k ((m.faults.get k).cleared t)

theorem raiseFault_eq {s : State} {n : Nat} {m : MachineRecord} (h : s.machine? n = some m) (k : FaultKind) :
    raiseFault n k s =
      notify (faultRaisedNotice n k k.severity (m.faults.get k).active ((m.faults.get k).raised s.now).count s.now)
        { s.onMachine n fun x => x.withEntry k ((m.faults.get k).raised s.now) with summary := s.summary.add n k } := by
  simp only [raiseFault, h]
  rfl

theorem clearFault_active {s : State} {n : Nat} {m : MachineRecord} (h : s.machine? n = some m) {k : FaultKind}
    (ha : m.faults.active k = true) (c : ClearCause) :
    clearFault n k c s =
      notify (faultClearedNotice n k c s.now) (s.onMachine n fun x => x.withEntry k ((m.faults.get k).cleared s.now)) := by
  simp only [clearFault, h]
  exact if_pos ha

theorem clearFault_inactive {s : State} {n : Nat} {m : MachineRecord} (h : s.machine? n = some m) {k : FaultKind}
    (ha : m.faults.active k = false) (c : ClearCause) : clearFault n k c s = s := by
  simp only [clearFault, h]
  exact if_neg (ne_true_of_eq_false ha)

theorem raiseInactive_eq {s : State} {n : Nat} {m : MachineRecord} (h : s.machine? n = some m) (k : FaultKind) :
    raiseInactive n k s = if m.faults.active k = false then raiseFault n k s else s := by
  simp only [raiseInactive, h]
  cases m.faults.active k <;> rfl

/-- The machine after a raise of it. -/
theorem machine?_raiseFault {s : State} {n : Nat} {m : MachineRecord} (h : s.machine? n = some m) (k : FaultKind) :
    (raiseFault n k s).machine? n = some (m.raised k s.now) := by
  rw [raiseFault_eq h]
  show (s.onMachine n fun x => x.withEntry k ((m.faults.get k).raised s.now)).machine? n = _
  rw [machine?_onMachine_same (by intro; rfl), h]
  rfl

/-- The machine after a clear of an active kind of it. -/
theorem machine?_clearFault {s : State} {n : Nat} {m : MachineRecord} (h : s.machine? n = some m) {k : FaultKind}
    (ha : m.faults.active k = true) (c : ClearCause) :
    (clearFault n k c s).machine? n = some (m.cleared k s.now) := by
  rw [clearFault_active h ha]
  show (s.onMachine n fun x => x.withEntry k ((m.faults.get k).cleared s.now)).machine? n = _
  rw [machine?_onMachine_same (by intro; rfl), h]
  rfl

section
variable (m : MachineRecord) (k : FaultKind) (t : Option Moment)

@[simp] theorem MachineRecord.raised_reg : (m.raised k t).reg = m.reg := rfl
@[simp] theorem MachineRecord.raised_number : (m.raised k t).number = m.number := rfl
@[simp] theorem MachineRecord.raised_tally : (m.raised k t).tally = m.tally := rfl
@[simp] theorem MachineRecord.raised_group : (m.raised k t).group = m.group := rfl

theorem MachineRecord.raised_active_other {k' : FaultKind} (h : k' ≠ k) :
    (m.raised k t).faults.active k' = m.faults.active k' :=
  FaultEntries.active_set_other _ _ h

theorem MachineRecord.raised_active_same : (m.raised k t).faults.active k = true :=
  FaultEntries.active_set_same _ _ _

end

/-! ## What a raise leaves -/

section
variable (n : Nat) (k : FaultKind) (s : State)

@[simp] theorem raiseFault_power : (raiseFault n k s).power = s.power := by
  obtain ⟨_, _, _, h⟩ := raiseFault_frame n k s; rw [h]
@[simp] theorem raiseFault_store : (raiseFault n k s).store = s.store := by
  obtain ⟨_, _, _, h⟩ := raiseFault_frame n k s; rw [h]
@[simp] theorem raiseFault_clock : (raiseFault n k s).clock = s.clock := by
  obtain ⟨_, _, _, h⟩ := raiseFault_frame n k s; rw [h]
@[simp] theorem raiseFault_cash : (raiseFault n k s).cash = s.cash := by
  obtain ⟨_, _, _, h⟩ := raiseFault_frame n k s; rw [h]
@[simp] theorem raiseFault_permits : (raiseFault n k s).permits = s.permits := by
  obtain ⟨_, _, _, h⟩ := raiseFault_frame n k s; rw [h]
@[simp] theorem raiseFault_nv : (raiseFault n k s).nv = s.nv := by
  obtain ⟨_, _, _, h⟩ := raiseFault_frame n k s; rw [h]
@[simp] theorem raiseInactive_power : (raiseInactive n k s).power = s.power := by
  obtain ⟨_, _, _, h⟩ := raiseInactive_frame n k s; rw [h]
@[simp] theorem raiseInactive_store : (raiseInactive n k s).store = s.store := by
  obtain ⟨_, _, _, h⟩ := raiseInactive_frame n k s; rw [h]

end

end Sys2Proof.Machine

/-! PROOFS. Sale commits at their arrival (03, sections 3.2 and 3.3). -/

namespace Sys2Proof.Machine

/-! ## The checks -/

theorem saleForm_some_iff {f : SaleFrame} {pay : PayKind} :
    saleForm f = some pay ↔
      (1 ≤ f.token ∧ f.token ≤ 255 ∧ 1 ≤ f.serial ∧ f.serial ≤ 999999) ∧
        (f.payKind = 0 ∧ 1 ≤ f.tendered ∧ pay = .cash ∨ f.payKind = 1 ∧ pay = .card) := by
  unfold saleForm
  by_cases hrange : f.token = 0 ∨ 255 < f.token ∨ f.serial = 0 ∨ Config.serials < f.serial
  · rw [if_pos hrange]
    have : ¬(1 ≤ f.token ∧ f.token ≤ 255 ∧ 1 ≤ f.serial ∧ f.serial ≤ 999999) := by
      have : Config.serials = 999999 := rfl
      omega
    simp [this]
  · rw [if_neg hrange]
    have hin : 1 ≤ f.token ∧ f.token ≤ 255 ∧ 1 ≤ f.serial ∧ f.serial ≤ 999999 := by
      have : Config.serials = 999999 := rfl
      omega
    simp only [hin, and_self, true_and]
    rcases hk : f.payKind with _ | _ | _ | k
    · by_cases ht : f.tendered = 0
      · simp [PayKind.ofNumber, ht]
      · simp [PayKind.ofNumber, ht, Nat.one_le_iff_ne_zero, eq_comm]
    · simp [PayKind.ofNumber, eq_comm]
    · simp [PayKind.ofNumber]
    · simp [PayKind.ofNumber]

theorem saleForm_bad {f : SaleFrame}
    (h : f.token = 0 ∨ 255 < f.token ∨ f.serial = 0 ∨ 999999 < f.serial ∨ 1 < f.payKind ∨ (f.payKind = 0 ∧ f.tendered = 0)) :
    saleForm f = none := by
  refine Option.eq_none_iff_forall_ne_some.mpr fun pay hp => ?_
  have := saleForm_some_iff.mp hp
  omega

theorem repeats_iff {a : Accepted} {f : SaleFrame} : a.repeats f = true ↔ a = ⟨some f.serial, some f.token⟩ := by
  cases a
  simp [Accepted.repeats]

theorem serialWindow_in {last serial : Nat}
    (h : 1 ≤ (serial + 999999 - last) % 999999 ∧ (serial + 999999 - last) % 999999 ≤ 1000) :
    serialWindow (some last) serial = some (decide (2 ≤ (serial + 999999 - last) % 999999)) := by
  have hd : serialDistance last serial = (serial + 999999 - last) % 999999 := rfl
  have hw : Config.serialWindow = 1000 := rfl
  simp only [serialWindow, hd, hw]
  by_cases h1 : (serial + 999999 - last) % 999999 = 1
  · simp [h1]
  · have h2 : 2 ≤ (serial + 999999 - last) % 999999 := by omega
    simp [h1, h2, h.2]

theorem serialWindow_out {last serial : Nat}
    (h : (serial + 999999 - last) % 999999 = 0 ∨ 1000 < (serial + 999999 - last) % 999999) :
    serialWindow (some last) serial = none := by
  have hd : serialDistance last serial = (serial + 999999 - last) % 999999 := rfl
  have hw : Config.serialWindow = 1000 := rfl
  simp only [serialWindow, hd, hw]
  rw [if_neg (by omega), if_neg (by omega)]

theorem takesPayment_iff {m : MachineRecord} {q : OpenQuote} {pay : PayKind} :
    m.takesPayment q pay = true ↔ pay = q.pay ∧ m.allows pay = true ∧ (pay = .cash → ∃ box, m.box = .installed box) := by
  unfold MachineRecord.takesPayment
  cases pay <;> cases m.box <;> simp

theorem amountMatches_iff {values : Octet Nat} {q : OpenQuote} {f : SaleFrame} :
    amountMatches values q f = true ↔
      f.coins ≠ [] ∧ f.coins.length ≤ 8 ∧ (f.coins.map CoinPair.index).Nodup ∧
        (∀ c ∈ f.coins, c.index ≤ 7 ∧ 1 ≤ c.count ∧ 1 ≤ values.get c.index) ∧
        (f.coins.map fun c => c.count * values.get c.index).sum = f.tendered ∧ q.price.amount = f.tendered := by
  simp only [amountMatches, coinListSound, coinSum, Bool.and_eq_true, Bool.not_eq_true', List.isEmpty_eq_false_iff,
    decide_eq_true_eq, List.all_eq_true, beq_iff_eq]
  constructor
  · rintro ⟨⟨⟨⟨⟨hne, hlen⟩, hall⟩, hnodup⟩, hsum⟩, hprice⟩
    exact ⟨hne, hlen, hnodup, fun c hc => ⟨(hall c hc).1.1, (hall c hc).1.2, (hall c hc).2⟩, hsum, hprice.symm⟩
  · rintro ⟨hne, hlen, hnodup, hall, hsum, hprice⟩
    exact ⟨⟨⟨⟨⟨hne, hlen⟩, fun c hc => ⟨⟨(hall c hc).1, (hall c hc).2.1⟩, (hall c hc).2.2⟩⟩, hnodup⟩, hsum⟩, hprice.symm⟩

/-! ## Tallies -/

theorem get_addCoins {coins : List CoinPair} (hc : ∀ c ∈ coins, c.index ≤ 7) {i : Nat} (hi : i < 8) (counts : Octet Nat) :
    (addCoins counts coins).get i = counts.get i + ((coins.filter fun c => c.index == i).map CoinPair.count).sum := by
  induction coins generalizing counts with
  | nil => rfl
  | cons c rest ih =>
    have hindex : c.index < 8 := Nat.lt_succ_of_le (hc c List.mem_cons_self)
    rw [addCoins, List.foldl_cons, ← addCoins, ih fun x hx => hc x (List.mem_cons_of_mem _ hx), Octet.get_set _ _ hindex hi]
    by_cases h : c.index = i
    · simp [h, Nat.add_assoc]
    · simp [h, Ne.symm h]

theorem sold_eq {a : Tally} {values : Octet Nat} {serial tendered : Nat} {coins : List CoinPair}
    (h : (coins.map fun c => c.count * values.get c.index).sum = tendered) :
    a.sold values serial coins =
      { a with
        counts := (a.sold values serial coins).counts
        cash := a.cash + tendered
        sales := a.sales + 1
        coins := a.coins + (coins.map CoinPair.count).sum
        first := if a.first = none then some serial else a.first
        last := some serial } := by
  have hfirst : some (a.first.getD serial) = if a.first = none then some serial else a.first := by
    cases a.first <;> rfl
  simp only [Tally.sold, coinSum, h, hfirst]

/-! ## A commit that has been heard -/

@[simp] theorem requested_timers (s : State) (line : LineId) (n : Nat) (fl : LinkFields) (kind : RequestKind)
    (reply : Option Answer) : (s.requested line n fl kind reply).timers = s.timers := passPhase_timers line _

@[simp] theorem requested_cash (s : State) (line : LineId) (n : Nat) (fl : LinkFields) (kind : RequestKind)
    (reply : Option Answer) : (s.requested line n fl kind reply).cash = s.cash := passPhase_cash line _

theorem requested_numbers (s : State) (line : LineId) (n : Nat) (fl : LinkFields) (kind : RequestKind)
    (reply : Option Answer) :
    (s.requested line n fl kind reply).machines.map MachineRecord.number = s.machines.map MachineRecord.number := by
  rw [requested_eq, onMachine_numbers _ _ _ (by intro; rfl)]
  exact congrArg _ (passPhase_machines line s)

theorem calm_requested_onMachine {s : State} (h : s.calm = true) (line : LineId) (n : Nat) (fl : LinkFields)
    (kind : RequestKind) (reply : Option Answer) (k : Nat) (f : MachineRecord → MachineRecord) :
    ((s.requested line n fl kind reply).onMachine k f).calm = true :=
  calm_of_store h (requested_power s line n fl kind reply) (requested_store s line n fl kind reply)

/-- A reply made ready once the machine has changed in what is not its request. -/
theorem giveReply_changed {f : MachineRecord → MachineRecord} (hn : ∀ m, (f m).number = m.number)
    (hr : ∀ m r, f { m with request := r } = { f m with request := r }) (s : State) (line : LineId) (n : Nat)
    (fl : LinkFields) (kind : RequestKind) (a : Answer) :
    giveReply n s.nextId a ((s.requested line n fl kind none).onMachine n f) =
      (s.requested line n fl kind (some a)).onMachine n f := by
  rw [giveReply_onMachine hn hr, giveReply_requested]

/-- A refusal that returns the claimed quote to open, or discards it once its lifetime has run out (03 R49, R56). -/
theorem refuseReopened_claimed (s : State) (line : LineId) (n : Nat) (fl : LinkFields) (kind : RequestKind) (q : OpenQuote)
    (c : Code) :
    refuseReopened n s.nextId q c
        ((s.requested line n fl kind none).onMachine n fun x => { x with openQuote := none }) =
      (s.requested line n fl kind (some c.plain)).onMachine n fun x =>
        { x with openQuote := if s.timers.lifetime ≤ (s.clock.counter - q.issued).toNat then none else some q } := by
  by_cases h : s.timers.lifetime ≤ (s.clock.counter - q.issued).toNat
  · have hexpired : ((s.requested line n fl kind none).onMachine n fun x => { x with openQuote := none }).quoteExpired q =
        true := by
      refine decide_eq_true ?_
      simpa only [State.onMachine_timers, requested_timers, State.elapsed, State.onMachine_clock, requested_clock] using h
    simp only [refuseReopened, reopenQuote, hexpired, if_pos h, if_true]
    exact giveReply_changed (by intro; rfl) (by intros; rfl) ..
  · have hexpired : ((s.requested line n fl kind none).onMachine n fun x => { x with openQuote := none }).quoteExpired q =
        false := by
      refine decide_eq_false ?_
      simpa only [State.onMachine_timers, requested_timers, State.elapsed, State.onMachine_clock, requested_clock] using h
    simp only [refuseReopened, reopenQuote, hexpired, if_neg h, Bool.false_eq_true, if_false]
    rw [onMachine_onMachine (by intro; rfl)]
    exact giveReply_changed (by intro; rfl) (by intros; rfl) ..

section
variable {s : State} {line : LineId} {slot : Nat} {m : MachineRecord} {fl : LinkFields} {f : SaleFrame}

/-- A commit heard from an Active machine with no request pending is taken (07 R129). -/
theorem exec_saleCommit (hp : s.power = .running) (h : s.hears line slot m fl) (hr : m.request = none)
    (hf : f.machine = m.number) :
    exec (.saleCommit line slot f) s =
      .next (settle (saleArrival f { m with link := .active { fl with silence := 0 } } s.nextId
        (s.requested line m.number fl .saleCommit none))) := by
  show Host.Outcome.next (request line slot f.machine .saleCommit (saleArrival f) s) = _
  rw [hf, request_hears h hr (by simp [hp])]

/-- A commit in form, with no sale in flight, that claims the open quote (03 R45 to R47). -/
theorem saleArrival_claims {pay : PayKind} {q : OpenQuote} (hform : saleForm f = some pay) (hc : m.commit = none)
    (ha : m.accepted ≠ ⟨some f.serial, some f.token⟩) (hq : m.openQuote = some q) (ht : q.token = f.token) (id : Nat)
    (t : State) :
    saleArrival f m id t = checkClaimed m id f pay q (t.onMachine m.number fun x => { x with openQuote := none }) := by
  have hrepeats : m.accepted.repeats f = false := Bool.eq_false_iff.mpr fun h => ha (repeats_iff.mp h)
  simp only [saleArrival, hform, hc, Option.isSome_none, Bool.false_eq_true, if_false, hrepeats, hq, ht, if_true]

end

theorem zone_claimed (s : State) (line : LineId) (n : Nat) (fl : LinkFields) (kind : RequestKind) (reply : Option Answer)
    (k : Nat) (f : MachineRecord → MachineRecord) (z : Nat) :
    ((s.requested line n fl kind reply).onMachine k f).zone z = s.zone z := by
  rw [State.zone, State.onMachine_tariff, requested_tariff, State.zone]

/-- The state in which a commit heard from a machine has claimed its open quote (03 R47). -/
@[reducible] def State.claimed (s : State) (line : LineId) (n : Nat) (fl : LinkFields) (reply : Option Answer) : State :=
  (s.requested line n fl .saleCommit reply).onMachine n fun x => { x with openQuote := none }

section
variable {s : State} {line : LineId} {slot : Nat} {m : MachineRecord} {fl : LinkFields} {f : SaleFrame}

/-- A commit heard that claims the open quote. -/
theorem exec_saleCommit_claims {pay : PayKind} {q : OpenQuote} (hp : s.power = .running) (h : s.hears line slot m fl)
    (hr : m.request = none) (hf : f.machine = m.number) (hform : saleForm f = some pay) (hc : m.commit = none)
    (ha : m.accepted ≠ ⟨some f.serial, some f.token⟩) (hq : m.openQuote = some q) (ht : q.token = f.token) :
    exec (.saleCommit line slot f) s =
      .next (settle (checkClaimed { m with link := .active { fl with silence := 0 } } s.nextId f pay q
        (s.claimed line m.number fl none))) := by
  rw [exec_saleCommit hp h hr hf,
    saleArrival_claims (m := { m with link := .active { fl with silence := 0 } }) hform hc ha hq ht]

/-- A commit heard whose claimed quote is not stale and whose serial is within the window (03 R48, R49). -/
theorem exec_saleCommit_fresh {pay : PayKind} {q : OpenQuote} {gap : Bool} (hp : s.power = .running)
    (h : s.hears line slot m fl) (hr : m.request = none) (hf : f.machine = m.number) (hform : saleForm f = some pay)
    (hc : m.commit = none) (ha : m.accepted ≠ ⟨some f.serial, some f.token⟩) (hq : m.openQuote = some q)
    (ht : q.token = f.token) (hg : q.generation = (s.zone q.zone).generation)
    (hw : serialWindow m.accepted.serial f.serial = some gap) :
    exec (.saleCommit line slot f) s =
      .next (settle (
        if m.takesPayment q pay = false then
          refuseReopened m.number s.nextId q .paymentBlocked (s.claimed line m.number fl none)
        else if pay = .cash then
          if amountMatches s.cash.denominations q f then
            acceptCash m.number s.nextId gap f (s.claimed line m.number fl none)
          else refuseReopened m.number s.nextId q .saleMismatch (s.claimed line m.number fl none)
        else if q.rate = .visitor then
          askDecrement m.number s.nextId f gap q (s.claimed line m.number fl none)
        else acceptCard m.number s.nextId f.token f.serial gap q (s.claimed line m.number fl none))) := by
  have hfresh : q.generation = ((s.claimed line m.number fl none).zone q.zone).generation := by rwa [zone_claimed]
  rw [exec_saleCommit_claims hp h hr hf hform hc ha hq ht]
  simp only [checkClaimed, ← hfresh, ne_eq, not_true, if_false, hw, State.onMachine_cash, requested_cash]
  rfl

end

/-- Settles O31. -/
theorem saleCommitsAreRepeatedOrRefused : Obligations.SaleCommitsAreRepeatedOrRefused := by
  intro s line slot m fl f hcalm hh hr hf
  have hsteady := State.steady_of_calm hcalm
  have hexec := exec_saleCommit (running_of_calm hcalm) hh hr hf
  have hreply (a : Answer) (h : ∀ t, saleArrival f { m with link := .active { fl with silence := 0 } } s.nextId t =
      giveReply m.number s.nextId a t) :
      exec (.saleCommit line slot f) s = .next (s.requested line m.number fl .saleCommit (some a)) := by
    rw [hexec, h, giveReply_requested, settle_steady (steady_requested hsteady ..)]
  refine ⟨fun hbad => hreply _ fun t => by simp only [saleArrival, saleForm_bad hbad], fun pay hform =>
    ⟨fun hc => hreply _ fun t => ?_, fun hc ha => hreply _ fun t => ?_, fun hc ha => ⟨fun hq => hreply _ fun t => ?_,
      fun q hq ht => ⟨fun hg => ?_, fun c hg hrefused => ?_⟩⟩⟩⟩
  · simp only [saleArrival, hform, Option.isSome_iff_ne_none.mpr hc, if_true]
  · simp only [saleArrival, hform, hc, Option.isSome_none, Bool.false_eq_true, if_false, repeats_iff.mpr ha, if_true]
  · have hrepeats : m.accepted.repeats f = false := Bool.eq_false_iff.mpr fun h => ha (repeats_iff.mp h)
    simp only [saleArrival, hform, hc, Option.isSome_none, Bool.false_eq_true, if_false, hrepeats]
    cases hopen : m.openQuote with
    | none => rfl
    | some q => simp only [if_neg (hq q hopen)]
  · have hstale : q.generation ≠ ((s.claimed line m.number fl none).zone q.zone).generation := by rwa [zone_claimed]
    rw [exec_saleCommit_claims (running_of_calm hcalm) hh hr hf hform hc ha hq ht, checkClaimed, if_pos hstale,
      giveReply_changed (by intro; rfl) (by intros; rfl)]
    exact congrArg Host.Outcome.next (settle_of_calm (calm_requested_onMachine hcalm ..))
  · have hreopened (h : exec (.saleCommit line slot f) s =
        .next (settle (refuseReopened m.number s.nextId q c (s.claimed line m.number fl none)))) :
        exec (.saleCommit line slot f) s =
          .next ((s.requested line m.number fl .saleCommit (some c.plain)).onMachine m.number fun x =>
            { x with openQuote := if s.timers.lifetime ≤ (s.clock.counter - q.issued).toNat then none else some q }) := by
      rw [h, refuseReopened_claimed]
      exact congrArg Host.Outcome.next (settle_of_calm (calm_requested_onMachine hcalm ..))
    refine hreopened ?_
    rcases hrefused with ⟨rfl, last, hlast, hout⟩ | ⟨hin, hrefused⟩
    · have hfresh : q.generation = ((s.claimed line m.number fl none).zone q.zone).generation := by rwa [zone_claimed]
      rw [exec_saleCommit_claims (running_of_calm hcalm) hh hr hf hform hc ha hq ht]
      simp only [checkClaimed, ← hfresh, ne_eq, not_true, if_false, hlast, serialWindow_out hout]
    · obtain ⟨gap, hgap⟩ : ∃ gap, serialWindow m.accepted.serial f.serial = some gap := by
        cases hlast : m.accepted.serial with
        | none => exact ⟨_, rfl⟩
        | some last => exact ⟨_, serialWindow_in (hin last hlast)⟩
      rw [exec_saleCommit_fresh (running_of_calm hcalm) hh hr hf hform hc ha hq ht hg hgap]
      rcases hrefused with ⟨rfl, hblocked⟩ | ⟨rfl, rfl, hpay, hallows, hbox, hcoins⟩
      · rw [if_pos (Bool.eq_false_iff.mpr fun h => ?_)]
        obtain ⟨h1, h2, h3⟩ := takesPayment_iff.mp h
        rcases hblocked with hb | hb | ⟨hb, hb'⟩
        · exact hb h1
        · rw [h2] at hb; cases hb
        · obtain ⟨box, hbox⟩ := h3 hb
          exact hb' box hbox
      · rw [if_neg (by rw [takesPayment_iff.mpr ⟨hpay.symm, hallows, fun _ => hbox⟩]; decide), if_pos rfl,
          if_neg fun h => ?_]
        obtain ⟨h1, h2, h3, h4, h5, h6⟩ := amountMatches_iff.mp h
        rcases hcoins with hc | hc | hc | ⟨x, hx, hc⟩ | hc | hc
        · exact h1 hc
        · omega
        · exact hc h3
        · have := h4 x hx
          omega
        · exact hc h5
        · exact hc h6

end Sys2Proof.Machine

/-! PROOFS. Sales accepted, and the visitor sale's decrement (03, section 3.3; 04, section 4.3). -/

namespace Sys2Proof.Machine

/-! ## Acceptance -/

theorem serialWindow_gap {last serial : Nat} {gap : Bool}
    (h : 1 ≤ (serial + 999999 - last) % 999999 ∧ (serial + 999999 - last) % 999999 ≤ 1000 ∧
      gap = decide (2 ≤ (serial + 999999 - last) % 999999)) : serialWindow (some last) serial = some gap := by
  rw [serialWindow_in ⟨h.1, h.2.1⟩, h.2.2]

/-- While Running with no flush in progress, a mark asks for nothing (08 R158). -/
theorem markDirty_running {s : State} (hp : s.power = .running) (hf : s.store.flush = false) (g : Nat) :
    markDirty g s = s.onStore fun k => { k with dirty := k.dirty.set g true } := by
  simp [markDirty, hp, hf]

theorem markMachineDirty_running {s : State} (hp : s.power = .running) (hf : s.store.flush = false) {n : Nat}
    {m : MachineRecord} (hm : s.machine? n = some m) :
    markMachineDirty n s = s.onStore fun k => { k with dirty := k.dirty.set m.group true } := by
  rw [markMachineDirty, hm]
  exact markDirty_running hp hf m.group

/-- The mark on a machine's group, made in calm (08 R158). -/
theorem markMachineDirty_calm {s : State} (h : s.calm = true) {n : Nat} {m : MachineRecord} (hm : s.machine? n = some m) :
    settle (markMachineDirty n s) = { s with store := { s.store with dirty := s.store.dirty.set m.group true } } := by
  obtain ⟨hp, -, hf, -, -⟩ := s.calm_iff.mp h
  rw [markMachineDirty_running hp hf hm]
  refine settle_of_calm ?_
  exact h

theorem withReply_reg (id : Nat) (a : Answer) (m : MachineRecord) : (m.withReply id a).reg = m.reg := by
  unfold MachineRecord.withReply
  split
  · split <;> rfl
  · rfl

/-- Acceptance of a sale heard from a machine: its answer, the last accepted serial and token, TALLY_GAP (03 R55). -/
theorem acceptSale_requested {f : MachineRecord → MachineRecord} (hn : ∀ m, (f m).number = m.number)
    (hr : ∀ m r, f { m with request := r } = { f m with request := r }) (s : State) (line : LineId) (n : Nat)
    (fl : LinkFields) (kind : RequestKind) (token serial : Nat) (gap : Bool) :
    acceptSale n s.nextId token serial gap ((s.requested line n fl kind none).onMachine n f) =
      if gap then
        raiseFault n .tallyGap ((s.requested line n fl kind (some (acceptedAnswer token serial))).onMachine n fun x =>
          { f x with accepted := ⟨some serial, some token⟩ })
      else
        (s.requested line n fl kind (some (acceptedAnswer token serial))).onMachine n fun x =>
          { f x with accepted := ⟨some serial, some token⟩ } := by
  rw [acceptSale, giveReply_changed hn hr, onMachine_onMachine hn]

theorem registered_raiseFault {s : State} {n : Nat} {m : MachineRecord} (h : s.machine? n = some m) (k : FaultKind) :
    ∃ m', (raiseFault n k s).machine? n = some m' ∧ m'.reg = m.reg ∧ m'.tally = m.tally ∧
      ∀ k' ≠ k, m'.faults.active k' = m.faults.active k' :=
  ⟨_, machine?_raiseFault h k, rfl, rfl, fun _ hk => m.raised_active_other k s.now hk⟩

theorem registered_raiseFault_if {s : State} {n : Nat} {m : MachineRecord} (h : s.machine? n = some m) (c : Prop)
    [Decidable c] (k : FaultKind) :
    ∃ m', (if c then raiseFault n k s else s).machine? n = some m' ∧ m'.reg = m.reg ∧ m'.tally = m.tally ∧
      ∀ k' ≠ k, m'.faults.active k' = m.faults.active k' := by
  split
  · exact registered_raiseFault h k
  · exact ⟨m, h, rfl, rfl, fun _ _ => rfl⟩

/-- The box-fill checks of a machine (03 R59). -/
theorem checkBoxFill_eq {s w : State} {n : Nat} {m : MachineRecord} (h : s.machine? n = some m)
    (hw : w = if m.reg.capacity ≤ m.tally.coins + m.reg.margin ∧ m.faults.active .boxNearFull = false then
      raiseFault n .boxNearFull s else s) :
    checkBoxFill n s =
      if m.reg.capacity ≤ m.tally.coins ∧ m.faults.active .boxFull = false then raiseFault n .boxFull w else w := by
  have hnear : (if m.reg.capacity ≤ m.tally.coins + m.reg.margin then raiseInactive n .boxNearFull s else s) = w := by
    rw [raiseInactive_eq h, hw]
    by_cases hc : m.reg.capacity ≤ m.tally.coins + m.reg.margin <;> simp [hc]
  obtain ⟨m', hm', -, -, hactive⟩ := registered_raiseFault_if h
    (m.reg.capacity ≤ m.tally.coins + m.reg.margin ∧ m.faults.active .boxNearFull = false) .boxNearFull
  rw [← hw] at hm'
  simp only [checkBoxFill, h, hnear]
  rw [raiseInactive_eq hm', hactive .boxFull (by decide)]
  by_cases hc : m.reg.capacity ≤ m.tally.coins <;> simp [hc]

theorem raiseFault_if_store (c : Prop) [Decidable c] (n : Nat) (k : FaultKind) (s : State) :
    (if c then raiseFault n k s else s).store = s.store := by
  split <;> simp

theorem raiseFault_if_power (c : Prop) [Decidable c] (n : Nat) (k : FaultKind) (s : State) :
    (if c then raiseFault n k s else s).power = s.power := by
  split <;> simp

/-- The end of an accepted cash sale in calm: the box-fill checks, and the mark on the machine's group. -/
theorem checkBoxFill_calm {s w : State} {n : Nat} {m : MachineRecord} (hc : s.calm = true) (h : s.machine? n = some m)
    (hw : w = if m.reg.capacity ≤ m.tally.coins + m.reg.margin ∧ m.faults.active .boxNearFull = false then
      raiseFault n .boxNearFull s else s) :
    settle (markMachineDirty n (checkBoxFill n s)) =
      { (if m.reg.capacity ≤ m.tally.coins ∧ m.faults.active .boxFull = false then raiseFault n .boxFull w else w) with
        store := { s.store with dirty := s.store.dirty.set m.group true } } := by
  obtain ⟨m', hm', hreg', -, -⟩ := registered_raiseFault_if h
    (m.reg.capacity ≤ m.tally.coins + m.reg.margin ∧ m.faults.active .boxNearFull = false) .boxNearFull
  rw [← hw] at hm'
  obtain ⟨m'', hm'', hreg'', -, -⟩ := registered_raiseFault_if hm'
    (m.reg.capacity ≤ m.tally.coins ∧ m.faults.active .boxFull = false) .boxFull
  have hgroup : m''.group = m.group := by rw [MachineRecord.group, hreg'', hreg', MachineRecord.group]
  have hstore : (if m.reg.capacity ≤ m.tally.coins ∧ m.faults.active .boxFull = false then raiseFault n .boxFull w
      else w).store = s.store := by rw [raiseFault_if_store, hw, raiseFault_if_store]
  have hpower : (if m.reg.capacity ≤ m.tally.coins ∧ m.faults.active .boxFull = false then raiseFault n .boxFull w
      else w).power = s.power := by rw [raiseFault_if_power, hw, raiseFault_if_power]
  rw [checkBoxFill_eq h hw, markMachineDirty_calm (calm_of_store hc hpower hstore) hm'', hgroup, hstore]

/-- Settles O30. -/
theorem cashSaleIsAccepted : Obligations.CashSaleIsAccepted := by
  intro s line slot m fl f q gap hcalm hnodup hh hr hf ht1 ht2 hs1 hs2 hkind htendered hc ha hq ht hg hgap hpay hallows hbox
    hne hlen hdistinct hcoins hsum hprice
  have hform : saleForm f = some .cash := saleForm_some_iff.mpr ⟨⟨ht1, ht2, hs1, hs2⟩, .inl ⟨hkind, htendered, rfl⟩⟩
  have hwindow : serialWindow m.accepted.serial f.serial = some gap := by
    cases hlast : m.accepted.serial with
    | none => rw [hlast] at hgap; rw [hgap]; rfl
    | some last => rw [hlast] at hgap; exact serialWindow_gap hgap
  have hindex : ∀ c ∈ f.coins, c.index ≤ 7 := fun c hc => (hcoins c hc).1
  have hexec := exec_saleCommit_fresh (running_of_calm hcalm) hh hr hf hform hc ha hq ht hg hwindow
  rw [if_neg (by rw [takesPayment_iff.mpr ⟨hpay.symm, hallows, fun _ => hbox⟩]; decide), if_pos rfl,
    if_pos (amountMatches_iff.mpr ⟨hne, hlen, hdistinct, hcoins, hsum, hprice⟩)] at hexec
  obtain ⟨-, -, hmachine, -⟩ := hh
  have hheard := machine?_requested (line := line) (fl := fl) hmachine .saleCommit (some (acceptedAnswer f.token f.serial))
  have hsame : ∀ x ∈ (s.requested line m.number fl .saleCommit (some (acceptedAnswer f.token f.serial))).machines,
      x.number = m.number → x.tally = m.tally := by
    intro x hx hxn
    have hfound := machine?_of_nodup (by rwa [requested_numbers]) hx
    rw [hxn, hheard] at hfound
    rw [← Option.some.inj hfound]
  refine ⟨m.tally.sold s.cash.denominations f.serial f.coins, _, _, _, sold_eq hsum,
    fun i hi => get_addCoins hindex hi _, fun hl => Tally.sold_lawful _ hl hindex, rfl, rfl, rfl, ?_⟩
  obtain ⟨u, hu⟩ : ∃ u, u = (s.requested line m.number fl .saleCommit (some (acceptedAnswer f.token f.serial))).onMachine
    m.number fun x =>
      { x with
        openQuote := none
        accepted := ⟨some f.serial, some f.token⟩
        tally := m.tally.sold s.cash.denominations f.serial f.coins } := ⟨_, rfl⟩
  obtain ⟨v, hv⟩ : ∃ v, v = if gap then raiseFault m.number .tallyGap u else u := ⟨_, rfl⟩
  have hsold : acceptSale m.number s.nextId f.token f.serial gap
      ((s.claimed line m.number fl none).onMachine m.number fun x =>
        { x with tally := x.tally.sold (s.claimed line m.number fl none).cash.denominations f.serial f.coins }) = v := by
    rw [onMachine_onMachine (by intro; rfl), acceptSale_requested (by intro; rfl) (by intros; rfl), hv, hu]
    rw [onMachine_congr fun x hx hxn => by rw [State.onMachine_cash, requested_cash, hsame x hx hxn]]
  obtain ⟨m₁, hm₁, hreg₁, htally₁, hactive₁⟩ : ∃ m₁, u.machine? m.number = some m₁ ∧ m₁.reg = m.reg ∧
      m₁.tally = m.tally.sold s.cash.denominations f.serial f.coins ∧ m₁.faults = m.faults := by
    rw [hu, machine?_onMachine_same (by intro; rfl), hheard]
    exact ⟨_, rfl, rfl, rfl, rfl⟩
  obtain ⟨m₂, hm₂, hreg₂, htally₂, hactive₂⟩ := registered_raiseFault_if hm₁ (gap = true) .tallyGap
  rw [← hv] at hm₂
  rw [hreg₁] at hreg₂
  rw [htally₁] at htally₂
  rw [hactive₁] at hactive₂
  have hustore : u.store = s.store := by rw [hu, State.onMachine_store, requested_store]
  have hupower : u.power = s.power := by rw [hu, State.onMachine_power, requested_power]
  have hvstore : v.store = s.store := by rw [hv, raiseFault_if_store, hustore]
  have hvcalm : v.calm = true := calm_of_store hcalm (by rw [hv, raiseFault_if_power, hupower]) hvstore
  have hfilled := checkBoxFill_calm hvcalm hm₂ rfl
  rw [MachineRecord.group, hreg₂, htally₂, hactive₂ _ (by decide), hactive₂ _ (by decide), hvstore, ← MachineRecord.group,
    hv, hu] at hfilled
  rw [hexec]
  exact congrArg Host.Outcome.next ((congrArg (fun t => settle (markMachineDirty m.number (checkBoxFill m.number t)))
    (hsold.trans (hv.trans (by rw [hu])))).trans hfilled)

/-! ## Card sales and the decrement asked -/

@[simp] theorem requested_nv (s : State) (line : LineId) (n : Nat) (fl : LinkFields) (kind : RequestKind)
    (reply : Option Answer) : (s.requested line n fl kind reply).nv = s.nv := passPhase_nv line _

/-- A decrement asked in calm with the hold open takes the Free array, decided at its grant (08 R153, 04 R68). -/
theorem ask_decrement_free {s : State} (h : s.calm = true) (hh : s.store.holder = none)
    (hc : s.permits.hold.closed = false) (w : DecrementWork) :
    ask ⟨.decrement w, 4, .nobody⟩ s =
      { s with
        store := { s.store with
          holder := some ⟨⟨.decrement w, 4, .nobody⟩, 0, true, .decision (decideDecrement w s)⟩ } } := by
  obtain ⟨hp, -, -, hb, hf⟩ := s.calm_iff.mp h
  have hl : leaveParked ⟨.decrement w, 4, .nobody⟩ s = s := leaveParked_of_not (.inl (by simp [hp]))
  simp [ask, hl, hf, hh, hb, grantOp, hc, takeArray, State.onStore, StoreWork.isRead]

theorem ask_decrement_held {s : State} (h : s.calm = true) {x : Holder} (hh : s.store.holder = some x) (w : DecrementWork) :
    ask ⟨.decrement w, 4, .nobody⟩ s =
      { s with store := { s.store with queue := s.store.queue ++ [⟨.decrement w, 4, .nobody⟩] } } := by
  obtain ⟨hp, -, -, -, hf⟩ := s.calm_iff.mp h
  have hl : leaveParked ⟨.decrement w, 4, .nobody⟩ s = s := leaveParked_of_not (.inl (by simp [hp]))
  simp [ask, hl, hf, hh, enqueue, State.onStore, StoreWork.isRead]

theorem closed_eq_true_iff (h : HoldState) : h.closed = true ↔ h = .granted ∨ h = .interrupted := by
  cases h <;> decide

theorem decideDecrement_refused {s : State} {w : DecrementWork} {cause : PermitCause}
    (h : permitCause (findPermit s.nv.permits w.permit) .visitor (s.clock.time.map ClockTime.date) w.zone = some cause) :
    decideDecrement w s = .refused cause := by
  simp only [decideDecrement, h]

theorem decideDecrement_valid {s : State} {w : DecrementWork} {p : Permit} (hp : findPermit s.nv.permits w.permit = some p)
    (h : permitCause (some p) .visitor (s.clock.time.map ClockTime.date) w.zone = none) :
    decideDecrement w s = if p.balance.getD 0 < w.minutes then .short else .taken := by
  simp only [decideDecrement, hp, h, Option.bind_some]

theorem permitCause_no_date {p : Permit} (hk : p.kind = .visitor) (hs : p.state = .active) (zone : Nat) :
    permitCause (some p) .visitor none zone = some .notCurrent := by
  simp [permitCause, hk, hs, PermitKind.serves]

/-- Settles O32. -/
theorem cardSalesAreAcceptedOrDecremented : Obligations.CardSalesAreAcceptedOrDecremented := by
  refine ⟨fun s w => ⟨fun _ => decideDecrement_refused, fun p hp => ⟨decideDecrement_valid hp, fun hk hs _ =>
    permitCause_no_date hk hs _⟩⟩, ?_⟩
  intro s line slot m fl f q gap hrun hsteady hh hr hf ht1 ht2 hs1 hs2 hkind hc ha hq ht hg hgap hpay hallows
  have hform : saleForm f = some .card := saleForm_some_iff.mpr ⟨⟨ht1, ht2, hs1, hs2⟩, .inr ⟨hkind, rfl⟩⟩
  have hwindow : serialWindow m.accepted.serial f.serial = some gap := by
    cases hlast : m.accepted.serial with
    | none => rw [hlast] at hgap; rw [hgap]; rfl
    | some last => rw [hlast] at hgap; exact serialWindow_gap hgap
  have hexec := exec_saleCommit_fresh hrun hh hr hf hform hc ha hq ht hg hwindow
  rw [if_neg (by rw [takesPayment_iff.mpr ⟨hpay.symm, hallows, fun h => by cases h⟩]; decide),
    if_neg (by decide)] at hexec
  obtain ⟨-, -, hmachine, -⟩ := hh
  refine ⟨fun cost hcalm hrate hprice => ⟨_, rfl, ?_⟩, fun w hcalm hrate hopen hw => ?_, fun hrate hclosed => ?_⟩
  · rw [if_neg hrate] at hexec
    obtain ⟨u, hu⟩ : ∃ u, u = (s.requested line m.number fl .saleCommit (some (acceptedAnswer f.token f.serial))).onMachine
        m.number fun x =>
          { x with
            openQuote := none
            cards := ⟨x.cards.amount + cost, x.cards.sales + 1⟩
            accepted := ⟨some f.serial, some f.token⟩ } := ⟨_, rfl⟩
    have hsold : acceptSale m.number s.nextId f.token f.serial gap
        ((s.claimed line m.number fl none).onMachine m.number fun x =>
          { x with cards := ⟨x.cards.amount + q.price.cost, x.cards.sales + 1⟩ }) =
        if gap then raiseFault m.number .tallyGap u else u := by
      rw [onMachine_onMachine (by intro; rfl), acceptSale_requested (by intro; rfl) (by intros; rfl), hu, hprice]
      rfl
    have hfound : ∃ m₁, u.machine? m.number = some m₁ ∧ m₁.reg = m.reg := by
      rw [hu, machine?_onMachine_same (by intro; rfl), machine?_requested hmachine]
      exact ⟨_, rfl, rfl⟩
    obtain ⟨m₁, hm₁, hreg₁⟩ := hfound
    obtain ⟨m₂, hm₂, hreg₂, -, -⟩ := registered_raiseFault_if hm₁ (gap = true) .tallyGap
    have hstore : (if gap then raiseFault m.number .tallyGap u else u).store = s.store := by
      rw [raiseFault_if_store, hu, State.onMachine_store, requested_store]
    have hpower : (if gap then raiseFault m.number .tallyGap u else u).power = s.power := by
      rw [raiseFault_if_power, hu, State.onMachine_power, requested_power]
    have hmarked := markMachineDirty_calm (calm_of_store hcalm hpower hstore) hm₂
    rw [MachineRecord.group, hreg₂, hreg₁, hstore, ← MachineRecord.group] at hmarked
    rw [hexec, ← hu]
    exact congrArg Host.Outcome.next ((congrArg (fun t => settle (markMachineDirty m.number t)) hsold).trans hmarked)
  · have hclosed : s.permits.hold.closed = false := by rcases hopen with h | h <;> rw [h] <;> rfl
    rw [if_pos hrate] at hexec
    obtain ⟨t, ht⟩ : ∃ t, t = (s.requested line m.number fl .saleCommit none).onMachine m.number fun x =>
        { x with openQuote := none, commit := some ⟨s.nextId, f.token, f.serial, gap, q, false⟩ } := ⟨_, rfl⟩
    have htstore : t.store = s.store := by rw [ht, State.onMachine_store, requested_store]
    have htcalm : t.calm = true := by rw [ht]; exact calm_requested_onMachine hcalm ..
    have htclosed : t.permits.hold.closed = false := by
      rw [ht, State.onMachine_permits, requested_permits]; exact hclosed
    have hdecided : decideDecrement w t = decideDecrement w s := by
      simp only [decideDecrement, ht, State.onMachine_nv, requested_nv, State.onMachine_clock, requested_clock]
    have hasked : askDecrement m.number s.nextId f gap q (s.claimed line m.number fl none) =
        ask ⟨.decrement w, 4, .nobody⟩ t := by
      rw [askDecrement, if_neg (by rw [State.onMachine_permits, requested_permits, hclosed]; decide),
        onMachine_onMachine (by intro; rfl), ← ht, ← hw]
    rw [hexec, hasked, ← ht, ← htstore]
    cases hholder : t.store.holder with
    | none =>
      rw [ask_decrement_free htcalm hholder htclosed, hdecided]
      refine congrArg Host.Outcome.next (settle_of_calm ?_)
      exact htcalm
    | some x =>
      rw [ask_decrement_held htcalm hholder]
      refine congrArg Host.Outcome.next (settle_of_calm ?_)
      exact htcalm
  · rw [if_pos hrate] at hexec
    rw [hexec, askDecrement, if_pos (by
      rw [State.onMachine_permits, requested_permits]; exact (closed_eq_true_iff _).mpr hclosed), refuseReopened_claimed]
    exact congrArg Host.Outcome.next (settle_steady (steady_requested_onMachine hsteady ..))

end Sys2Proof.Machine

/-! PROOFS. The decrement's completion ends the visitor sale (03 R53, R54; 04 R68). -/

namespace Sys2Proof.Machine

/-- The completion of a decrement decided at its grant, its work known. -/
theorem exec_decrementCompletion {s : State} {h : Holder} {w : DecrementWork} {r : DecrementResult} (hc : s.completing h)
    (hw : h.op.work = .decrement w) (hd : h.data = .decision r) {body : State → State}
    (hb : decrementDone w r { s with store := s.store.ending } = body { s with store := s.store.ending })
    (hp : (body { s with store := s.store.ending }).power = s.power)
    (hs : (body { s with store := s.store.ending }).store.backlog = s.store.backlog)
    (hf : (body { s with store := s.store.ending }).store.flush = s.store.flush) :
    exec .decrementCompletion s = .next (s.whenDone body) := by
  obtain ⟨hp', hb', hf', -, -⟩ := s.calm_iff.mp hc.1
  refine congrArg Host.Outcome.next (onCompletion_whenDone hc (by rw [hw]; rfl) ?_ (hp.trans hp') (hs.trans hb') (hf.trans hf'))
  simp only [decrementEffect, hw, hd]
  exact hb

section
variable {s : State} {w : DecrementWork} {m : MachineRecord} {c : CommitInFlight}

theorem commitOf?_some {t : State} (ht : t.machines = s.machines) (hm : s.machine? w.machine = some m) (hc : m.commit = some c)
    (hid : c.id = w.id) : t.commitOf? w = some c := by
  have hm' : t.machine? w.machine = some m := by rw [State.machine?, ht]; exact hm
  rw [State.commitOf?, hm', Option.bind_some, hc]
  exact if_pos hid

theorem commitOf?_none {t : State} (ht : t.machines = s.machines)
    (h : ∀ m c, s.machine? w.machine = some m → m.commit = some c → c.id ≠ w.id) : t.commitOf? w = none := by
  rw [State.commitOf?, show t.machine? w.machine = s.machine? w.machine by rw [State.machine?, ht]; rfl]
  cases hb : (s.machine? w.machine).bind MachineRecord.commit with
  | none => rfl
  | some c =>
    obtain ⟨m, hm, hc⟩ := Option.bind_eq_some_iff.mp hb
    exact if_neg (h m c hm hc)

theorem decrementDone_refused {t : State} {r : DecrementResult} (hr : r ≠ .taken) (h : t.commitOf? w = some c) :
    decrementDone w r t = takeDecrement w c r t := by
  simp only [decrementDone, if_neg hr, h]

end

/-- A card sale whose decrement has been done is accepted (03 R53, R55, R57). -/
theorem acceptCard_committed {t : State} {n : Nat} {m : MachineRecord} (hp : t.power = .running)
    (hf : t.store.flush = false) (hm : t.machine? n = some m) {q : OpenQuote} {cost : Nat} (hq : q.price = .byTime cost)
    (id token serial : Nat) (gap : Bool) :
    acceptCard n id token serial gap q (t.onMachine n fun x => { x with commit := none }) =
      (if gap then raiseFault n .tallyGap
          (giveReply n id (acceptedAnswer token serial) (t.onMachine n fun x =>
            { x with
              commit := none
              cards := ⟨x.cards.amount + cost, x.cards.sales + 1⟩
              accepted := ⟨some serial, some token⟩ }))
        else giveReply n id (acceptedAnswer token serial) (t.onMachine n fun x =>
            { x with
              commit := none
              cards := ⟨x.cards.amount + cost, x.cards.sales + 1⟩
              accepted := ⟨some serial, some token⟩ })).onStore
        fun k => { k with dirty := k.dirty.set m.group true } := by
  obtain ⟨u, hu⟩ : ∃ u, u = giveReply n id (acceptedAnswer token serial) (t.onMachine n fun x =>
      { x with
        commit := none
        cards := ⟨x.cards.amount + cost, x.cards.sales + 1⟩
        accepted := ⟨some serial, some token⟩ }) := ⟨_, rfl⟩
  have hsold : acceptSale n id token serial gap ((t.onMachine n fun x => { x with commit := none }).onMachine n fun x =>
      { x with cards := ⟨x.cards.amount + q.price.cost, x.cards.sales + 1⟩ }) =
      if gap then raiseFault n .tallyGap u else u := by
    rw [acceptSale, onMachine_onMachine (by intro; rfl), giveReply_onMachine (by intro; rfl) (by intros; rfl),
      onMachine_onMachine (by intro; rfl), hq, hu, giveReply_onMachine (by intro; rfl) (by intros; rfl)]
    rfl
  have hfound : ∃ m₁, u.machine? n = some m₁ ∧ m₁.reg = m.reg := by
    rw [hu, giveReply_eq, machine?_onMachine_same (withReply_number _ _), machine?_onMachine_same (by intro; rfl), hm]
    exact ⟨_, rfl, withReply_reg ..⟩
  obtain ⟨m₁, hm₁, hreg₁⟩ := hfound
  obtain ⟨m₂, hm₂, hreg₂, -, -⟩ := registered_raiseFault_if hm₁ (gap = true) .tallyGap
  have hpower : (if gap then raiseFault n .tallyGap u else u).power = .running := by
    rw [raiseFault_if_power, hu]; exact hp
  have hflush : (if gap then raiseFault n .tallyGap u else u).store.flush = false := by
    rw [raiseFault_if_store, hu]; exact hf
  have hmarked := markMachineDirty_running hpower hflush hm₂
  rw [MachineRecord.group, hreg₂, hreg₁, ← MachineRecord.group] at hmarked
  rw [← hu]
  exact (congrArg (markMachineDirty n) hsold).trans hmarked

/-- A balance return is asked, or kept while the hold is closed, once the decrement has ended (04 R69; log entry 9). -/
theorem askReturn_freeing {t : State} (hp : t.power = .running) (hf : t.store.freeing = true) (r : Return) :
    askReturn r t =
      if t.permits.hold.closed then
        { t with permits := { t.permits with waitingReturns := t.permits.waitingReturns ++ [r] } }
      else t.onStore fun k => { k with queue := k.queue ++ [⟨.giveBack r, 4, .nobody⟩] } := by
  have hl : leaveParked ⟨.giveBack r, 4, .nobody⟩ t = t := leaveParked_of_not (.inl (by simp [hp]))
  have hasked : ask ⟨.giveBack r, 4, .nobody⟩ t = t.onStore fun k => { k with queue := k.queue ++ [⟨.giveBack r, 4, .nobody⟩] } := by
    simp only [ask, hl, hf, if_true]
    rfl
  rw [askReturn, hasked]
  rfl

/-- Settles O33. -/
theorem decrementCompletionEndsTheVisitorSale : Obligations.DecrementCompletionEndsTheVisitorSale := by
  rintro s h w hc hw taken rfl
  obtain ⟨hrun, -, hflush, -, -⟩ := s.calm_iff.mp hc.1
  refine ⟨fun m c hm hcommit hid => ⟨fun cost hd hg hprice => ?_, fun hd hg => ?_, fun cause hd => ?_, fun hd => ?_⟩,
    fun hgone => ⟨fun hd => ?_, fun hd => ?_⟩⟩
  · have hfound := commitOf?_some (t := storePermits (lowerBalance w.permit w.minutes s.nv.permits)
      { s with store := s.store.ending }) rfl hm hcommit hid
    have haccepted := acceptCard_committed (t := storePermits (lowerBalance w.permit w.minutes s.nv.permits)
      { s with store := s.store.ending }) hrun hflush hm hprice c.id c.token c.serial c.gap
    refine exec_decrementCompletion hc hw hd ?_ ?_ ?_ ?_
    · simp only [decrementDone, if_true, hfound, takeDecrement]
      exact (if_pos hg).trans haccepted
    all_goals split <;> simp [giveReply_eq, StoreControl.ending]
  · have hfound := commitOf?_some (t := storePermits (lowerBalance w.permit w.minutes s.nv.permits)
      { s with store := s.store.ending }) rfl hm hcommit hid
    refine exec_decrementCompletion hc hw hd ?_ ?_ ?_ ?_
    · have hasked := askReturn_freeing (t := giveReply w.machine c.id Code.quoteStale.plain
        ((storePermits (lowerBalance w.permit w.minutes s.nv.permits) { s with store := s.store.ending }).onMachine w.machine
          fun x => { x with commit := none })) hrun rfl ⟨w.permit, w.minutes⟩
      simp only [decrementDone, if_true, hfound, takeDecrement]
      exact (if_neg hg).trans hasked
    all_goals split <;> rfl
  · refine exec_decrementCompletion hc hw hd ?_ rfl rfl rfl
    rw [decrementDone_refused (by simp) (commitOf?_some (t := { s with store := s.store.ending }) rfl hm hcommit hid)]
    rfl
  · refine exec_decrementCompletion hc hw hd ?_ rfl rfl rfl
    rw [decrementDone_refused (by simp) (commitOf?_some (t := { s with store := s.store.ending }) rfl hm hcommit hid)]
    rfl
  · refine exec_decrementCompletion hc hw hd ?_ rfl rfl rfl
    have hnone := commitOf?_none (t := storePermits (lowerBalance w.permit w.minutes s.nv.permits)
      { s with store := s.store.ending }) rfl hgone
    simp only [decrementDone, if_true, hnone]
    rfl
  · have hnone := commitOf?_none (t := { s with store := s.store.ending }) rfl hgone
    rcases hd with hd | ⟨cause, hd⟩
    all_goals
      refine exec_decrementCompletion hc hw hd ?_ rfl rfl rfl
      simp only [decrementDone, reduceCtorEq, if_false, hnone]

end Sys2Proof.Machine

/-! PROOFS. The permit commands (04, section 4.4). -/

namespace Sys2Proof.Machine

/-! ## Forms -/

theorem daysInMonth_cases (y m : Nat) :
    daysInMonth y m =
      if m = 2 then if isLeap y then 29 else 28
      else if m = 4 ∨ m = 6 ∨ m = 9 ∨ m = 11 then 30
      else 31 := by
  unfold daysInMonth
  split
  · rfl
  · rfl
  · rfl
  · rfl
  · rfl
  next h2 h4 h6 h9 h11 =>
    have h2' : m ≠ 2 := fun h => h2 h
    have h4' : ¬(m = 4 ∨ m = 6 ∨ m = 9 ∨ m = 11) := by
      rintro (h | h | h | h)
      · exact h4 h
      · exact h6 h
      · exact h9 h
      · exact h11 h
    rw [if_neg h2', if_neg h4']

theorem dateOfArg_iff (a : DateArg) (d : Date) :
    dateOfArg a = some d ↔ d = ⟨2000 + a.yy, a.mm, a.dd⟩ ∧ a.yy ≤ 99 ∧ 1 ≤ a.mm ∧ a.mm ≤ 12 ∧ 1 ≤ a.dd ∧
      a.dd ≤
        if a.mm = 2 then if a.yy % 4 = 0 then 29 else 28
        else if a.mm = 4 ∨ a.mm = 6 ∨ a.mm = 9 ∨ a.mm = 11 then 30
        else 31 := by
  have hvalid : (⟨2000 + a.yy, a.mm, a.dd⟩ : Date).valid = true ↔
      a.yy ≤ 99 ∧ 1 ≤ a.mm ∧ a.mm ≤ 12 ∧ 1 ≤ a.dd ∧ a.dd ≤ daysInMonth (2000 + a.yy) a.mm := by
    rw [Date.valid_iff]
    dsimp only
    omega
  have hdays (hy : a.yy ≤ 99) : daysInMonth (2000 + a.yy) a.mm =
      if a.mm = 2 then if a.yy % 4 = 0 then 29 else 28
      else if a.mm = 4 ∨ a.mm = 6 ∨ a.mm = 9 ∨ a.mm = 11 then 30
      else 31 := by
    have hleap : isLeap (2000 + a.yy) = decide (a.yy % 4 = 0) := by
      interval_cases a.yy <;> rfl
    rw [daysInMonth_cases, hleap]
    simp only [decide_eq_true_eq]
  rw [dateOfArg]
  by_cases hy : a.yy ≤ 99
  · rw [← hdays hy, ← hvalid]
    by_cases hv : (⟨2000 + a.yy, a.mm, a.dd⟩ : Date).valid = true
    · simp [hv, eq_comm]
    · simp [hv]
  · have hv : ¬(⟨2000 + a.yy, a.mm, a.dd⟩ : Date).valid = true := fun h => hy (hvalid.mp h).1
    simp [hv, hy]

section
variable {a : PermitArgs} {kind : PermitKind} {vf vt : Date} {st : PermitState}

theorem permitOfArgs_resident (hk : PermitKind.ofNumber a.kind = some kind) (hf : dateOfArg a.validFrom = some vf)
    (ht : dateOfArg a.validTo = some vt) (hs : PermitState.ofNumber a.state = some st) (hft : vf.key ≤ vt.key)
    (hn : 1 ≤ a.number) (hn' : a.number ≤ 99999999) (hz : 1 ≤ a.zones) (hz' : a.zones ≤ 65535) (hr : kind = .resident) :
    (a.balancePresence = 1 → permitOfArgs a = .error .wrongKind) ∧
      (a.balancePresence = 0 → permitOfArgs a = .ok ⟨a.number, .resident, BitVec.ofNat 16 a.zones, vf, vt, st, none⟩) := by
  have hin : (a.number == 0 || 99999999 < a.number || a.zones == 0 || 65535 < a.zones || vt.key < vf.key) = false := by
    simp; omega
  subst hr
  constructor <;> (intro hp; simp only [permitOfArgs, hk, hf, ht, hs, hp, yesNo, hin, Bool.false_eq_true, if_false])

theorem permitOfArgs_visitor (hk : PermitKind.ofNumber a.kind = some kind) (hf : dateOfArg a.validFrom = some vf)
    (ht : dateOfArg a.validTo = some vt) (hs : PermitState.ofNumber a.state = some st) (hft : vf.key ≤ vt.key)
    (hn : 1 ≤ a.number) (hn' : a.number ≤ 99999999) (hz : 1 ≤ a.zones) (hz' : a.zones ≤ 65535) (hr : kind = .visitor) :
    ((a.balancePresence = 0 ∨ 65535 < a.balance) → a.balancePresence ≤ 1 → permitOfArgs a = .error .badRequest) ∧
      (a.balancePresence = 1 → a.balance ≤ 65535 →
        permitOfArgs a = .ok ⟨a.number, .visitor, BitVec.ofNat 16 a.zones, vf, vt, st, some a.balance⟩) := by
  have hin : (a.number == 0 || 99999999 < a.number || a.zones == 0 || 65535 < a.zones || vt.key < vf.key) = false := by
    simp; omega
  have hmax : Config.maxBalance = 65535 := rfl
  subst hr
  refine ⟨fun hbad hp => ?_, fun hp hb => ?_⟩
  · obtain hp | hp : a.balancePresence = 0 ∨ a.balancePresence = 1 := by omega
    · simp only [permitOfArgs, hk, hf, ht, hs, hp, yesNo, hin, Bool.false_eq_true, if_false]
    · have hb : 65535 < a.balance := by omega
      simp only [permitOfArgs, hk, hf, ht, hs, hp, yesNo, hin, Bool.false_eq_true, if_false, hmax, hb, if_true]
  · simp only [permitOfArgs, hk, hf, ht, hs, hp, yesNo, hin, Bool.false_eq_true, if_false, hmax, Nat.not_lt.mpr hb]

end

theorem permitOfArgs_bad {a : PermitArgs}
    (h : a.number = 0 ∨ 99999999 < a.number ∨ a.zones = 0 ∨ 65535 < a.zones ∨ dateOfArg a.validFrom = none ∨
      dateOfArg a.validTo = none ∨ PermitKind.ofNumber a.kind = none ∨ PermitState.ofNumber a.state = none ∨
      1 < a.balancePresence ∨
      (∃ vf vt, dateOfArg a.validFrom = some vf ∧ dateOfArg a.validTo = some vt ∧ vt.key < vf.key)) :
    permitOfArgs a = .error .badRequest := by
  unfold permitOfArgs
  split
  next kind vf vt st present hk hf ht hs hp =>
    have hpresent : ¬1 < a.balancePresence := fun h => by rw [yesNo_eq_none_iff.mpr h] at hp; cases hp
    have hrange : a.number = 0 ∨ 99999999 < a.number ∨ a.zones = 0 ∨ 65535 < a.zones ∨ vt.key < vf.key := by
      simpa [hk, hf, ht, hs, hpresent] using h
    rw [if_pos (by simpa [or_assoc] using hrange)]
  · rfl

/-- The form of a PermitUpdate (04 R72): its number, a change carried, and each value carried in range. -/
def changeSound (a : PermitChange) : Prop :=
  1 ≤ a.number ∧ a.number ≤ 99999999 ∧
    (a.state ≠ none ∨ a.dates ≠ none ∨ a.zones ≠ none ∨ a.balance ≠ none) ∧
    (∀ v, a.state = some v → v ≤ 2) ∧
    (∀ d, a.dates = some d → ∃ vf vt, dateOfArg d.1 = some vf ∧ dateOfArg d.2 = some vt ∧ vf.key ≤ vt.key) ∧
    (∀ z, a.zones = some z → 1 ≤ z ∧ z ≤ 65535) ∧ ∀ b, a.balance = some b → b ≤ 65535

theorem permitState_ofNumber_eq_none {n : Nat} : PermitState.ofNumber n = none ↔ 2 < n := by
  rcases n with _ | _ | _ | n <;> simp [PermitState.ofNumber]

/-- The dates that a PermitUpdate carries, checked one against the other. -/
def checkedDates (d : DateArg × DateArg) : Option (Date × Date) :=
  match dateOfArg d.1, dateOfArg d.2 with
  | some vf, some vt => if vt.key < vf.key then none else some (vf, vt)
  | _, _ => none

theorem checkedDates_eq_some {d : DateArg × DateArg} {x : Date × Date} :
    checkedDates d = some x ↔ dateOfArg d.1 = some x.1 ∧ dateOfArg d.2 = some x.2 ∧ x.1.key ≤ x.2.key := by
  unfold checkedDates
  obtain ⟨vf, vt⟩ := x
  cases hf : dateOfArg d.1 with
  | none => simp
  | some vf' =>
    cases ht : dateOfArg d.2 with
    | none => simp
    | some vt' =>
      by_cases h : vt'.key < vf'.key
      · simp only [if_pos h, reduceCtorEq, Option.some.injEq, false_iff]
        rintro ⟨rfl, rfl, hle⟩
        omega
      · simp only [if_neg h, Option.some.injEq, Prod.mk.injEq]
        constructor
        · rintro ⟨rfl, rfl⟩
          exact ⟨rfl, rfl, by omega⟩
        · rintro ⟨rfl, rfl, -⟩
          exact ⟨rfl, rfl⟩

theorem checkedDates_eq_none {d : DateArg × DateArg} :
    checkedDates d = none ↔ ¬∃ vf vt, dateOfArg d.1 = some vf ∧ dateOfArg d.2 = some vt ∧ vf.key ≤ vt.key := by
  rw [Option.eq_none_iff_forall_ne_some]
  constructor
  · rintro h ⟨vf, vt, h1, h2, h3⟩
    exact h (vf, vt) (checkedDates_eq_some.mpr ⟨h1, h2, h3⟩)
  · intro h x hx
    obtain ⟨h1, h2, h3⟩ := checkedDates_eq_some.mp hx
    exact h ⟨_, _, h1, h2, h3⟩

/-- An option carried is refused by a check exactly where it is present and fails it. -/
theorem map_eq_some_none {α β : Type} {o : Option α} {f : α → Option β} :
    o.map f = some none ↔ ∃ x, o = some x ∧ f x = none := by
  cases o <;> simp

theorem patchOfChange_eq (a : PermitChange) :
    patchOfChange a =
      if a.number == 0 || 99999999 < a.number then none
      else if a.state.isNone && a.dates.isNone && a.zones.isNone && a.balance.isNone then none
      else if a.state.map PermitState.ofNumber == some none || a.dates.map checkedDates == some none ||
          (a.zones.map fun z => if z == 0 || 65535 < z then none else some (BitVec.ofNat 16 z)) == some none ||
          (a.balance.map fun b => if 65535 < b then none else some b) == some none then none
      else
        some ⟨a.number, a.state.bind PermitState.ofNumber, a.dates.bind checkedDates,
          a.zones.bind fun z => if z == 0 || 65535 < z then none else some (BitVec.ofNat 16 z),
          a.balance.bind fun b => if 65535 < b then none else some b⟩ := by
  have hjoin {α β : Type} (o : Option α) (f : α → Option β) : (o.map f).join = o.bind f := by cases o <;> rfl
  simp only [patchOfChange, hjoin]
  rfl

theorem patchOfChange_unsound {a : PermitChange} (h : ¬changeSound a) : patchOfChange a = none := by
  rw [patchOfChange_eq]
  split
  · rfl
  next hn =>
    split
    · rfl
    next hc =>
      rw [if_pos]
      by_contra hgood
      simp only [Bool.or_eq_true, beq_iff_eq, map_eq_some_none, decide_eq_true_eq, not_or, not_exists, not_and] at hgood
      obtain ⟨⟨⟨hs, hd⟩, hz⟩, hb⟩ := hgood
      refine h ⟨by simp at hn; omega, by simp at hn; omega, ?_, fun v hv => ?_, fun d hd' => ?_, fun z hz' => ?_, fun b hb' => ?_⟩
      · by_contra hall
        push Not at hall
        simp [hall] at hc
      · have := hs v hv
        rw [permitState_ofNumber_eq_none] at this
        omega
      · have := hd d hd'
        rw [checkedDates_eq_none, not_not] at this
        exact this
      · have := hz z hz'
        by_contra hout
        exact this (if_pos (by omega))
      · have := hb b hb'
        by_contra hout
        exact this (if_pos (by omega))

theorem patchOfChange_sound {a : PermitChange} (h : changeSound a) :
    patchOfChange a =
      some ⟨a.number, a.state.bind PermitState.ofNumber,
        a.dates.bind fun d => (dateOfArg d.1).bind fun x => (dateOfArg d.2).map fun y => (x, y),
        a.zones.map (BitVec.ofNat 16), a.balance⟩ := by
  obtain ⟨hn, hn', hcarries, hs, hd, hz, hb⟩ := h
  have hdates : a.dates.bind checkedDates =
      a.dates.bind fun d => (dateOfArg d.1).bind fun x => (dateOfArg d.2).map fun y => (x, y) := by
    cases hdates : a.dates with
    | none => rfl
    | some d =>
      obtain ⟨vf, vt, h1, h2, h3⟩ := hd d hdates
      have hchecked : checkedDates d = some (vf, vt) := checkedDates_eq_some.mpr ⟨h1, h2, h3⟩
      simp only [Option.bind_some, hchecked, h1, h2, Option.map_some]
  have hzones : (a.zones.bind fun z => if z == 0 || 65535 < z then none else some (BitVec.ofNat 16 z)) =
      a.zones.map (BitVec.ofNat 16) := by
    cases hzones : a.zones with
    | none => rfl
    | some z =>
      have hin := hz z hzones
      exact if_neg (by simp; omega)
  have hbalance : (a.balance.bind fun b => if 65535 < b then none else some b) = a.balance := by
    cases hbalance : a.balance with
    | none => rfl
    | some b => exact if_neg (Nat.not_lt.mpr (hb b hbalance))
  have hnumber : ¬(a.number == 0 || 99999999 < a.number) = true := by simp; omega
  have hsome : ¬(a.state.isNone && a.dates.isNone && a.zones.isNone && a.balance.isNone) = true := by
    simp only [Bool.and_eq_true, Option.isNone_iff_eq_none]
    tauto
  have hchecked : ¬(a.state.map PermitState.ofNumber == some none || a.dates.map checkedDates == some none ||
      (a.zones.map fun z => if z == 0 || 65535 < z then none else some (BitVec.ofNat 16 z)) == some none ||
      (a.balance.map fun b => if 65535 < b then none else some b) == some none) = true := by
    simp only [Bool.or_eq_true, beq_iff_eq, map_eq_some_none]
    rintro (((⟨v, hv, hbad⟩ | ⟨d, hd', hbad⟩) | ⟨z, hz', hbad⟩) | ⟨b, hb', hbad⟩)
    · have := hs v hv
      rw [permitState_ofNumber_eq_none] at hbad
      omega
    · exact checkedDates_eq_none.mp hbad (hd d hd')
    · have hin := hz z hz'
      have hout : ¬((z = 0) ∨ decide (65535 < z) = true) := by simp; omega
      rw [if_neg hout] at hbad
      cases hbad
    · rw [if_neg (Nat.not_lt.mpr (hb b hb'))] at hbad
      cases hbad
  rw [patchOfChange_eq, if_neg hnumber, if_neg hsome, if_neg hchecked, hdates, hzones, hbalance]

/-! ## The operation asked -/

/-- A command taken in a steady state asks its write and answers PENDING (10 R184). -/
theorem askForCabinet_steady {s : State} (h : s.steady) {work : StoreWork} (hr : work.isRead = false) (cls : Nat)
    (hg : grantOp ⟨work, cls, .cabinet⟩ s.atCommand = takeArray ⟨work, cls, .cabinet⟩ .nothing s.atCommand) :
    askForCabinet work cls s.atCommand =
      { s with store := s.store.asking ⟨work, cls, .cabinet⟩, cabinet := s.cabinet.awaiting } := by
  rw [askForCabinet, ask_steady (s := s.atCommand) (op := ⟨work, cls, .cabinet⟩) (steady_congr h rfl rfl) hr hg]
  exact settle_steady (steady_congr (steady_asking h ⟨work, cls, .cabinet⟩) rfl rfl)

/-- A read command taken in a steady state asks its read and answers PENDING (10 R184). -/
theorem askForCabinet_steady_read {s : State} (h : s.steady) {work : StoreWork} (hr : work.isRead = true)
    (hg : grantOp ⟨work, 3, .cabinet⟩ s.atCommand = takeArray ⟨work, 3, .cabinet⟩ .nothing s.atCommand) :
    askForCabinet work 3 s.atCommand =
      { s with store := s.store.reading ⟨work, 3, .cabinet⟩, cabinet := s.cabinet.awaiting } := by
  rw [askForCabinet, ask_read_steady (s := s.atCommand) (op := ⟨work, 3, .cabinet⟩) (steady_congr h rfl rfl) hr
    (le_refl 3) hg]
  exact settle_steady (steady_congr (steady_reading h ⟨work, 3, .cabinet⟩) rfl rfl)

theorem takePermitWrite_interrupted {s : State} (h : s.permits.hold = .interrupted) (work : StoreWork) :
    takePermitWrite work s.atCommand = { s with cabinet := s.cabinet.answered Code.holdInterrupted.plain } :=
  if_pos h

theorem takePermitWrite_steady {s : State} (hi : s.permits.hold ≠ .interrupted) (h : s.steady) {work : StoreWork}
    (hr : work.isRead = false)
    (hg : grantOp ⟨work, 5, .cabinet⟩ s.atCommand = takeArray ⟨work, 5, .cabinet⟩ .nothing s.atCommand) :
    takePermitWrite work s.atCommand =
      { s with store := s.store.asking ⟨work, 5, .cabinet⟩, cabinet := s.cabinet.awaiting } :=
  (if_neg hi).trans (askForCabinet_steady h hr 5 hg)

/-- Settles O34. -/
theorem permitCommandsAskTheStore : Obligations.PermitCommandsAskTheStore := by
  refine ⟨dateOfArg_iff, fun s hready => ?_⟩
  have hinsert (a : PermitArgs) : exec (.permitInsert a) s = .next (permitInsert a s.atCommand) :=
    congrArg Host.Outcome.next (command_atCommand hready _)
  have hupdate (a : PermitChange) : exec (.permitUpdate a) s = .next (permitUpdate a s.atCommand) :=
    congrArg Host.Outcome.next (command_atCommand hready _)
  have hdelete (n : Nat) : exec (.permitDelete n) s = .next (permitDelete n s.atCommand) :=
    congrArg Host.Outcome.next (command_atCommand hready _)
  have hread (n : Nat) : exec (.permitRead n) s = .next (permitRead n s.atCommand) :=
    congrArg Host.Outcome.next (command_atCommand hready _)
  refine ⟨fun a kind vf vt st hk hf ht hst hft hn hn' hz hz' =>
      ⟨fun hr hp => ?_, fun hv hbad hp => ?_, fun hform => ?_⟩,
    fun a hbad => ?_, ?_, fun n => ⟨fun hn => ?_, fun hn hn' => ?_⟩⟩
  · rw [hinsert, permitInsert, (permitOfArgs_resident hk hf ht hst hft hn hn' hz hz' hr).1 hp]
    rfl
  · rw [hinsert, permitInsert, (permitOfArgs_visitor hk hf ht hst hft hn hn' hz hz' hv).1 hbad hp]
    rfl
  · have hok : permitOfArgs a = .ok ⟨a.number, kind, BitVec.ofNat 16 a.zones, vf, vt, st,
        if kind = .visitor then some a.balance else none⟩ := by
      rcases hform with ⟨rfl, hp⟩ | ⟨rfl, hp, hb⟩
      · exact (permitOfArgs_resident hk hf ht hst hft hn hn' hz hz' rfl).2 hp
      · exact (permitOfArgs_visitor hk hf ht hst hft hn hn' hz hz' rfl).2 hp hb
    refine ⟨fun hi => ?_, fun hi hs => ?_⟩
    · rw [hinsert, permitInsert, hok]
      exact congrArg Host.Outcome.next (takePermitWrite_interrupted hi _)
    · rw [hinsert, permitInsert, hok]
      exact congrArg Host.Outcome.next (takePermitWrite_steady hi hs rfl rfl)
  · rw [hinsert, permitInsert, permitOfArgs_bad hbad]
    rfl
  · rintro a p rfl sound hsound
    change sound ↔ changeSound a at hsound
    rw [hsound]
    refine ⟨fun hbad => ?_, fun hgood => ⟨fun hi => ?_, fun hi hs => ?_⟩⟩
    · rw [hupdate, permitUpdate, patchOfChange_unsound hbad]
      rfl
    · rw [hupdate, permitUpdate, patchOfChange_sound hgood]
      exact congrArg Host.Outcome.next (takePermitWrite_interrupted hi _)
    · rw [hupdate, permitUpdate, patchOfChange_sound hgood]
      exact congrArg Host.Outcome.next (takePermitWrite_steady hi hs rfl rfl)
  · have hout : permitNumber n = false := by
      rw [← Bool.not_eq_true, permitNumber_iff]; omega
    rw [hdelete, hread, permitDelete, permitRead, hout]
    exact ⟨rfl, rfl⟩
  · have hin : permitNumber n = true := permitNumber_iff.mpr ⟨hn, hn'⟩
    rw [hdelete, hread, permitDelete, permitRead, hin]
    exact ⟨fun hi => congrArg Host.Outcome.next (takePermitWrite_interrupted hi _),
      fun hi hs => congrArg Host.Outcome.next (takePermitWrite_steady hi hs rfl rfl),
      fun hs => congrArg Host.Outcome.next (askForCabinet_steady_read hs rfl rfl)⟩

end Sys2Proof.Machine

/-! PROOFS. The completions of permit operations (04 R63, R69 to R74). -/

namespace Sys2Proof.Machine

theorem findPermit_eq_none {table : List Permit} {n : Nat} : findPermit table n = none ↔ ∀ x ∈ table, x.number ≠ n := by
  simp [findPermit, List.find?_eq_none]

theorem findPermit_number {table : List Permit} {n : Nat} {p : Permit} (h : findPermit table n = some p) : p.number = n := by
  simpa using List.find?_some h

theorem mem_insertPermit {p x : Permit} {table : List Permit} : x ∈ insertPermit p table ↔ x = p ∨ x ∈ table := by
  induction table with
  | nil => simp [insertPermit]
  | cons y table ih =>
    unfold insertPermit
    split
    · simp
    · simp only [List.mem_cons, ih]
      tauto

/-- A record of a new number put in its place keeps the table ascending (04 R63). -/
theorem insertPermit_ascends {p : Permit} {table : List Permit} (h : (table.map Permit.number).Pairwise (· < ·))
    (hp : ∀ x ∈ table, x.number ≠ p.number) : ((insertPermit p table).map Permit.number).Pairwise (· < ·) := by
  induction table with
  | nil => simp [insertPermit]
  | cons y table ih =>
    rw [List.map_cons, List.pairwise_cons] at h
    obtain ⟨hy, hrest⟩ := h
    unfold insertPermit
    split
    next hlt =>
      simp only [List.map_cons, List.pairwise_cons, List.mem_cons, List.mem_map]
      refine ⟨?_, fun n hn => hy n (List.mem_map.mpr hn), hrest⟩
      rintro n (rfl | ⟨x, hx, rfl⟩)
      · exact hlt
      · exact lt_trans hlt (hy _ (List.mem_map_of_mem hx))
    next hlt =>
      simp only [List.map_cons, List.pairwise_cons, List.mem_map]
      refine ⟨?_, ih hrest fun x hx => hp x (List.mem_cons_of_mem _ hx)⟩
      rintro n ⟨x, hx, rfl⟩
      rcases mem_insertPermit.mp hx with rfl | hx
      · have := hp y List.mem_cons_self
        omega
      · exact hy _ (List.mem_map_of_mem hx)

/-! ## The table checks (04 R71 to R73) -/

theorem updateChecked_found {u : PermitPatch} {p : Permit} {table : List Permit} (h : findPermit table u.number = some p) :
    updateChecked u table =
      if u.balance.isSome ∧ p.kind = .resident then .error .wrongKind
      else if u.state.isSome ∧ p.state = .revoked ∧ u.state ≠ some .revoked then .error .revoked
      else .ok (replacePermit (u.applyTo p) table) := by
  simp only [updateChecked, h]

theorem applyTo_eq (u : PermitPatch) (p : Permit) :
    u.applyTo p =
      { p with
        state := u.state.getD p.state
        zones := u.zones.getD p.zones
        validFrom := (u.dates.getD (p.validFrom, p.validTo)).1
        validTo := (u.dates.getD (p.validFrom, p.validTo)).2
        balance := if u.balance = none then p.balance else u.balance } := by
  cases hd : u.dates <;> cases hb : u.balance <;> simp [PermitPatch.applyTo, hd, hb]

theorem Permit.bytes_length (p : Permit) : p.bytes.length = 17 := by
  simp [Permit.bytes, byte4, byte2, byte1, dateBytes, flagByte]

/-! ## The completions -/

/-- A completion of the holder whose work leaves the power state and the store controller. -/
theorem onCompletion_held {awaited : StoreWork → Bool} {effect : Holder → State → State} {s : State} {h : Holder}
    {body : State → State} (hc : s.completing h) (ha : awaited h.op.work = true)
    (hb : effect h { s with store := s.store.ending } = body { s with store := s.store.ending })
    (hp : (body { s with store := s.store.ending }).power = s.power)
    (hs : (body { s with store := s.store.ending }).store = s.store.ending) :
    onCompletion awaited effect s = s.whenDone body := by
  obtain ⟨hp', hb', hf', -, -⟩ := s.calm_iff.mp hc.1
  exact onCompletion_whenDone hc ha hb (hp.trans hp') (by rw [hs]; exact hb') (by rw [hs]; exact hf')

theorem exec_permitWriteCompletion {s : State} {h : Holder} {checked : List Permit → Except Code (List Permit)}
    (hc : s.completing h) (hw : h.op.work.isPermitWrite = true)
    (heffect : ∀ t, permitWriteEffect h t = permitWritten .cabinet (checked t.nv.permits) t) :
    (∀ c, checked s.nv.permits = .error c →
      exec .permitWriteCompletion s =
        .next (s.whenDone fun t => { t with cabinet := { t.cabinet with result := .final c.plain } })) ∧
    ∀ table, checked s.nv.permits = .ok table →
      exec .permitWriteCompletion s =
        .next (s.whenDone fun t =>
          { t with
            nv := { t.nv with permits := table, stamp := t.nv.stamp + 1 }
            cabinet := { t.cabinet with result := .final Code.done.plain } }) := by
  constructor
  · intro c hcode
    refine congrArg Host.Outcome.next (onCompletion_held hc hw ?_ rfl rfl)
    rw [heffect, show checked _ = _ from hcode]
    rfl
  · intro table htable
    refine congrArg Host.Outcome.next (onCompletion_held hc hw ?_ rfl rfl)
    rw [heffect, show checked _ = _ from htable]
    rfl

theorem exec_returnCompletion {s : State} {h : Holder} {r : Return} (hc : s.completing h) (hw : h.op.work = .giveBack r)
    {body : State → State}
    (hb : (if findsVisitor r s.nv.permits then
        storePermits (raiseBalance r.permit r.minutes s.nv.permits) { s with store := s.store.ending }
      else { s with store := s.store.ending }) = body { s with store := s.store.ending })
    (hp : (body { s with store := s.store.ending }).power = s.power)
    (hs : (body { s with store := s.store.ending }).store = s.store.ending) :
    exec .returnCompletion s = .next (s.whenDone body) := by
  refine congrArg Host.Outcome.next (onCompletion_held hc (by rw [hw]; rfl) ?_ hp hs)
  simp only [returnEffect, hw]
  exact hb

/-- Settles O35. -/
theorem permitCompletionsChangeTheTable : Obligations.PermitCompletionsChangeTheTable := by
  rintro s refused rfl stored rfl
  refine ⟨fun h cls hc => ⟨fun p hop => ?_, fun u hop => ?_, fun n hop => ?_, fun r asker hop => ?_⟩, fun n cls hperf => ?_⟩
  · have hexec := exec_permitWriteCompletion (checked := insertChecked p) hc (by rw [hop]; rfl)
      (fun t => by simp only [permitWriteEffect, hop])
    refine ⟨fun hfound => hexec.1 _ ?_, fun hnone => ⟨fun hfull => hexec.1 _ ?_, fun hroom =>
      ⟨insertPermit p s.nv.permits, hexec.2 _ ?_, fun x => mem_insertPermit, fun hasc =>
        insertPermit_ascends hasc (findPermit_eq_none.mp hnone)⟩⟩⟩
    · exact if_pos (Option.isSome_iff_ne_none.mpr hfound)
    all_goals rw [insertChecked, hnone]
    · exact if_pos hfull
    · exact if_neg (Nat.not_le.mpr hroom)
  · have hexec := exec_permitWriteCompletion (checked := updateChecked u) hc (by rw [hop]; rfl)
      (fun t => by simp only [permitWriteEffect, hop])
    refine ⟨fun hnone => hexec.1 _ (by simp only [updateChecked, hnone]), fun p hp => ⟨fun hb hk => hexec.1 _ ?_,
      fun hbk hrev hs hs' => hexec.1 _ ?_, fun hbk hs => ?_⟩⟩
    · rw [updateChecked_found hp, if_pos ⟨Option.isSome_iff_ne_none.mpr hb, hk⟩]
    all_goals
      have hkind : ¬(u.balance.isSome = true ∧ p.kind = .resident) := by
        rintro ⟨hb, hk⟩
        rcases hbk with h | h
        · rw [h] at hb; cases hb
        · rw [hk] at h; cases h
    · rw [updateChecked_found hp, if_neg hkind, if_pos ⟨Option.isSome_iff_ne_none.mpr hs, hrev, hs'⟩]
    · have hstate : ¬(u.state.isSome = true ∧ p.state = .revoked ∧ u.state ≠ some .revoked) := by
        rintro ⟨h1, h2, h3⟩
        rcases hs with h | h | h
        · exact h h2
        · rw [h] at h1; cases h1
        · exact h3 h
      have happlied := hexec.2 (replacePermit (u.applyTo p) s.nv.permits)
        (by rw [updateChecked_found hp, if_neg hkind, if_neg hstate])
      rw [applyTo_eq] at happlied
      exact happlied
  · have hexec := exec_permitWriteCompletion (checked := deleteChecked n) hc (by rw [hop]; rfl)
      (fun t => by simp only [permitWriteEffect, hop])
    refine ⟨fun hnone => hexec.1 _ (by simp only [deleteChecked, hnone]), fun hfound => hexec.2 _ ?_⟩
    obtain ⟨p, hp⟩ := Option.ne_none_iff_exists'.mp hfound
    simp only [deleteChecked, hp]
  · refine ⟨fun p hp hk => exec_returnCompletion hc (r := r) (by rw [hop]) ?_ rfl rfl, fun hres =>
      exec_returnCompletion hc (r := r) (by rw [hop]) ?_ rfl rfl⟩
    · have hfinds : findsVisitor r s.nv.permits = true := by simp only [findsVisitor, hp, hk, beq_self_eq_true]
      rw [if_pos hfinds]
      rfl
    · have hnot : findsVisitor r s.nv.permits = false := by
        unfold findsVisitor
        split
        next p hp => rw [hres p hp]; rfl
        · rfl
      rw [hnot]
      rfl
  · have hexec {body : State → State}
        (hb : ∀ c : StoreControl, finish .cabinet (permitReadResult n s.nv.permits) { s with store := c } =
          body { s with store := c })
        (hp : ∀ t, (body t).power = t.power) (hs : ∀ t, (body t).store = t.store) :
        exec .permitReadCompletion s = .next (s.whenDone body) := by
      refine congrArg Host.Outcome.next (onCompletion_read hperf rfl (fun x c hx => ?_) hp hs)
      rw [permitReadEffect, hx]
      exact hb c
    refine ⟨fun hnone => hexec (fun c => ?_) (fun _ => rfl) fun _ => rfl, fun p hp =>
      ⟨p.bytes, ?_, p.bytes_length, hexec (fun c => ?_) (fun _ => rfl) fun _ => rfl⟩⟩
    · simp only [permitReadResult, hnone]
      rfl
    · unfold Permit.bytes
      cases p.kind <;> cases p.state <;> cases p.balance <;> rfl
    · simp only [permitReadResult, hp]
      rfl

end Sys2Proof.Machine

/-! PROOFS. The bulk-load hold (04, section 4.5). -/

namespace Sys2Proof.Machine

/-! ## Grants -/

theorem StoreOp.unverify_frame (o : StoreOp) :
    o.unverify.cls = o.cls ∧ o.unverify.requester = o.requester ∧
      o.unverify.work.isCheckpoint = o.work.isCheckpoint ∧ o.unverify.work.isRead = o.work.isRead := by
  obtain ⟨work, cls, r⟩ := o
  cases work <;> exact ⟨rfl, rfl, rfl, rfl⟩

/-- A state stays steady when the lookups in flight are marked (04 R66). -/
theorem steady_unverify {s : State} (h : s.steady) : ({ s with store := unverifyLookups s.store } : State).steady := by
  refine State.steady_mono h rfl h.2.1 rfl rfl rfl (fun o ho => ⟨o.unverify, List.mem_map_of_mem ho, ?_⟩) fun x hx => ?_
  · exact ⟨o.unverify_frame.1, o.unverify_frame.2.1, o.unverify_frame.2.2.1⟩
  · exact ⟨{ x with op := x.op.unverify }, by simp [unverifyLookups, hx], x.op.unverify_frame.2⟩

/-- The state once the hold has been granted (04 R76). -/
def holdGranted (t : State) : State :=
  { t with
    permits := { t.permits with hold := .granted, holdStart := some t.clock.counter }
    store := unverifyLookups t.store
    notices := (notify (holdGrantedNotice false) t).notices }

theorem holdReady_iff (s : State) :
    s.holdReady = true ↔ s.permits.hold = .requested ∧ s.store.permitProgram = false ∧ s.store.backlog < 3 := by
  simp only [State.holdReady, Bool.and_eq_true, beq_iff_eq, Bool.not_eq_true', decide_eq_true_eq, and_assoc]
  rfl

theorem tryGrantHold_ready {s : State} (h : s.holdReady = true) : tryGrantHold s = holdGranted s := by
  rw [tryGrantHold, if_pos h]
  rfl

theorem tryGrantHold_not_ready {s : State} (h : ¬s.holdReady = true) : tryGrantHold s = s := if_neg h

theorem steady_holdGranted {s : State} (h : s.steady) : (holdGranted s).steady :=
  steady_congr (steady_unverify h) rfl rfl

/-! ## Ends -/

/-- Returns asked in a steady state while the hold is open reach the store in their order (04 R69). -/
theorem askReturns_steady (rs : List Return) {s : State} (h : s.steady) (hc : s.permits.hold.closed = false) :
    askReturns rs s = { s with store := rs.foldl (fun k r => k.asking ⟨.giveBack r, 4, .nobody⟩) s.store } ∧
      ({ s with store := rs.foldl (fun k r => k.asking ⟨.giveBack r, 4, .nobody⟩) s.store } : State).steady := by
  induction rs generalizing s with
  | nil => exact ⟨rfl, h⟩
  | cons r rs ih =>
    have hasked : ask ⟨.giveBack r, 4, .nobody⟩ s = { s with store := s.store.asking ⟨.giveBack r, 4, .nobody⟩ } :=
      ask_steady (op := ⟨.giveBack r, 4, .nobody⟩) h rfl (by simp [grantOp, hc])
    have hrest := ih (s := { s with store := s.store.asking ⟨.giveBack r, 4, .nobody⟩ }) (steady_asking h _) hc
    rw [askReturns, hasked]
    exact hrest

/-- The state once the hold has ended (04 R79). -/
def holdFreed (t : State) : State :=
  { t with
    permits := ⟨.free, none, []⟩
    store := t.permits.waitingReturns.foldl (fun k r => k.asking ⟨.giveBack r, 4, .nobody⟩) t.store }

theorem endHold_steady {s : State} (h : s.steady) : endHold s = holdFreed s ∧ (holdFreed s).steady :=
  askReturns_steady s.permits.waitingReturns (s := { s with permits := ⟨.free, none, []⟩ }) (steady_congr h rfl rfl) rfl

theorem holdOverdue_iff {s : State} {start : Seconds} (hc : s.permits.hold = .granted ∨ s.permits.hold = .interrupted)
    (hs : s.permits.holdStart = some start) :
    s.holdOverdue = true ↔ s.timers.holdLimit * 60 ≤ (s.clock.counter - start).toNat := by
  simp only [State.holdOverdue, (closed_eq_true_iff _).mpr hc, hs, Bool.true_and, decide_eq_true_eq]
  rfl

/-! ## The rows -/

section
variable {s : State}

theorem exec_holdRequest (h : s.cabinetReady = true) : exec .holdRequest s = .next (holdRequest s.atCommand) :=
  congrArg Host.Outcome.next (command_atCommand h _)

theorem exec_holdRelease (h : s.cabinetReady = true) : exec .holdRelease s = .next (holdRelease s.atCommand) :=
  congrArg Host.Outcome.next (command_atCommand h _)

end

/-- Settles O36. -/
theorem holdIsRequestedGrantedAndEnded : Obligations.HoldIsRequestedGrantedAndEnded := by
  rintro s granted rfl freed rfl
  change (s.cabinetReady = true → ((s.permits.hold = .requested ∨ s.permits.hold = .granted ∨ s.permits.hold = .interrupted) →
      exec .holdRequest s = _ ∧ (s.steady → exec .holdRelease s = .next (holdFreed _))) ∧ (s.permits.hold = .free →
        exec .holdRelease s = _ ∧ (s.steady → _ → exec .holdRequest s = _) ∧
          (s.steady → _ → _ → exec .holdRequest s = .next (holdGranted _)))) ∧
    (_ → _ → _ → exec .holdGrant s = .next (holdGranted s)) ∧ (_ → exec .holdGrant s = .next s) ∧
    ∀ start, _ → _ → (_ → _ → exec .holdTimeout s = .next { holdFreed s with notices := (notify holdEndedNotice s).notices }) ∧ _
  refine ⟨fun hready => ⟨fun hheld => ?_, fun hfree => ⟨?_, fun hs hnot => ?_, fun hs hprogram hbacklog => ?_⟩⟩,
    fun hreq hprogram hbacklog => ?_, fun hnot => ?_, fun start hclosed hstart => ⟨fun hs hover => ?_, fun hearly => ?_⟩⟩
  · have hnot : ¬s.permits.hold = .free := by rcases hheld with h | h | h <;> rw [h] <;> decide
    refine ⟨?_, fun hs => ?_⟩
    · rw [exec_holdRequest hready]
      exact congrArg Host.Outcome.next (if_neg hnot)
    · obtain ⟨hended, hsteady⟩ := endHold_steady (s := { s with cabinet := s.cabinet.answered Code.done.plain })
        (steady_congr hs rfl rfl)
      rw [exec_holdRelease hready]
      refine congrArg Host.Outcome.next ((if_neg hnot).trans ?_)
      rw [answerDone_atCommand, hended]
      exact settle_steady hsteady
  · rw [exec_holdRelease hready]
    exact congrArg Host.Outcome.next (if_pos hfree)
  · rw [exec_holdRequest hready]
    refine congrArg Host.Outcome.next ((if_pos hfree).trans ?_)
    have hwaits := tryGrantHold_not_ready
      (s := { s with permits := { s.permits with hold := .requested }, cabinet := s.cabinet.answered Code.done.plain })
      fun h => by
        obtain ⟨-, hp, hb⟩ := (holdReady_iff _).mp h
        rcases hnot with h' | h'
        · exact Bool.false_ne_true (hp.symm.trans h')
        · exact absurd hb (Nat.not_lt.mpr h')
    exact (congrArg settle hwaits).trans (settle_steady (steady_congr hs rfl rfl))
  · rw [exec_holdRequest hready]
    have hgranted := tryGrantHold_ready
      (s := { s with permits := { s.permits with hold := .requested }, cabinet := s.cabinet.answered Code.done.plain })
      ((holdReady_iff _).mpr ⟨rfl, hprogram, hbacklog⟩)
    refine congrArg Host.Outcome.next ((if_pos hfree).trans ((congrArg settle hgranted).trans ?_))
    exact settle_steady (steady_holdGranted (steady_congr hs rfl rfl))
  · exact congrArg Host.Outcome.next (tryGrantHold_ready ((holdReady_iff s).mpr ⟨hreq, hprogram, hbacklog⟩))
  · refine congrArg Host.Outcome.next (tryGrantHold_not_ready fun h => ?_)
    obtain ⟨h1, h2, h3⟩ := (holdReady_iff s).mp h
    rcases hnot with h | h | h
    · exact h h1
    · rw [h2] at h; cases h
    · omega
  · have hoverdue := (holdOverdue_iff hclosed hstart).mpr hover
    obtain ⟨hended, hsteady⟩ := endHold_steady hs
    refine congrArg Host.Outcome.next ((if_pos hoverdue).trans ?_)
    rw [timeOutHold, if_pos hoverdue, hended]
    exact settle_steady (steady_congr hsteady rfl rfl)
  · refine congrArg Host.Outcome.next (if_neg fun h => ?_)
    exact absurd ((holdOverdue_iff hclosed hstart).mp h) (Nat.not_le.mpr hearly)

end Sys2Proof.Machine

/-! PROOFS. Status frames (06 R110 to R114, R120). -/

namespace Sys2Proof.Machine

/-! ## One kind of a Status frame -/

theorem FaultEntries.set_get (f : FaultEntries) (k : FaultKind) : f.set k (f.get k) = f := by
  cases k <;> rfl

/-- What a Status frame makes of an entry (06 R110 to R112, R114). -/
def reportedEntry (listed : List Nat) (now : Option Moment) (k : FaultKind) (e : FaultEntry) : FaultEntry :=
  if k.number ∈ listed then if e.active then e else e.raised now
  else if e.active then e.cleared now
  else e

/-- What a Status frame does for one kind of a machine, by the entry as the frame finds it. -/
def reportOne (n : Nat) (listed : List Nat) (faults : FaultEntries) (u : State) (k : FaultKind) : State :=
  if k.number ∈ listed then if faults.active k then u else raiseFault n k u
  else if faults.active k then clearFault n k .report u
  else u

theorem reportKind_eq {u : State} {n : Nat} {m : MachineRecord} (h : u.machine? n = some m) (listed : List Nat)
    {faults : FaultEntries} {k : FaultKind} (hk : m.faults.get k = faults.get k) :
    reportKind n listed k u = reportOne n listed faults u k := by
  have hactive : m.faults.active k = faults.active k := by rw [FaultEntries.active, hk, FaultEntries.active]
  by_cases hl : k.number ∈ listed
  · have hc : listed.contains k.number = true := List.contains_iff_mem.mpr hl
    rw [reportKind, reportOne, hc, if_pos rfl, if_pos hl, raiseInactive_eq h, hactive]
    cases faults.active k <;> rfl
  · have hc : listed.contains k.number = false := Bool.eq_false_iff.mpr fun h => hl (List.contains_iff_mem.mp h)
    rw [reportKind, reportOne, hc, if_neg Bool.false_ne_true, if_neg hl]
    cases ha : faults.active k with
    | true => rfl
    | false => exact clearFault_inactive h (hactive.trans ha) _

/-- The machine with its faults replaced, its service state derived. -/
def MachineRecord.withFaults (m : MachineRecord) (f : FaultEntries) : MachineRecord := { m with faults := f }.derived

theorem withFaults_self {m : MachineRecord} (h : m.service = deriveService m.reg.fitted m.faults m.flags) :
    m.withFaults m.faults = m := by
  cases m
  simp_all [MachineRecord.withFaults, MachineRecord.derived]

theorem machine?_raiseFault_other {u : State} {n k : Nat} (kind : FaultKind) (h : k ≠ n) :
    (raiseFault n kind u).machine? k = u.machine? k := by
  cases hm : u.machine? n with
  | none => rw [raiseFault_unregistered hm]
  | some m =>
    rw [raiseFault_eq hm]
    exact machine?_onMachine_other (s := u) (fun _ => rfl) h

theorem machine?_clearFault_other {u : State} {n k : Nat} (kind : FaultKind) (c : ClearCause) (h : k ≠ n) :
    (clearFault n kind c u).machine? k = u.machine? k := by
  cases hm : u.machine? n with
  | none => simp only [clearFault, hm]
  | some m =>
    cases ha : m.faults.active kind with
    | true =>
      rw [clearFault_active hm ha]
      exact machine?_onMachine_other (s := u) (fun _ => rfl) h
    | false => rw [clearFault_inactive hm ha]

theorem clearFault_clock (n : Nat) (k : FaultKind) (c : ClearCause) (s : State) : (clearFault n k c s).clock = s.clock := by
  obtain ⟨_, _, h⟩ := clearFault_frame n k c s; rw [h]

/-- What a report of one kind leaves: the other machines, the clock, and all of the summary. -/
theorem reportOne_frame (n : Nat) (listed : List Nat) (faults : FaultEntries) (u : State) (k : FaultKind) :
    (∀ i ≠ n, (reportOne n listed faults u k).machine? i = u.machine? i) ∧
      (reportOne n listed faults u k).clock = u.clock ∧ u.summary.Within (reportOne n listed faults u k).summary := by
  unfold reportOne
  split
  · split
    · exact ⟨fun _ _ => rfl, rfl, .refl _⟩
    · exact ⟨fun _ hi => machine?_raiseFault_other k hi, raiseFault_clock .., raiseFault_within n k (.refl _)⟩
  · split
    · exact ⟨fun _ hi => machine?_clearFault_other k _ hi, clearFault_clock .., by rw [clearFault_summary]; exact .refl _⟩
    · exact ⟨fun _ _ => rfl, rfl, .refl _⟩

/-- The machine after a report of one kind of it. -/
theorem machine?_reportOne {u : State} {n : Nat} {m : MachineRecord} (h : u.machine? n = some m)
    (hs : m.service = deriveService m.reg.fitted m.faults m.flags) (listed : List Nat) {faults : FaultEntries}
    {k : FaultKind} (hk : m.faults.get k = faults.get k) :
    (reportOne n listed faults u k).machine? n =
      some (m.withFaults (m.faults.set k (reportedEntry listed u.now k (faults.get k)))) := by
  have hactive : m.faults.active k = faults.active k := by rw [FaultEntries.active, hk, FaultEntries.active]
  have hsame : m.withFaults (m.faults.set k (faults.get k)) = m := by rw [← hk, FaultEntries.set_get, withFaults_self hs]
  unfold reportOne reportedEntry
  split
  · cases ha : faults.active k with
    | true => rw [if_pos rfl, if_pos (show (faults.get k).active = true from ha), hsame, h]
    | false =>
      rw [if_neg Bool.false_ne_true, if_neg (ne_true_of_eq_false (show (faults.get k).active = false from ha)),
        machine?_raiseFault h, ← hk]
      rfl
  · cases ha : faults.active k with
    | true =>
      rw [if_pos rfl, if_pos (show (faults.get k).active = true from ha), machine?_clearFault h (hactive.trans ha), ← hk]
      rfl
    | false =>
      rw [if_neg Bool.false_ne_true, if_neg (ne_true_of_eq_false (show (faults.get k).active = false from ha)), hsame, h]

/-- A kind newly listed is in the summary (06 R121). -/
theorem reportOne_raised {u : State} {n : Nat} {m : MachineRecord} (h : u.machine? n = some m) {listed : List Nat}
    {faults : FaultEntries} {k : FaultKind} (hl : k.number ∈ listed) (ha : faults.active k = false) :
    n ∈ (reportOne n listed faults u k).summary.machines ∧ k.number ∈ (reportOne n listed faults u k).summary.kinds := by
  rw [reportOne, if_pos hl, ha, if_neg Bool.false_ne_true, raiseFault_summary (by rw [h]; simp)]
  exact ⟨mem_insertNumber.mpr (.inl rfl), mem_insertNumber.mpr (.inl rfl)⟩

/-! ## The kinds one after another -/

theorem Summary.Within.trans {x y z : Summary} (h : x.Within y) (h' : y.Within z) : x.Within z where
  machines n hn := h'.machines n (h.machines n hn)
  kinds k hk := h'.kinds k (h.kinds k hk)
  highest old hold := by
    obtain ⟨top, htop, hle⟩ := h.highest old hold
    obtain ⟨top', htop', hle'⟩ := h'.highest top htop
    exact ⟨top', htop', hle.trans hle'⟩

/-- What the reports of distinct kinds make of a machine and leave of the rest. -/
theorem report_spec {n : Nat} (listed : List Nat) (faults : FaultEntries) {ks : List FaultKind} (hnodup : ks.Nodup)
    {u : State} {m : MachineRecord} (h : u.machine? n = some m)
    (hs : m.service = deriveService m.reg.fitted m.faults m.flags) (hk : ∀ k ∈ ks, m.faults.get k = faults.get k) :
    ks.foldl (fun v k => reportKind n listed k v) u = ks.foldl (reportOne n listed faults) u ∧
      (∀ i ≠ n, (ks.foldl (reportOne n listed faults) u).machine? i = u.machine? i) ∧
      u.summary.Within (ks.foldl (reportOne n listed faults) u).summary ∧
      (∀ k ∈ ks, k.number ∈ listed → faults.active k = false →
        n ∈ (ks.foldl (reportOne n listed faults) u).summary.machines ∧
          k.number ∈ (ks.foldl (reportOne n listed faults) u).summary.kinds) ∧
      ∃ f, (ks.foldl (reportOne n listed faults) u).machine? n = some (m.withFaults f) ∧
        ∀ k, f.get k = if k ∈ ks then reportedEntry listed u.now k (faults.get k) else m.faults.get k := by
  induction ks generalizing u m with
  | nil =>
    exact ⟨rfl, fun _ _ => rfl, .refl _, fun k hk => absurd hk List.not_mem_nil, m.faults, by rw [withFaults_self hs]; exact h,
      fun k => (if_neg List.not_mem_nil).symm⟩
  | cons k ks ih =>
    obtain ⟨hnot, hnodup⟩ := List.nodup_cons.mp hnodup
    have hfirst := machine?_reportOne h hs listed (hk k List.mem_cons_self)
    obtain ⟨hother, hclock, hwithin⟩ := reportOne_frame n listed faults u k
    obtain ⟨heq, hothers, hwithins, hraised, f, hf, hget⟩ := ih hnodup hfirst rfl fun k' hk' => by
      have hne : k' ≠ k := fun h => hnot (h ▸ hk')
      rw [← hk k' (List.mem_cons_of_mem _ hk')]
      exact FaultEntries.get_set_other _ _ hne
    refine ⟨?_, fun i hi => (hothers i hi).trans (hother i hi), hwithin.trans hwithins, fun k' hk' hl ha => ?_, f, hf,
      fun k' => ?_⟩
    · rw [List.foldl_cons, List.foldl_cons, reportKind_eq h listed (hk k List.mem_cons_self), heq]
    · rcases List.mem_cons.mp hk' with rfl | hk'
      · obtain ⟨hm, hn⟩ := reportOne_raised h hl ha
        exact ⟨hwithins.machines _ hm, hwithins.kinds _ hn⟩
      · exact hraised k' hk' hl ha
    · have hnow : (reportOne n listed faults u k).now = u.now := by rw [State.now, hclock]; rfl
      rw [hget k', hnow]
      by_cases hmem : k' ∈ ks
      · rw [if_pos hmem, if_pos (List.mem_cons_of_mem _ hmem)]
      · rw [if_neg hmem]
        by_cases hkk : k' = k
        · subst hkk
          rw [if_pos List.mem_cons_self]
          exact FaultEntries.get_set_same _ _ _
        · rw [if_neg (by simp [hkk, hmem])]
          exact FaultEntries.get_set_other _ _ hkk

theorem mem_machineKinds (k : FaultKind) : k ∈ machineKinds ↔ ¬7 < k.number := by
  cases k <;> decide

/-- Settles O44. -/
theorem statusFrameSetsTheMachineKinds : Obligations.StatusFrameSetsTheMachineKinds := by
  intro s line slot m fl kinds hh hs
  have hexec : exec (.statusFrame line slot m.number kinds) s =
      .next (statusReport m.number kinds (s.heardFrom line m.number fl)) :=
    congrArg Host.Outcome.next (validUplink_hears hh _)
  obtain ⟨-, -, hmachine, -⟩ := hh
  have hheard : (s.heardFrom line m.number fl).machine? m.number =
      some { m with link := .active { fl with silence := 0 } } := by
    rw [State.heardFrom, machine?_passPhase, machine?_onMachine_same (by intro; rfl), hmachine]
    rfl
  have hothers (i : Nat) (hi : i ≠ m.number) : (s.heardFrom line m.number fl).machine? i = s.machine? i := by
    rw [State.heardFrom, machine?_passPhase, machine?_onMachine_other (by intro; rfl) hi]
  have hnow : (s.heardFrom line m.number fl).now = s.now := by
    rw [State.now, State.heardFrom, passPhase_clock]; rfl
  obtain ⟨heq, hother, -, hraised, f, hf, hget⟩ := report_spec kinds m.faults (ks := machineKinds) (by decide) hheard hs
    fun _ _ => rfl
  refine ⟨_, MachineRecord.withFaults { m with link := .active { fl with silence := 0 } } f, hexec, heq, fun i hi => ?_, ?_, rfl, fun k => ⟨?_, fun hk hl ha => ?_⟩⟩
  · exact (congrArg (State.machine? · i) heq).trans ((hother i hi).trans (hothers i hi))
  · exact (congrArg (State.machine? · m.number) heq).trans hf
  · show f.get k = _
    rw [hget k, hnow]
    by_cases hk : 7 < k.number
    · rw [if_neg (by rw [mem_machineKinds]; exact not_not.mpr hk), if_pos hk]
    · rw [if_pos ((mem_machineKinds k).mpr hk), if_neg hk]
      rfl
  · rw [show statusReport _ _ _ = _ from heq]
    exact hraised k ((mem_machineKinds k).mpr (Nat.not_lt.mpr hk)) hl ha

end Sys2Proof.Machine

/-! PROOFS. Commands that either port takes: faults acknowledged, flags changed, rounds opened, skipped and closed (05,
section 5.5; 06, sections 6.5 and 6.6). -/

namespace Sys2Proof.Machine

/-! ## A command at either port -/

/-- The state in which a port's command is taken: at the cabinet port its answer shifted out and its result buffer emptied,
at the round port the readout held ended (10 R182, R185; 09 R176). -/
@[reducible] def State.atPort (p : FromPort) (s : State) : State :=
  match p with
  | .cabinet => s.atCommand
  | .roundPort => { s with roundPort := { s.roundPort with readout := none } }

section
variable (p : FromPort) (s : State)

theorem refuse_atPort (c : Code) : p.refuse c (s.atPort p) = s.refusedAt p c := by cases p <;> rfl
theorem reply_atPort (line : List Nat) : p.reply line (s.atPort p) = s.repliedAt p line := by cases p <;> rfl
theorem await_atPort (line : List Nat) : p.await line (s.atPort p) = s.withheldAt p line := by cases p <;> rfl
theorem machine?_atPort (n : Nat) : (s.atPort p).machine? n = s.machine? n := by cases p <;> rfl
theorem cash_atPort : (s.atPort p).cash = s.cash := by cases p <;> rfl
theorem now_atPort : (s.atPort p).now = s.now := by cases p <;> rfl

theorem openRound?_atPort : (s.atPort p).openRound? = s.openRound? := by rw [State.openRound?, cash_atPort]; rfl

theorem machines_atPort : (s.atPort p).machines = s.machines := by cases p <;> rfl

end

theorem calm_atPort {s : State} (h : s.calm = true) (p : FromPort) : (s.atPort p).calm = true := by cases p <;> exact h

theorem calm_repliedAt {s : State} (h : s.calm = true) (p : FromPort) (line : List Nat) : (s.repliedAt p line).calm = true := by
  cases p <;> exact h

theorem calm_withheldAt {s : State} (h : s.calm = true) (p : FromPort) (line : List Nat) :
    (s.withheldAt p line).calm = true := by
  cases p <;> exact h

/-- A command typed with its key and form in order is passed to its block in that state (09 R171, R176). -/
theorem portCommand_passes {s : State} {l : Letter} {first second : Option Nat} {key : KeyInput} {ended : Terminator}
    (h : s.typed l first second) (hn : l ≠ .n) (hkey : l.allowedAt (readKey key) = true)
    (hform : l.formSound ended first second = true) :
    portCommand l key ended s = passCommand l ended (first.getD 0) (second.getD 0) (s.atPort .roundPort) := by
  rw [portCommand_typed key ended h, execute_passes s hn hkey hform]

/-! ## Acknowledgements (06 R116) -/

theorem faultKind_ofNumber_number (k : FaultKind) : FaultKind.ofNumber k.number = some k := by cases k <;> rfl

theorem faultKind_ofNumber_eq_none {n : Nat} (h : n = 0 ∨ 15 < n) : FaultKind.ofNumber n = none := by
  refine List.find?_eq_none.mpr fun k _ hk => ?_
  have hnumber : k.number = n := by simpa using hk
  have : 1 ≤ k.number ∧ k.number ≤ 15 := by cases k <;> decide
  omega

theorem acknowledgeable_iff (k : FaultKind) : k.acknowledgeable = true ↔ k.number ∈ [11, 12, 15] := by
  cases k <;> decide

theorem machineNumber_iff {n : Nat} : machineNumber n = true ↔ 1 ≤ n ∧ n ≤ 999 := by
  simp [machineNumber]

theorem ackFault_bad {n kind : Nat} (h : n = 0 ∨ 999 < n ∨ kind = 0 ∨ 15 < kind) (p : FromPort) (s : State) :
    ackFault p n kind s = p.refuse .badRequest s := by
  unfold ackFault
  split
  next k hn hk =>
    have hin := machineNumber_iff.mp hn
    have : FaultKind.ofNumber kind ≠ none := by rw [hk]; simp
    exact absurd (faultKind_ofNumber_eq_none (n := kind) (by omega)) this
  · rfl

theorem ackFault_unregistered {n : Nat} {k : FaultKind} {s : State} (hn : 1 ≤ n ∧ n ≤ 999) (hm : s.machine? n = none)
    (p : FromPort) : ackFault p n k.number s = p.refuse .notFound s := by
  simp only [ackFault, machineNumber_iff.mpr hn, faultKind_ofNumber_number, hm]

theorem ackFault_registered {n : Nat} {k : FaultKind} {s : State} {m : MachineRecord} (hn : 1 ≤ n ∧ n ≤ 999)
    (hm : s.machine? n = some m) (p : FromPort) :
    ackFault p n k.number s =
      if k.acknowledgeable = false then p.refuse .notAcknowledgeable s
      else if m.faults.active k = false then p.refuse .notActive s
      else settle (p.reply [n, k.number] (clearFault n k p.ackCause s)) := by
  simp only [ackFault, machineNumber_iff.mpr hn, faultKind_ofNumber_number, hm]

/-- The state once an active kind of a machine has been cleared. -/
def faultCleared (n : Nat) (k : FaultKind) (c : ClearCause) (m : MachineRecord) (s : State) : State :=
  { s with
    machines := (s.onMachine n fun x => x.withEntry k ((m.faults.get k).cleared s.now)).machines
    notices := (notify (faultClearedNotice n k c s.now) s).notices }

theorem clearFault_eq {s : State} {n : Nat} {m : MachineRecord} (h : s.machine? n = some m) {k : FaultKind}
    (ha : m.faults.active k = true) (c : ClearCause) : clearFault n k c s = faultCleared n k c m s := by
  rw [clearFault_active h ha]
  rfl

theorem ackFault_cleared {n : Nat} {k : FaultKind} {s : State} {m : MachineRecord} (hc : s.calm = true) (p : FromPort) :
    settle (p.reply [n, k.number] (faultCleared n k p.ackCause m (s.atPort p))) =
      State.repliedAt p [n, k.number] (faultCleared n k (if p = .cabinet then .ackCabinet else .ackRound) m s) := by
  cases p <;> (refine settle_of_calm ?_; exact hc)

/-! ## Flags (06 R118) -/

theorem flagName_ofNumber_eq_none {n : Nat} (h : n = 0 ∨ 3 < n) : FlagName.ofNumber n = none := by
  rcases n with _ | _ | _ | _ | n
  · rfl
  · omega
  · omega
  · omega
  · rfl

theorem changeFlag_bad {n flag : Nat} (h : n = 0 ∨ 999 < n ∨ flag = 0 ∨ 3 < flag) (p : FromPort) (value : Bool) (s : State) :
    changeFlag p n flag value s = p.refuse .badRequest s := by
  unfold changeFlag
  split
  next f hn hf =>
    have hin := machineNumber_iff.mp hn
    have : FlagName.ofNumber flag ≠ none := by rw [hf]; simp
    exact absurd (flagName_ofNumber_eq_none (n := flag) (by omega)) this
  · rfl

theorem flagName_ofNumber {flag : Nat} (h : 1 ≤ flag) (h' : flag ≤ 3) : ∃ f, FlagName.ofNumber flag = some f := by
  interval_cases flag <;> exact ⟨_, rfl⟩

theorem changeFlag_unregistered {n flag : Nat} {s : State} (hn : 1 ≤ n ∧ n ≤ 999) (hf : 1 ≤ flag) (hf' : flag ≤ 3)
    (hm : s.machine? n = none) (p : FromPort) (value : Bool) : changeFlag p n flag value s = p.refuse .notFound s := by
  obtain ⟨f, hflag⟩ := flagName_ofNumber hf hf'
  simp only [changeFlag, machineNumber_iff.mpr hn, hflag, hm]

theorem changeFlag_registered {n flag : Nat} {f : FlagName} {s : State} {m : MachineRecord} (hn : 1 ≤ n ∧ n ≤ 999)
    (hf : FlagName.ofNumber flag = some f) (hm : s.machine? n = some m) (p : FromPort) (value : Bool) :
    changeFlag p n flag value s =
      if m.flags.get f = value then p.reply [n, flag, if value then 1 else 0] s
      else
        settle (p.await [n, flag, if value then 1 else 0] (askTable (.flags n (m.flags.set f value)) p.requester
          (s.onMachine n fun x => { x with flags := m.flags.set f value }.derived))) := by
  simp only [changeFlag, machineNumber_iff.mpr hn, hf, hm]

theorem flags_set_eq_self {old : ServiceFlags} {f : FlagName} {value : Bool} :
    old.set f value = old ↔ old.get f = value := by
  cases old
  cases f <;> simp [ServiceFlags.set, ServiceFlags.get, eq_comm]

/-- A changed flag, in calm: recorded by its class-5 write, which the port waits for. -/
theorem changeFlag_recorded {s : State} (hc : s.calm = true) (p : FromPort) (line : List Nat) (n : Nat) (new : ServiceFlags) :
    settle (p.await line (askTable (.flags n new) p.requester
        ((s.atPort p).onMachine n fun x => { x with flags := new }.derived))) =
      State.withheldAt p line { s with
        machines :=
          (s.onMachine n fun x => { x with flags := new, service := deriveService x.reg.fitted x.faults new }).machines
        store := s.store.taking ⟨.table (.flags n new), 5, p.requester⟩ } := by
  rw [askTable_calm (s := (s.atPort p).onMachine n fun x => ({ x with flags := new } : MachineRecord).derived)
    (calm_atPort hc p)]
  cases p <;> exact settle_of_calm (calm_taking hc rfl rfl)

/-- Settles O45. -/
theorem faultsAreAcknowledgedAndFlagsChanged : Obligations.FaultsAreAcknowledgedAndFlagsChanged := by
  refine fun s p c n hc => ⟨fun kind hcommand => ?_, fun flag value hcommand => ?_⟩
  · have hexec : exec c s = .next (ackFault p n kind (s.atPort p)) := by
      rcases hcommand with ⟨rfl, rfl, hready⟩ | ⟨rfl, ⟨key, rfl, hkey⟩, htyped⟩
      · exact congrArg Host.Outcome.next (command_atCommand hready _)
      · exact congrArg Host.Outcome.next (portCommand_passes htyped (by decide) (by rw [hkey]; rfl) rfl)
    rw [hexec]
    refine ⟨fun hbad => ?_, fun k hn hn' hk => ⟨fun hm => ?_, fun m hm => ⟨fun hnot => ?_, fun hack ha => ?_, fun hack ha => ?_⟩⟩⟩
    · rw [ackFault_bad hbad, refuse_atPort]
    · rw [← hk, ackFault_unregistered ⟨hn, hn'⟩ ((machine?_atPort p s n).trans hm), refuse_atPort]
    all_goals
      subst hk
      rw [ackFault_registered ⟨hn, hn'⟩ ((machine?_atPort p s n).trans hm)]
    · rw [if_pos (Bool.eq_false_iff.mpr fun h => hnot ((acknowledgeable_iff k).mp h)), refuse_atPort]
    all_goals rw [if_neg (by rw [(acknowledgeable_iff k).mpr hack]; decide)]
    · rw [if_pos ha, refuse_atPort]
    · rw [if_neg (by rw [ha]; decide), clearFault_eq ((machine?_atPort p s n).trans hm) ha, ackFault_cleared hc]
      rfl
  · have hexec : exec c s = .next (changeFlag p n flag value (s.atPort p)) := by
      rcases hcommand with ⟨rfl, rfl, hready⟩ | ⟨rfl, ⟨key, rfl, hkey⟩, htyped⟩
      · cases value <;> exact congrArg Host.Outcome.next (command_atCommand hready _)
      · cases value <;>
          exact congrArg Host.Outcome.next (portCommand_passes htyped (by decide) (by rw [hkey]; rfl) rfl)
    rw [hexec]
    refine ⟨fun hbad => ?_, fun hn hn' hf hf' hm => ?_, fun m old new hn hn' hm hold hnew => ?_⟩
    · rw [changeFlag_bad hbad, refuse_atPort]
    · rw [changeFlag_unregistered ⟨hn, hn'⟩ hf hf' ((machine?_atPort p s n).trans hm), refuse_atPort]
    · obtain ⟨f, hf, rfl⟩ : ∃ f, FlagName.ofNumber flag = some f ∧ new = m.flags.set f value := by
        rcases hnew with ⟨rfl, rfl⟩ | ⟨rfl, rfl⟩ | ⟨rfl, rfl⟩
        · exact ⟨.heldOut, rfl, by rw [hold]; rfl⟩
        · exact ⟨.forceCardOnly, rfl, by rw [hold]; rfl⟩
        · exact ⟨.noRound, rfl, by rw [hold]; rfl⟩
      rw [changeFlag_registered ⟨hn, hn'⟩ hf ((machine?_atPort p s n).trans hm), ← hold, flags_set_eq_self.eq, ne_eq,
        flags_set_eq_self.eq]
      refine ⟨fun hsame => ?_, fun hchanged => ?_⟩
      · rw [if_pos hsame, reply_atPort]
      · rw [if_neg hchanged, changeFlag_recorded hc]

end Sys2Proof.Machine

/-! PROOFS. Collection rounds opened, skipped and closed at either port (05, section 5.5). -/

namespace Sys2Proof.Machine

theorem openRound?_eq_some {s : State} {r : Round} (h : s.cash.round = some r) (ho : r.isOpen = true) :
    s.openRound? = some r := by
  simp only [State.openRound?, h, ho, if_true]

theorem openRound?_eq_none {s : State} (h : ∀ r, s.cash.round = some r → r.isOpen = false) : s.openRound? = none := by
  unfold State.openRound?
  split
  next r hr => rw [h r hr]; rfl
  · rfl

/-- The round record is recorded by a class-2 write, in calm, and the port waits for it (05 R97). -/
theorem recordRound_calm {s t : State} (hc : s.calm = true) (p : FromPort) (line : List Nat) (hp : t.power = s.power)
    (hs : t.store = s.store) :
    recordRound p line (t.atPort p) =
      State.withheldAt p line { t with store := s.store.taking ⟨.roundWrite t.cash.round, 2, p.requester⟩ } := by
  have hct : t.calm = true := calm_of_store hc hp hs
  have hasked : ask ⟨.roundWrite (t.atPort p).cash.round, 2, p.requester⟩ (t.atPort p) =
      { t.atPort p with store := s.store.taking ⟨.roundWrite t.cash.round, 2, p.requester⟩ } := by
    rw [ask_calm (calm_atPort hct p) rfl fun _ => rfl]
    cases p <;> (rw [← hs])
  rw [recordRound, hasked]
  cases p <;> exact settle_of_calm (calm_taking hc hp rfl)

/-! ## Opening (05 R98) -/

theorem badList_iff {s : State} {machines : List Nat} :
    s.badList machines = true ↔
      machines = [] ∨ 64 < machines.length ∨ (∃ n ∈ machines, s.machine? n = none) ∨ ¬machines.Nodup := by
  simp [State.badList, or_assoc]

/-- The round that an opening of these machines makes. -/
def openedRound (s : State) (by_ : OpenedBy) (machines : List Nat) : Round :=
  { number := nextNumber ((s.cash.round.map Round.number).getD 0)
    isOpen := true
    openedBy := by_
    openedAt := s.now
    cash := 0
    entries := machines.map fun n => ⟨n, .pending, none⟩ }

theorem openRound_atPort {s : State} (hc : s.calm = true) (p : FromPort) (by_ : OpenedBy) (machines : List Nat) :
    openRound p by_ machines (s.atPort p) =
      State.withheldAt p [(openedRound s by_ machines).number, machines.length] { s with
        cash := { s.cash with round := some (openedRound s by_ machines) }
        store := s.store.taking ⟨.roundWrite (some (openedRound s by_ machines)), 2, p.requester⟩ } := by
  have hrecorded := recordRound_calm (t := { s with cash := { s.cash with round := some (openedRound s by_ machines) } })
    hc p [(openedRound s by_ machines).number, machines.length] rfl rfl
  rw [← hrecorded]
  cases p <;> rfl

/-- Settles O42. -/
theorem roundsAreOpened : Obligations.RoundsAreOpened := by
  intro s p c machines hc hcommand
  have hexec : exec c s = .next (match p with
      | .cabinet => roundOpenCabinet machines (s.atPort .cabinet)
      | .roundPort => roundOpenPort (s.atPort .roundPort)) := by
    rcases hcommand with ⟨rfl, rfl, hready⟩ | ⟨rfl, ⟨key, rfl, hkey⟩, htyped, -⟩
    · exact congrArg Host.Outcome.next (command_atCommand hready _)
    · refine congrArg Host.Outcome.next (portCommand_passes htyped (by decide) ?_ rfl)
      cases hk : readKey key <;> simp_all [Letter.allowedAt]
  have hmachines : p = .roundPort → (s.atPort p).roundMachines = machines := by
    rcases hcommand with ⟨rfl, -⟩ | ⟨rfl, -, -, rfl⟩
    · intro h; cases h
    · exact fun _ => rfl
  have hopened := openRound?_atPort p s
  rw [hexec]
  refine ⟨fun r hr ho => ?_, fun hclosed => ⟨?_, ?_, ?_⟩⟩
  · have hsome := openRound?_eq_some hr ho
    rw [hsome] at hopened
    rw [← refuse_atPort]
    cases p <;> exact congrArg Host.Outcome.next (if_pos (by rw [hopened]; rfl))
  all_goals
    have hnone := openRound?_eq_none hclosed
    rw [hnone] at hopened
  · rintro rfl hbad
    rw [← refuse_atPort]
    refine congrArg Host.Outcome.next ((if_neg (by rw [hopened]; decide)).trans (if_pos ?_))
    exact badList_iff.mpr hbad
  · rintro rfl rfl
    rw [← refuse_atPort]
    refine congrArg Host.Outcome.next ((if_neg (by rw [hopened]; decide)).trans (if_pos ?_))
    rw [hmachines rfl]
    rfl
  · rintro hne hlist r rfl
    cases p with
    | cabinet =>
      have hgood : ¬s.badList machines = true := by
        rw [badList_iff]
        rcases hlist with h | ⟨hlen, hall, hnodup⟩
        · cases h
        · rintro (h | h | ⟨n, hn, h⟩ | h)
          · exact hne h
          · omega
          · exact hall n hn h
          · exact h hnodup
      refine congrArg Host.Outcome.next ((if_neg (by rw [hopened]; decide)).trans ((if_neg hgood).trans ?_))
      exact openRound_atPort hc .cabinet .cabinet machines
    | roundPort =>
      have hsome : ¬(s.atPort .roundPort).roundMachines.isEmpty = true := by
        rw [hmachines rfl, List.isEmpty_iff]; exact hne
      refine congrArg Host.Outcome.next ((if_neg (by rw [hopened]; decide)).trans ((if_neg hsome).trans ?_))
      rw [hmachines rfl]
      exact openRound_atPort hc .roundPort .roundPort machines

/-! ## Skips and closes (05 R100 to R103) -/

theorem round_ended_eq (r : Round) :
    r.ended = !(r.entries.any fun e => e.state == .pending || e.state == .boxOut) := by
  simp only [Round.ended, List.not_any_eq_all_not, Bool.not_or, bne]

/-- A changed round put in calm and recorded: it closes, with its notice, once every entry has ended (05 R101). -/
theorem putChangedRound_recorded {s : State} (hc : s.calm = true) (p : FromPort) (line : List Nat) {r r' : Round}
    (ho : r.isOpen = true)
    (hr : r' = { r with isOpen := r.entries.any fun e => e.state == .pending || e.state == .boxOut }) :
    recordRound p line (putChangedRound r (s.atPort p)) =
      State.withheldAt p line { s with
        cash := { s.cash with round := some r' }
        notices := if r'.isOpen then s.notices else (notify (roundClosedNotice r') s).notices
        store := s.store.taking ⟨.roundWrite (some r'), 2, p.requester⟩ } := by
  cases hopen : r.entries.any fun e => e.state == .pending || e.state == .boxOut with
  | true =>
    have hsame : r' = r := by rw [hr, hopen, ← ho]
    have hrecorded := recordRound_calm (t := { s with cash := { s.cash with round := some r } }) hc p line rfl rfl
    rw [putChangedRound, round_ended_eq, hopen, hsame, ho]
    rw [if_neg (by decide), if_pos rfl, ← hrecorded]
    cases p <;> rfl
  | false =>
    rw [hopen] at hr
    have hrecorded := recordRound_calm
      (t := { s with cash := { s.cash with round := some r' }, notices := (notify (roundClosedNotice r') s).notices })
      hc p line rfl rfl
    have hclosed : r'.isOpen = false := by rw [hr]
    rw [putChangedRound, round_ended_eq, hopen, hclosed, if_pos (by decide), if_neg (by decide), ← hrecorded, hr]
    cases p <;> rfl

theorem roundSkip_none {p : FromPort} {n : Nat} {s : State} (h : s.openRound? = none) :
    roundSkip p n s = p.refuse .roundClosed s := by
  simp only [roundSkip, h]

theorem roundSkip_no_entry {p : FromPort} {n : Nat} {s : State} {r : Round} (h : s.openRound? = some r)
    (he : r.entry? n = none) : roundSkip p n s = p.refuse .notFound s := by
  simp only [roundSkip, h, he]

theorem roundSkip_entry {p : FromPort} {n : Nat} {s : State} {r : Round} {e : RoundEntry} (h : s.openRound? = some r)
    (he : r.entry? n = some e) :
    roundSkip p n s =
      if e.state = .pending then
        recordRound p [n, EntryState.skipped.number]
          (putChangedRound (r.onEntry n fun e => { e with state := .skipped }) s)
      else p.refuse .entryState s := by
  simp only [roundSkip, h, he]

/-- The close of a round, in calm: recorded, with its notice, and the reply withheld (05 R102, R103; 09 R179). -/
theorem endRound_atPort {s : State} (hc : s.calm = true) (p : FromPort) {r r' : Round}
    (hr : r' = { r.atClose with isOpen := false }) :
    endRound p r (s.atPort p) =
      State.withheldAt p
        [r.number, (r'.entries.filter fun e => e.state == .collected).length,
          (r'.entries.filter fun e => e.state == .skipped).length,
          (r'.entries.filter fun e => e.state == .unfinished).length, r.cash]
        { s with
          cash := { s.cash with round := some r' }
          notices := (notify (roundClosedNotice r') s).notices
          store := s.store.taking ⟨.roundWrite (some r'), 2, p.requester⟩ } := by
  subst hr
  have hrecorded := recordRound_calm
    (t := { s with
      cash := { s.cash with round := some { r.atClose with isOpen := false } }
      notices := (notify (roundClosedNotice { r.atClose with isOpen := false }) s).notices })
    hc p r.atClose.summaryLine rfl rfl
  refine Eq.trans ?_ hrecorded
  cases p <;> rfl

theorem letter_allowed_on {l : Letter} {key : KeyInput} (h : readKey key ≠ .off) (hl : l ∈ [Letter.o, .s, .c]) :
    l.allowedAt (readKey key) = true := by
  cases hk : readKey key with
  | off => exact absurd hk h
  | collect | service => fin_cases hl <;> rfl

/-- Settles O43. -/
theorem roundsAreSkippedAndClosed : Obligations.RoundsAreSkippedAndClosed := by
  refine fun s p c hc => ⟨fun argument harg hready => ?_, fun n hcommand => ?_, fun forced hcommand => ?_⟩
  · show Host.Outcome.next (command (if argument = 0 then roundClose .cabinet else refuse .badRequest) s) = _
    rw [if_neg (by omega), command_atCommand hready]
    rfl
  · have hexec : exec c s = .next (roundSkip p n (s.atPort p)) := by
      rcases hcommand with ⟨rfl, rfl, hready⟩ | ⟨rfl, ⟨key, rfl, hkey⟩, htyped, hn, hn'⟩
      · exact congrArg Host.Outcome.next (command_atCommand hready _)
      · refine congrArg Host.Outcome.next ((portCommand_passes htyped (by decide) (letter_allowed_on hkey (by decide))
          rfl).trans (if_pos ?_))
        exact machineNumber_iff.mpr ⟨hn, hn'⟩
    have hopened := openRound?_atPort p s
    rw [hexec]
    refine ⟨fun hclosed => ?_, fun r hr ho => ?_⟩
    · rw [roundSkip_none (hopened.trans (openRound?_eq_none hclosed)), refuse_atPort]
    · have hsome := hopened.trans (openRound?_eq_some hr ho)
      refine ⟨fun hnone => ?_, fun e he hstate => ?_, fun e r' he hstate hentries hr' => ?_⟩
      · rw [roundSkip_no_entry hsome hnone, refuse_atPort]
      · rw [roundSkip_entry hsome he, if_neg hstate, refuse_atPort]
      · rw [roundSkip_entry hsome he, if_pos hstate]
        refine congrArg Host.Outcome.next
          (putChangedRound_recorded hc p _ (r := r.onEntry n fun e => { e with state := .skipped }) ho ?_)
        rw [hr', hentries]
        rfl
  · have hexec : exec c s = .next ((if forced then roundCloseForced p else roundClose p) (s.atPort p)) := by
      rcases hcommand with ⟨rfl, rfl, hready⟩ | ⟨rfl, ⟨key, rfl, hkey⟩, htyped⟩
      · cases forced <;> exact congrArg Host.Outcome.next (command_atCommand hready _)
      · cases forced <;>
          exact congrArg Host.Outcome.next
            (portCommand_passes htyped (by decide) (letter_allowed_on hkey (by decide)) rfl)
    have hopened := openRound?_atPort p s
    rw [hexec]
    refine ⟨fun hclosed => ?_, fun r hr ho => ⟨fun hf hbox => ?_, fun r' hfree hr' => ?_⟩⟩
    · have hnone := hopened.trans (openRound?_eq_none hclosed)
      rw [← refuse_atPort]
      cases forced <;> simp only [roundCloseForced, roundClose, hnone, if_true, Bool.false_eq_true, if_false]
    · have hsome := hopened.trans (openRound?_eq_some hr ho)
      have hany : (r.entries.any fun e => e.state == .boxOut) = true := by simpa using hbox
      rw [← refuse_atPort, hf]
      simp only [roundClose, hsome, hany, if_true, Bool.false_eq_true, if_false]
    · have hsome := hopened.trans (openRound?_eq_some hr ho)
      have hended : (if forced then roundCloseForced p else roundClose p) (s.atPort p) = endRound p r (s.atPort p) := by
        rcases hfree with rfl | hfree
        · simp only [if_true, roundCloseForced, hsome]
        · have hnone : (r.entries.any fun e => e.state == .boxOut) = false := by simpa using hfree
          cases forced <;>
            simp only [if_true, roundCloseForced, roundClose, hsome, hnone, Bool.false_eq_true, if_false]
      rw [hended]
      refine congrArg Host.Outcome.next (endRound_atPort hc p ?_)
      rw [hr']
      rfl

end Sys2Proof.Machine

/-! PROOFS. Denominations, card totals and the reading of a machine (05 R82, R84, R85). -/

namespace Sys2Proof.Machine

/-! ## Denominations -/

theorem mem_octet_toList {α : Type} (o : Octet α) (x : α) : x ∈ o.toList ↔ ∃ i < 8, o.get i = x := by
  constructor
  · intro h
    simp only [Octet.toList, List.mem_cons, List.not_mem_nil, or_false] at h
    rcases h with rfl | rfl | rfl | rfl | rfl | rfl | rfl | rfl
    exacts [⟨0, by decide, rfl⟩, ⟨1, by decide, rfl⟩, ⟨2, by decide, rfl⟩, ⟨3, by decide, rfl⟩, ⟨4, by decide, rfl⟩,
      ⟨5, by decide, rfl⟩, ⟨6, by decide, rfl⟩, ⟨7, by decide, rfl⟩]
  · rintro ⟨i, hi, rfl⟩
    interval_cases i <;> simp [Octet.toList, Octet.get]

theorem any_eight {p : Nat → Bool} : ([0, 1, 2, 3, 4, 5, 6, 7].any p) = true ↔ ∃ i < 8, p i = true := by
  rw [List.any_eq_true]
  constructor
  · rintro ⟨i, hi, hp⟩
    refine ⟨i, ?_, hp⟩
    simp only [List.mem_cons, List.not_mem_nil, or_false] at hi
    omega
  · rintro ⟨i, hi, hp⟩
    refine ⟨i, ?_, hp⟩
    simp only [List.mem_cons, List.not_mem_nil, or_false]
    omega

theorem indexInUse_iff (s : State) (i : Nat) :
    s.indexInUse i = true ↔ ∃ m ∈ s.machines, 0 < m.tally.counts.get i ∨ ∃ d, m.heldDrop = some d ∧ 0 < d.counts.get i := by
  simp [State.indexInUse, Option.any_eq_true]

theorem setDenominations_too_high {values : Octet Nat} (h : ∃ i < 8, 50000 < values.get i) (s : State) :
    setDenominations values s = refuse .badRequest s := by
  obtain ⟨i, hi, hv⟩ := h
  refine if_pos (List.any_eq_true.mpr ⟨values.get i, (mem_octet_toList _ _).mpr ⟨i, hi, rfl⟩, by simpa using hv⟩)

theorem setDenominations_in_range {values : Octet Nat} (h : ∀ i < 8, values.get i ≤ 50000) (s : State) :
    setDenominations values s =
      if [0, 1, 2, 3, 4, 5, 6, 7].any fun i => s.indexInUse i && values.get i != s.cash.denominations.get i then
        refuse .inUse s
      else takenTable (.denominations values) { s with cash := { s.cash with denominations := values } } := by
  refine if_neg fun hany => ?_
  obtain ⟨v, hv, hlt⟩ := List.any_eq_true.mp hany
  obtain ⟨i, hi, rfl⟩ := (mem_octet_toList _ _).mp hv
  have := h i hi
  simp only [decide_eq_true_eq] at hlt
  omega

/-! ## The reading of a machine -/

theorem mem_raisedKinds (f : FaultEntries) (k : FaultKind) : k ∈ f.raisedKinds ↔ f.get k ≠ ⟨false, none, none, 0, none⟩ := by
  have hall : k ∈ FaultKind.all := by cases k <;> decide
  simp [FaultEntries.raisedKinds, hall, freshEntry]

theorem raisedKinds_ascend (f : FaultEntries) : (f.raisedKinds.map FaultKind.number).Pairwise (· < ·) :=
  List.Pairwise.sublist (List.Sublist.map _ List.filter_sublist) (by decide : (FaultKind.all.map FaultKind.number).Pairwise (· < ·))

@[simp] theorem byte1_length (n : Nat) : (byte1 n).length = 1 := rfl
@[simp] theorem byte2_length (n : Nat) : (byte2 n).length = 2 := rfl
@[simp] theorem byte3_length (n : Nat) : (byte3 n).length = 3 := rfl
@[simp] theorem byte4_length (n : Nat) : (byte4 n).length = 4 := rfl
@[simp] theorem flagByte_length (b : Bool) : (flagByte b).length = 1 := rfl
@[simp] theorem serialBytes_length (n : Option Nat) : (serialBytes n).length = 3 := rfl
@[simp] theorem dateBytes_length (d : Option Date) : (dateBytes d).length = 3 := by cases d <;> rfl
@[simp] theorem momentBytes_length (t : Option Moment) : (momentBytes t).length = 5 := by cases t <;> rfl

theorem faultEntry_bytes_length (e : FaultEntry) (k : FaultKind) : (e.bytes k).length = 18 := by
  simp [FaultEntry.bytes]

theorem length_flatMap_const {α β : Type} {f : α → List β} {n : Nat} (h : ∀ x, (f x).length = n) (l : List α) :
    (l.flatMap f).length = n * l.length := by
  induction l with
  | nil => rfl
  | cons x l ih => simp only [List.flatMap_cons, List.length_append, h, ih, List.length_cons]; ring

theorem machineBytes_length (m : MachineRecord) (s : State) :
    (machineBytes m s).length = 74 + 18 * m.faults.raisedKinds.length := by
  have hfaults := length_flatMap_const (fun k => faultEntry_bytes_length (m.faults.get k) k) m.faults.raisedKinds
  have hcounts := length_flatMap_const byte2_length m.tally.counts.toList
  have height : m.tally.counts.toList.length = 8 := rfl
  unfold machineBytes
  simp only [List.length_append, hfaults, hcounts, height, byte1_length, byte2_length, byte4_length,
    flagByte_length, serialBytes_length]

/-- The bytes of a ReadMachine, those of one state of the machine taken together (12 R204). -/
theorem machineBytes_grouped (m : MachineRecord) (s : State) :
    machineBytes m s =
      byte2 m.number ++ byte1 m.reg.zone ++ byte1 m.reg.permitted.number ++ byte2 m.reg.capacity ++ byte2 m.reg.margin ++
        byte1 m.reg.fitted.number ++ byte1 m.group ++
        (byte1 m.link.number ++ byte1 ((m.link.fields?.map fun f => lineNumber f.line).getD 255) ++
          byte1 ((m.link.fields?.map LinkFields.slot).getD 0)) ++
        m.tally.counts.toList.flatMap byte2 ++ byte4 m.tally.cash ++ byte4 m.tally.unitemised ++ byte2 m.tally.sales ++
        byte2 m.tally.coins ++ serialBytes m.tally.first ++ serialBytes m.tally.last ++ byte4 m.cards.amount ++
        byte4 m.cards.sales ++ (byte1 m.box.number ++ byte2 m.box.idField) ++
        (byte1 m.removal.number ++ byte2 m.removal.dropField) ++
        (flagByte m.heldDrop.isSome ++ byte4 ((m.heldDrop.map Snapshot.cash).getD 0)) ++ serialBytes m.accepted.serial ++
        byte1 (m.accepted.token.getD 0) ++ byte1 (s.entryNumber m.number) ++ byte1 m.service.number ++
        byte1 m.flags.bits ++ byte1 m.faults.raisedKinds.length ++
        m.faults.raisedKinds.flatMap fun k => (m.faults.get k).bytes k := by
  unfold machineBytes
  simp only [List.append_assoc]

/-- Settles O41. -/
theorem cashCommandsAnswer : Obligations.CashCommandsAnswer := by
  intro s hc hready
  have hset (values : Octet Nat) : exec (.setDenominations values) s = .next (setDenominations values s.atCommand) :=
    congrArg Host.Outcome.next (command_atCommand hready _)
  have hclear (n : Nat) : exec (.clearCardTotals n) s = .next (clearCardTotals n s.atCommand) :=
    congrArg Host.Outcome.next (command_atCommand hready _)
  have hread (n : Nat) : exec (.readMachine n) s = .next (readMachine n s.atCommand) :=
    congrArg Host.Outcome.next (command_atCommand hready _)
  refine ⟨fun values => ⟨fun hhigh => ?_, fun hin held hheld => ⟨fun hused => ?_, fun hfree => ?_⟩⟩,
    fun n => ⟨fun hn => ?_, fun hn hn' hm => ?_, fun m hn hn' hm => ⟨?_, ?_⟩⟩⟩
  · rw [hset, setDenominations_too_high hhigh, refuse_atCommand]
  all_goals try
    have huse (i : Nat) (hi : i < 8) : s.atCommand.indexInUse i = held i := by
      rw [Bool.eq_iff_iff, hheld i hi, indexInUse_iff]
  · obtain ⟨i, hi, hh, hv⟩ := hused
    rw [hset, setDenominations_in_range hin, if_pos (any_eight.mpr ⟨i, hi, by simp [huse i hi, hh, hv]⟩), refuse_atCommand]
  · rw [hset, setDenominations_in_range hin, if_neg ?_]
    · exact congrArg Host.Outcome.next (takenTable_calm (s := { s.atCommand with cash := { s.cash with denominations := values } })
        hc (.denominations values))
    · rw [any_eight]
      rintro ⟨i, hi, h⟩
      simp only [huse i hi, Bool.and_eq_true, bne_iff_ne, ne_eq] at h
      exact h.2 (hfree i hi h.1)
  · rw [hclear, hread, clearCardTotals, readMachine, if_pos (machineNumber_eq_false_iff.mpr hn),
      if_pos (machineNumber_eq_false_iff.mpr hn)]
    exact ⟨rfl, rfl⟩
  all_goals
    have hin : ¬machineNumber n = false := by rw [machineNumber_iff.mpr ⟨hn, hn'⟩]; decide
    have hm' : s.atCommand.machine? n = _ := hm
  · rw [hclear, hread, clearCardTotals, readMachine, if_neg hin, if_neg hin, hm']
    exact ⟨rfl, rfl⟩
  · rw [hclear, clearCardTotals, if_neg hin, hm']
    obtain ⟨hp, -, hf, -, -⟩ := s.calm_iff.mp hc
    refine congrArg Host.Outcome.next ((congrArg settle (markDirty_running (s := (answer _ s.atCommand).onMachine n _) hp hf m.group)).trans
      (settle_of_calm ?_))
    exact hc
  · refine ⟨machineBytes m s.atCommand, m.faults.raisedKinds, ?_, mem_raisedKinds _, raisedKinds_ascend _,
      machineBytes_length _ _, ?_⟩
    · rw [hread, readMachine, if_neg hin, hm']
      rfl
    · obtain rfl := machine?_number hm
      rw [machineBytes_grouped]
      repeat' first | with_reducible rfl | refine congrArg₂ (· ++ ·) ?_ ?_
      · cases m.reg.permitted <;> rfl
      · cases m.reg.fitted <;> rfl
      · rfl
      · rcases m.link with _ | ⟨line, slot, silence⟩ | ⟨line, slot, silence⟩
        · rfl
        · cases line <;> rfl
        · cases line <;> rfl
      · rfl
      · rfl
      · rfl
      · cases m.box <;> rfl
      · cases m.removal <;> rfl
      · cases m.heldDrop <;> rfl
      · rfl
      · refine congrArg byte1 ?_
        unfold State.entryNumber Round.entry?
        dsimp only
        cases s.cash.round.bind fun r => r.entries.find? fun e => e.machine == m.number <;> rfl
      · rfl
      · rfl

end Sys2Proof.Machine

/-! PROOFS. Slot enable sets and the machine directory (07, sections 7.5 and 7.6). -/

namespace Sys2Proof.Machine

theorem lineOfNumber_eq_none {n : Nat} (h : 1 < n) : lineOfNumber n = none := by
  rcases n with _ | _ | n
  · omega
  · omega
  · rfl

theorem lineOfNumber_lineNumber (line : LineId) : lineOfNumber (lineNumber line) = some line := by cases line <;> rfl

/-! ## Registrations (07 R146) -/

theorem registrationOfArgs_bad {a : RegisterArgs} (h : a.machine = 0 ∨ 999 < a.machine ∨ 15 < a.zone ∨ a.capacity < 100 ∨
    4000 < a.capacity ∨ 500 < a.margin ∨ 2 < a.permitted ∨ 2 < a.fitted) (position : Nat) :
    registrationOfArgs a position = none := by
  unfold registrationOfArgs
  split
  next permitted fitted hp hf =>
    have hpermitted : ¬2 < a.permitted := by
      rcases hn : a.permitted with _ | _ | _ | n <;> simp_all [PermittedLine.ofNumber]
    have hfitted : ¬2 < a.fitted := by
      rcases hn : a.fitted with _ | _ | _ | n <;> simp_all [Fitted.ofNumber]
    rw [if_pos]
    simp only [Bool.or_eq_true, beq_iff_eq, decide_eq_true_eq]
    omega
  · rfl

theorem registrationOfArgs_in_range {a : RegisterArgs} {permitted : PermittedLine} {fitted : Fitted} (hm : 1 ≤ a.machine)
    (hm' : a.machine ≤ 999) (hz : a.zone ≤ 15) (hc : 100 ≤ a.capacity) (hc' : a.capacity ≤ 4000) (hg : a.margin ≤ 500)
    (hp : PermittedLine.ofNumber a.permitted = some permitted) (hf : Fitted.ofNumber a.fitted = some fitted)
    (position : Nat) :
    registrationOfArgs a position = some ⟨position, a.zone, permitted, a.capacity, a.margin, fitted⟩ := by
  have hin : ¬(a.machine == 0 || 999 < a.machine || 15 < a.zone || a.capacity < 100 || 4000 < a.capacity ||
      500 < a.margin) = true := by
    simp only [Bool.or_eq_true, beq_iff_eq, decide_eq_true_eq]
    omega
  simp only [registrationOfArgs, hp, hf, if_neg hin]

/-- With fewer than 64 machines there is a free position, and the model takes the lowest (07 R146). -/
theorem freePosition_spec {s : State} (h : s.machines.length < 64) :
    s.freePosition < 64 ∧ (∀ m ∈ s.machines, m.reg.position ≠ s.freePosition) ∧
      ∀ p < s.freePosition, ∃ m ∈ s.machines, m.reg.position = p := by
  obtain ⟨p, hp⟩ : ∃ p, (List.range 64).find? (fun p => s.machines.all fun m => m.reg.position != p) = some p := by
    by_contra hnone
    push Not at hnone
    have hall := List.find?_eq_none.mp (Option.eq_none_iff_forall_ne_some.mpr hnone)
    have hsub : List.range 64 ⊆ s.machines.map fun m => m.reg.position := by
      intro p hp
      simpa using hall p hp
    have hle := (List.nodup_range.subperm hsub).length_le
    simp only [List.length_range, List.length_map] at hle
    omega
  have hfree : s.freePosition = p := by
    rw [State.freePosition, show Config.directoryEntries = 64 from rfl, hp]
    rfl
  rw [List.find?_range_eq_some] at hp
  obtain ⟨hfree', hlt, hmin⟩ := hp
  rw [hfree]
  refine ⟨List.mem_range.mp hlt, by simpa using hfree', fun q hq => ?_⟩
  simpa using hmin q hq

theorem machine?_insertMachine {n : Nat} {reg : Registration} {s : State} (h : s.machine? n = none) :
    ({ s with machines := insertMachine (freshMachine n reg) s.machines } : State).machine? n =
      some (freshMachine n reg) := by
  have hnew : ∀ x ∈ s.machines, x.number ≠ n := by simpa [State.machine?] using h
  obtain ⟨x, hx⟩ : ∃ x, ({ s with machines := insertMachine (freshMachine n reg) s.machines } : State).machine? n = some x :=
    Option.isSome_iff_exists.mp (List.find?_isSome.mpr ⟨freshMachine n reg, mem_insertMachine.mpr (.inl rfl), by
      simp [freshMachine, MachineRecord.derived]⟩)
  rcases mem_insertMachine.mp (machine?_mem hx) with rfl | hold
  · exact hx
  · exact absurd (machine?_number hx) (hnew x hold)

/-- A write asked leaves the dirty marks. -/
theorem StoreControl.taking_dirty (c : StoreControl) (d : Octet Bool) (op : StoreOp) :
    ({ c with dirty := d } : StoreControl).taking op = { c.taking op with dirty := d } := by
  unfold StoreControl.taking
  cases c.freeing <;> cases c.holder <;> rfl

/-- A table write asked in calm once a group has been marked dirty (log entry 68). -/
theorem takenTable_dirty {s t : State} (hc : s.calm = true) {d : Octet Bool}
    (ht : t = s.atCommand.onStore fun k => { k with dirty := d }) (ms : List MachineRecord) (w : TableWrite) :
    takenTable w { t with machines := ms } =
      { s with
        machines := ms
        store := { s.store.taking ⟨.table w, 5, .cabinet⟩ with dirty := d }
        cabinet := s.cabinet.awaiting } := by
  subst ht
  rw [takenTable_calm (s := { (s.atCommand.onStore fun k => { k with dirty := d }) with machines := ms }) hc]
  show ({ s with machines := ms, store := _, cabinet := _ } : State) = _
  rw [← StoreControl.taking_dirty]
  rfl

/-! ## A registration changed (07 R147) -/

/-- What a changed registration makes of a machine (07 R147). -/
theorem reregistered_eq (m : MachineRecord) (reg : Registration) {lost : Bool}
    (hlost : lost = true ↔ ∃ f, m.link.fields? = some f ∧ reg.permitted.permits f.line = false) :
    m.reregistered reg =
      { m with
        reg := reg
        service := deriveService reg.fitted m.faults m.flags
        openQuote := if reg.zone ≠ m.reg.zone ∨ lost = true then none else m.openQuote
        link := if lost then .absent else m.link
        request :=
          if lost then none
          else if reg.zone ≠ m.reg.zone then m.request.map fun r => { r with zoneChanged := true }
          else m.request } := by
  have hmoved : (reg.zone != m.reg.zone) = decide (reg.zone ≠ m.reg.zone) := by
    rw [Bool.eq_iff_iff]; simp
  unfold MachineRecord.reregistered
  simp only [hmoved]
  cases hf : m.link.fields? with
  | none =>
    have hl : lost = false := by
      rw [← Bool.not_eq_true, hlost]; simp [hf]
    subst hl
    by_cases hz : reg.zone = m.reg.zone <;> simp [hz, MachineRecord.derived]
  | some f =>
    cases hp : reg.permitted.permits f.line with
    | true =>
      have hl : lost = false := by
        rw [← Bool.not_eq_true, hlost]; simp [hf, hp]
      subst hl
      by_cases hz : reg.zone = m.reg.zone <;> simp [hz, hp, MachineRecord.derived]
    | false =>
      have hl : lost = true := hlost.mpr ⟨f, hf, hp⟩
      subst hl
      by_cases hz : reg.zone = m.reg.zone <;> simp [hz, hp, MachineRecord.derived, MachineRecord.discarded]

theorem permits_eq_false_iff (p : PermittedLine) (line : LineId) :
    p.permits line = false ↔ p = .lineA ∧ line = .b ∨ p = .lineB ∧ line = .a := by
  cases p <;> cases line <;> decide

theorem reregistered_number (m : MachineRecord) (reg : Registration) : (m.reregistered reg).number = m.number := by
  unfold MachineRecord.reregistered
  cases m.link.fields? with
  | none => dsimp only; split <;> rfl
  | some f => dsimp only; split <;> split <;> rfl

/-- A slot enable set applied to a machine: one whose slot it disables is released (07 R144). -/
theorem underEnable_eq (m : MachineRecord) (line : LineId) (l : LineState) (set : BitVec 32) :
    m.underEnable line { l with enable := set } =
      (m.link.fields?.elim m fun f =>
        if f.line = line ∧ set.getLsbD (32 - f.slot) = false then
          { m with link := .absent, request := none, openQuote := none }
        else m) := by
  unfold MachineRecord.underEnable
  cases m.link.fields? <;> rfl

/-- Settles O50. -/
theorem slotsAndRegistrationsAreChanged : Obligations.SlotsAndRegistrationsAreChanged := by
  intro s hc hready
  have hcalm : s.atCommand.calm = true := hc
  obtain ⟨hp, -, hf, -, -⟩ := s.calm_iff.mp hc
  have henable (l e : Nat) : exec (.setSlotEnable l e) s = .next (setSlotEnable l e s.atCommand) :=
    congrArg Host.Outcome.next (command_atCommand hready _)
  have hregister (a : RegisterArgs) : exec (.registerMachine a) s = .next (registerMachine a s.atCommand) :=
    congrArg Host.Outcome.next (command_atCommand hready _)
  have hderegister (n : Nat) : exec (.deregisterMachine n) s = .next (deregisterMachine n s.atCommand) :=
    congrArg Host.Outcome.next (command_atCommand hready _)
  refine ⟨fun l e => ⟨fun hl => ?_, fun line hl => ?_⟩, fun a => ⟨fun hbad => ?_, ?_⟩, fun n => ⟨fun hn => ?_,
    fun hn hn' hm => ?_, fun m hn hn' hm => ⟨fun hused => ?_, fun hl ht hd he => ?_⟩⟩⟩
  · rw [henable, setSlotEnable, lineOfNumber_eq_none hl]
    rfl
  · subst hl
    rw [henable, setSlotEnable, lineOfNumber_lineNumber]
    refine congrArg Host.Outcome.next ((takenTable_calm ?_ _).trans ?_)
    · cases line <;> exact hc
    · cases line <;> simp only [State.onLine, State.line, underEnable_eq] <;>
        (refine congrArg (fun ms => State.mk _ _ _ _ _ _ _ _ _ _ _ _ _ _ ms _ _ _ _ _ _ _ _ _)
          (List.map_congr_left fun m _ => ?_); cases m.link.fields? <;> rfl)
  · rw [hregister, registerMachine, registrationOfArgs_bad hbad]
    rfl
  · intro permitted fitted h1 h2 h3 h4 h5 h6 h7 h8
    have hin := registrationOfArgs_in_range h1 h2 h3 h4 h5 h6 h7 h8
    refine ⟨fun hm hfull => ?_, fun hm hroom => ?_, fun m reg hm hreg => ?_⟩
    · have hm' : s.atCommand.machine? a.machine = none := hm
      simp only [hregister, registerMachine, hin, hm']
      exact congrArg Host.Outcome.next (if_pos hfull)
    · have hm' : s.atCommand.machine? a.machine = none := hm
      obtain ⟨hlt, hfree, hlow⟩ := freePosition_spec hroom
      refine ⟨s.freePosition, insertMachine (freshMachine a.machine
        ⟨s.freePosition, a.zone, permitted, a.capacity, a.margin, fitted⟩) s.machines, hlt, hfree, hlow,
        fun m => mem_insertMachine, insertMachine_ascends (show ∀ x ∈ s.machines, x.number ≠ a.machine by
          simpa [State.machine?] using hm), ?_⟩
      simp only [hregister, registerMachine, hin, hm']
      have hmarked := markMachineDirty_running (s := { s.atCommand with machines := insertMachine (freshMachine a.machine
        ⟨s.freePosition, a.zone, permitted, a.capacity, a.margin, fitted⟩) s.machines }) hp hf (machine?_insertMachine hm)
      exact congrArg Host.Outcome.next ((if_neg (Nat.not_le.mpr hroom)).trans
        ((congrArg (takenTable _) hmarked).trans (takenTable_dirty hc rfl _ _)))
    · have hm' : s.atCommand.machine? a.machine = some m := hm
      have htaken := takenTable_calm (s := s.atCommand.onMachine a.machine fun x => x.reregistered reg) hcalm
        (.registration a.machine reg false)
      refine ⟨answerPending { s.atCommand.onMachine a.machine fun x => x.reregistered reg with
        store := s.store.taking ⟨.table (.registration a.machine reg false), 5, .cabinet⟩ }, m.reregistered reg, ?_, rfl,
        fun n hn => ?_, ?_, fun lost hlost => ?_⟩
      · simp only [hregister, registerMachine, hin, hm', Option.elim_some]
        rw [← hreg, htaken]
        rfl
      · exact machine?_onMachine_other (s := s) (fun x => reregistered_number x reg) hn
      · exact (machine?_onMachine_same (s := s) (fun x => reregistered_number x reg)).trans
          (congrArg (Option.map fun x => x.reregistered reg) hm)
      · subst hreg
        refine reregistered_eq m _ (hlost.trans ?_)
        simp only [permits_eq_false_iff]
  · rw [hderegister, deregisterMachine, if_pos (machineNumber_eq_false_iff.mpr hn)]
    rfl
  · have hm' : s.atCommand.machine? n = none := hm
    rw [hderegister, deregisterMachine, machineNumber_iff.mpr ⟨hn, hn'⟩, if_neg (by decide), hm']
    rfl
  · have hm' : s.atCommand.machine? n = some m := hm
    have hnumber := machine?_number hm
    have hmay : s.atCommand.mayDeregister m = false := by
      rw [← Bool.not_eq_true]
      simp only [State.mayDeregister, Bool.and_eq_true, beq_iff_eq, Option.isNone_iff_eq_none, hnumber]
      rintro ⟨⟨⟨hl, ht⟩, hd⟩, he⟩
      rcases hused with h | h | h | h
      · exact h hl
      · omega
      · exact h hd
      · exact h he
    rw [hderegister, deregisterMachine, machineNumber_iff.mpr ⟨hn, hn'⟩, if_neg (by decide), hm']
    exact congrArg Host.Outcome.next (if_pos hmay)
  · have hm' : s.atCommand.machine? n = some m := hm
    have hnumber := machine?_number hm
    have hmay : ¬s.atCommand.mayDeregister m = false := by
      rw [Bool.not_eq_false]
      simp only [State.mayDeregister, Bool.and_eq_true, beq_iff_eq, Option.isNone_iff_eq_none, hnumber]
      exact ⟨⟨⟨hl, ht⟩, hd⟩, he⟩
    rw [hderegister, deregisterMachine, machineNumber_iff.mpr ⟨hn, hn'⟩, if_neg (by decide), hm']
    have hmarked := markDirty_running (s := { s.atCommand with machines := s.machines.filter fun x => x.number != n })
      hp hf m.group
    exact congrArg Host.Outcome.next ((if_neg hmay).trans
      ((congrArg (takenTable _) hmarked).trans (takenTable_dirty hc rfl _ _)))

end Sys2Proof.Machine

/-! PROOFS. The starts: power-on, the reset input and the loss of power (11, section 11.3). -/

namespace Sys2Proof.Machine

theorem beginStart_eq (cause : StartCause) (s : State) : beginStart cause s = s.started cause := rfl

theorem holdReset_eq (s : State) : holdReset s = { s.started .resetInput with power := .resetHeld } := rfl

/-- The battery state sensed at power-on (01 R4): a clock that is Unset is Lost (log entry 31). -/
theorem Clock.sensed_eq (c : Clock) (kept : Bool) :
    c.sensed kept =
      { c with
        time := if kept then c.time else none
        battery := if kept = true ∧ c.time ≠ none then .held else .lost } := by
  obtain ⟨time, battery, counter, overrideClass, minuteDue, midnightDue⟩ := c
  cases kept with
  | false => rfl
  | true => cases time <;> simp [Clock.sensed]

theorem powerOn_off {s : State} (h : s.power = .off) (kept : Bool) :
    powerOn kept s =
      if s.resetInput then holdReset { s with frozenLatch := false, clock := s.clock.sensed kept }
      else beginStart .powerOn { s with frozenLatch := false, clock := s.clock.sensed kept } := if_pos h

/-- Settles O58, each row by the state that it begins its start from. -/
theorem startsKeepTheStoreAndTheClock : Obligations.StartsKeepTheStoreAndTheClock := by
  intro s
  refine ⟨fun kept on hon => ⟨fun hoff => ⟨fun hr => ?_, fun hr => ?_⟩, fun hon => ?_⟩, fun h => ?_, fun h => ?_,
    fun h => ?_, fun h => ?_, rfl⟩
  · subst hon
    rw [exec, execPowerOn, powerOn_off hoff, hr, Clock.sensed_eq]
    rfl
  · subst hon
    rw [exec, execPowerOn, powerOn_off hoff, hr, Clock.sensed_eq]
    rfl
  · exact congrArg Host.Outcome.next (if_neg hon)
  · exact congrArg Host.Outcome.next (if_neg h)
  · exact congrArg Host.Outcome.next (if_pos h)
  · exact congrArg Host.Outcome.next (if_pos h)
  · exact congrArg Host.Outcome.next (if_neg h)

end Sys2Proof.Machine

/-! PROOFS. The cabinet port's reads and notice commands (10, sections 10.1 and 10.2). -/

namespace Sys2Proof.Machine

theorem transaction_listens {s : State} (h : s.power.listens = true) (body : State → State) :
    transaction body s = body { s with cabinet := { s.cabinet with shifted := s.cabinet.answer } } := if_pos h

/-- The result codes in the order of their table (12 R202). -/
def codesInOrder : List Code :=
  [.done, .pending, .rejected, .busy, .wait, .empty, .badRequest, .notFound, .inUse, .clockUnset,
    .badTariff, .guarded, .notLoading, .tooLate, .listFull, .guardFrozen, .keyRequired, .kindNotAllowed,
    .paymentBlocked, .permitRefused, .balanceExhausted, .zoneChanged, .noParking, .belowMinimum, .noQuote, .quoteStale,
    .serialOld, .saleMismatch, .permitUnavailable, .balanceChanged, .duplicate, .tableFull, .wrongKind, .revoked,
    .holdInterrupted, .holdActive, .notHeld, .directoryFull, .roundOpen, .badList, .roundClosed, .entryState, .roundBusy,
    .notAcknowledgeable, .notActive, .badPointer, .unknownMachine, .wrongLine, .lineFull, .suspended, .notCurrent,
    .wrongZone, .unverified, .quoted, .free, .accepted, .idle, .left, .recorded, .held, .noDrop, .installed, .conflict]

theorem codesInOrder_number {i : Nat} {c : Code} (h : codesInOrder[i]? = some c) : c.number = i := by
  have hnumbers : codesInOrder.map Code.number = List.range 63 := by decide
  have hi : (codesInOrder.map Code.number)[i]? = some c.number := by rw [List.getElem?_map, h]; rfl
  rw [hnumbers, List.getElem?_eq_some_iff] at hi
  obtain ⟨_, hc⟩ := hi
  rw [← hc, List.getElem_range]

theorem statusBytes_eq (key : KeyInput) (s : State) :
    statusBytes (readKey key) s =
      byte1 (match s.permits.hold with
        | .free => 0
        | .requested => 1
        | .granted => 2
        | .interrupted => 3) ++
      byte1 (pendingStatus s.tariff.pendingSet) ++
      byte1 s.store.backlog ++ byte1 (if s.clock.time = none then 1 else 0) ++
      byte1 (if s.clock.battery = .held then 0 else 1) ++
      byte1 (match key with
        | .collect => 1
        | .service => 2
        | _ => 0) ++
      byte1 (if s.notices.overflow then 1 else 0) ++ byte2 s.notices.unread ++ byte1 s.cabinet.result.number := by
  have hhold : byte1 s.permits.hold.number = byte1 (match s.permits.hold with
      | .free => 0
      | .requested => 1
      | .granted => 2
      | .interrupted => 3) := by cases s.permits.hold <;> rfl
  have hclock : (if s.clock.time.isSome then 0 else 1) = if s.clock.time = none then 1 else 0 := by
    cases s.clock.time <;> rfl
  have hbattery : s.clock.battery.ctorIdx = if s.clock.battery = .held then 0 else 1 := by
    cases s.clock.battery <;> rfl
  have hkey : byte1 (readKey key).number = byte1 (match key with
      | .collect => 1
      | .service => 2
      | _ => 0) := by cases key <;> rfl
  rw [statusBytes, hhold, hclock, hbattery, hkey, flagByte]

/-- What the dropping of the index up to a notice leaves (10 R192). -/
theorem dropWhile_start {before after : List NoticeRef} {n : NoticeRef} {position : Nat} (hn : n.start = position)
    (hbefore : ∀ x ∈ before, x.start ≠ position) :
    ((before ++ n :: after).dropWhile fun x => x.start != position) = n :: after := by
  rw [List.dropWhile_append_of_pos fun x hx => bne_iff_ne.mpr (hbefore x hx)]
  exact List.dropWhile_cons_of_neg (by simp [hn])

/-- AdvanceNotices to a notice's start (10 R192): what is left unread is what the index left spans. -/
theorem freeTo_start {a : NoticeArea} {before after : List NoticeRef} {n : NoticeRef} {position : Nat}
    (hindex : a.index = before ++ n :: after) (hn : n.start = position) (hbefore : ∀ x ∈ before, x.start ≠ position)
    (hunread : a.unread = spanOf a.index) :
    a.freeTo position =
      { a with index := n :: after, unread := spanOf (n :: after), firstUnread := position } := by
  have hspan : spanOf a.index = spanOf before + spanOf (n :: after) := by simp [hindex, spanOf]
  have hleft : a.unread - (spanOf a.index - spanOf (n :: after)) = spanOf (n :: after) := by omega
  rw [NoticeArea.freeTo, hindex, dropWhile_start hn hbefore, ← hindex, hleft]

theorem execCabinetFrameRejected_eq (edges : Nat) (bytes : List Byte) (s : State) :
    execCabinetFrameRejected edges bytes s =
      .next ((cabinetCommand .off edges bytes).elim (transaction (refuse .rejected) s) fun _ => s) := by
  unfold execCabinetFrameRejected
  cases cabinetCommand .off edges bytes <;> rfl

/-- Settles O54. -/
theorem cabinetReadsAndNoticeCommands : Obligations.CabinetReadsAndNoticeCommands := by
  refine ⟨fun i c h => ?_, fun a => ⟨rfl, rfl⟩, fun s => ⟨rfl, fun hl given hgiven => ?_⟩⟩
  · have hc : c.number = i := codesInOrder_number h
    exact ⟨hc, by rw [Code.plain, Code.byte, hc]⟩
  have htake (body : State → State) := transaction_listens hl body
  subst hgiven
  refine ⟨fun key => ?_, fun hr => ?_, fun hr => ?_, fun a hr => ?_, fun n => ⟨fun hn => ?_, fun h1 h2 h3 => ?_⟩,
    fun position freed => ⟨fun hw hi => ?_, ?_⟩, fun edges bytes => ⟨fun h => ?_, fun h => ?_⟩⟩
  · have hpending : pendingStatus s.tariff.pendingSet =
        (match s.tariff.pendingSet with | none => 0 | some p => if p.isSealed then 2 else 1) := by
      cases s.tariff.pendingSet <;> rfl
    have hresult : s.cabinet.result.number =
        (match s.cabinet.result with | .nothing => 0 | .waiting => 1 | .final _ => 2) := by
      cases s.cabinet.result <;> rfl
    have hbytes := statusBytes_eq key s
    rw [hpending, hresult] at hbytes
    rw [exec, execStatus, htake]
    refine congrArg Host.Outcome.next ?_
    refine (congrArg (fun b => decideOutput { answer (doneWith b) s with
      notices := { s.notices with overflow := false }, cabinet := { s.cabinet with
        answer := some (doneWith b), shifted := s.cabinet.answer } }) hbytes).trans ?_
    rfl
  · rw [exec, execResult, htake, result, hr]
    rfl
  · rw [exec, execResult, htake, result, hr]
    rfl
  · rw [exec, execResult, htake, result, hr]
    rfl
  · rw [exec, execReadNotices, htake, readNotices, if_pos hn]
    rfl
  · rw [exec, execReadNotices, htake, readNotices, if_neg (by omega)]
    simp only [noticeData, answer, doneWith, List.append_assoc]
  · have hany : ¬(s.notices.index.any fun n => n.start == position) = true := by simpa using hi
    rw [exec, execAdvanceNotices, htake]
    exact congrArg Host.Outcome.next ((if_neg hw).trans (if_neg hany))
  · rintro (⟨hw, hfreed⟩ | ⟨hw, before, n, after, hindex, hn, hbefore, hunread, hfreed⟩)
    · subst hfreed hw
      rw [exec, execAdvanceNotices, htake]
      exact congrArg Host.Outcome.next (if_pos rfl)
    · have hany : (s.notices.index.any fun n => n.start == position) = true := by
        rw [hindex]; simp [hn]
      rw [exec, execAdvanceNotices, htake, hfreed, ← freeTo_start hindex hn hbefore hunread]
      exact congrArg Host.Outcome.next ((if_neg hw).trans (if_pos hany))
  · rw [exec, execCabinetFrameRejected_eq, (cabinetCommand_eq_none_iff .off edges bytes).mpr h, Option.elim_none, htake]
    rfl
  · obtain ⟨c, hc⟩ := Option.ne_none_iff_exists'.mp fun hnone => h ((cabinetCommand_eq_none_iff .off edges bytes).mp hnone)
    rw [exec, execCabinetFrameRejected_eq, hc, Option.elim_some]

end Sys2Proof.Machine

/-! PROOFS. Notices: their place in the ring and their bytes (10, section 10.2; 12, section 12.4). -/

namespace Sys2Proof.Machine

/-! ## Bytes laid around the ring (10 R189, R191) -/

/-- Bytes laid from an offset on leave every offset that they do not reach. -/
theorem readCell_writeRing_other (bytes : List Byte) {cells : List Host.Cell} {start x : Nat} (h : cellsWf cells = true)
    (hx : ∀ i < bytes.length, ringOffset (start + i) ≠ x) :
    readCell (writeRing cells start bytes) x = readCell cells x := by
  induction bytes generalizing cells start with
  | nil => rfl
  | cons v rest ih =>
    have hcell : cellsWf (writeCell cells (ringOffset start) v) = true :=
      cellsFrom_writeCell h (Nat.zero_le _) (Nat.mod_lt _ (by decide))
    refine (ih hcell fun i hi => ?_).trans (readCell_writeCell_other h ?_)
    · have := hx (i + 1) (Nat.succ_lt_succ hi)
      rwa [Nat.add_comm i 1, ← Nat.add_assoc] at this
    · exact (hx 0 (Nat.zero_lt_succ _)).symm

/-- Bytes laid are the bytes read, where they do not go around the whole ring. -/
theorem readRing_writeRing (bytes : List Byte) {cells : List Host.Cell} {start n : Nat} (h : cellsWf cells = true)
    (hlen : bytes.length ≤ 4096) (hn : n ≤ bytes.length) :
    readRing (writeRing cells start bytes) start n = bytes.take n := by
  induction bytes generalizing cells start n with
  | nil =>
    obtain rfl : n = 0 := Nat.le_zero.mp hn
    rfl
  | cons v rest ih =>
    cases n with
    | zero => rfl
    | succ n =>
      have hcell : cellsWf (writeCell cells (ringOffset start) v) = true :=
        cellsFrom_writeCell h (Nat.zero_le _) (Nat.mod_lt _ (by decide))
      rw [List.length_cons] at hlen hn
      have hfirst : readCell (writeRing (writeCell cells (ringOffset start) v) (start + 1) rest) (ringOffset start) = v :=
        (readCell_writeRing_other rest hcell fun i hi => by
          simp only [ringOffset, Config.noticeAreaBytes]; omega).trans (readCell_writeCell_same h)
      exact congrArg₂ List.cons hfirst (ih hcell (by omega) (by omega))

theorem noticeSpan_take (bytes : List Byte) : (noticeSpan bytes).take bytes.length = bytes := by
  unfold noticeSpan
  split
  · exact List.take_length
  · exact List.take_left

theorem noticeSpan_length_eq (bytes : List Byte) :
    (noticeSpan bytes).length = if bytes.length % 2 = 0 then bytes.length else bytes.length + 1 := by
  unfold noticeSpan
  split <;> simp

/-- Every notice of a chained index spans four bytes or more. -/
theorem four_mul_length_le_spanOf {start : Nat} {index : List NoticeRef} (h : chained start index = true) :
    4 * index.length ≤ spanOf index := by
  induction index generalizing start with
  | nil => exact Nat.le_refl 0
  | cons n rest ih =>
    simp only [chained, Bool.and_eq_true, decide_eq_true_eq] at h
    obtain ⟨⟨-, hfour⟩, hrest⟩ := h
    have := ih hrest
    simp only [spanOf, List.map_cons, List.sum_cons, List.length_cons] at this ⊢
    omega

/-- A notice that fits is laid from the write position on and changes no other byte of the ring. -/
theorem NoticeArea.write_fits {a : NoticeArea} (bytes : List Byte) (counter : Seconds) {span : Nat} (ha : a.sound = true)
    (hspan : (noticeSpan bytes).length = span) (hfits : span ≤ 4096 - a.unread) (hroom : 0 < span) :
    ∃ ring : List Host.Cell,
      a.write bytes counter =
        { a with
          ring := ring
          writePos := (a.writePos + span) % 4096
          unread := a.unread + span
          index := a.index ++ [⟨a.writePos, span, counter⟩] } ∧
      readRing ring a.writePos bytes.length = bytes ∧
      ∀ x < 4096, span ≤ (x + 4096 - a.writePos) % 4096 → readCell ring x = readCell a.ring x := by
  obtain ⟨hring, hle, -, -, -, -, hpos⟩ := a.sound_iff.mp ha
  have hlong : bytes.length ≤ span := by rw [← hspan, noticeSpan_length_eq]; split <;> omega
  have hw : a.writePos < 4096 := by rw [hpos]; exact Nat.mod_lt _ (by decide)
  refine ⟨writeRing a.ring a.writePos (noticeSpan bytes), ?_, ?_, fun x hx hout => ?_⟩
  · subst hspan
    exact if_pos (show (noticeSpan bytes).length + a.unread ≤ 4096 by omega)
  · rw [readRing_writeRing _ hring (by omega) (by omega), noticeSpan_take]
  · refine readCell_writeRing_other _ hring fun i hi => ?_
    simp only [ringOffset, Config.noticeAreaBytes]
    omega

theorem NoticeArea.write_full {a : NoticeArea} (bytes : List Byte) (counter : Seconds) (hle : a.unread ≤ 4096)
    (hfull : 4096 - a.unread < (noticeSpan bytes).length) : a.write bytes counter = { a with overflow := true } :=
  if_neg (show ¬(noticeSpan bytes).length + a.unread ≤ 4096 by omega)

/-! ## The bytes of each notice (12 R205) -/

/-- A notice's second byte is its length. -/
theorem noticeBytes_eq {kind n : Nat} {contents : List Byte} (h : contents.length + 2 = n) :
    noticeBytes kind contents = byte1 kind ++ (byte1 n ++ contents) := by
  rw [noticeBytes, h, List.append_assoc]

theorem faultKind_number_of_place {i : Nat} {k : FaultKind} (h : FaultKind.all[i]? = some k) : k.number = i + 1 := by
  have hnumbers : FaultKind.all.map FaultKind.number = (List.range 15).map (· + 1) := by decide
  have hi : (FaultKind.all.map FaultKind.number)[i]? = some k.number := by rw [List.getElem?_map, h]; rfl
  rw [hnumbers, List.getElem?_map, Option.map_eq_some_iff] at hi
  obtain ⟨j, hj, hk⟩ := hi
  rw [List.getElem?_eq_some_iff] at hj
  obtain ⟨_, hj⟩ := hj
  rw [← hk, ← hj, List.getElem_range]

/-- Settles O53. -/
theorem noticesAreWrittenWhereTheyFit : Obligations.NoticesAreWrittenWhereTheyFit := by
  refine ⟨fun a bytes counter span ha hb hspan => ?_, fun s bytes => ⟨_, rfl⟩, fun n => ⟨rfl, rfl, rfl, rfl⟩,
    fun d minute => ⟨rfl, rfl, rfl, rfl⟩, fun i k h => faultKind_number_of_place h,
    fun n count k severity again time => ?_, fun n k cause time => ?_, fun r => ?_, fun r count hcount => ?_,
    fun covered => ?_, fun p => ?_, rfl, rfl, fun unstated => rfl, rfl, fun n slot line reconciled => ?_,
    fun cause clockSet latch battery machines held unfetched => ?_⟩
  · obtain ⟨hring, hle, hunread, hlt, heven, hchain, hpos⟩ := a.sound_iff.mp ha
    obtain ⟨hspan2, hspan4⟩ := noticeSpan_length hb
    have hlen : (noticeSpan bytes).length = span := (noticeSpan_length_eq bytes).trans hspan.symm
    have hindex := four_mul_length_le_spanOf hchain
    have hunread2 := spanOf_even hchain
    have hle' : a.unread ≤ 4096 := hle
    refine ⟨?_, by omega, by omega, fun hfits => NoticeArea.write_fits bytes counter ha hlen hfits (by omega),
      fun hfull => NoticeArea.write_full bytes counter hle' (by omega)⟩
    rw [hpos]
    exact ringOffset_even (by omega)
  · rw [faultRaisedNotice, noticeBytes_eq (n := 13) (by simp)]
    cases severity <;> simp only [List.append_assoc] <;> rfl
  · rw [faultClearedNotice, noticeBytes_eq (n := 11) (by simp)]
    cases cause <;> simp only [List.append_assoc] <;> rfl
  · rw [dropRecordedNotice, noticeBytes_eq (n := 12) (by simp)]
    simp only [List.append_assoc]
  · have hcounts (state : EntryState) : r.count state = count state := by
      rw [hcount]
      simp only [Round.count, beq_eq_decide]
    rw [roundClosedNotice, noticeBytes_eq (n := 17) (by simp), hcounts, hcounts, hcounts]
    cases r.openedBy <;> simp only [List.append_assoc] <;> rfl
  · rw [tariffActivatedNotice, noticeBytes_eq (n := 3 + 2 * covered.length) ?_]
    · simp only [List.append_assoc]
    · have hzones := length_flatMap_const (f := fun x : Nat × Nat => byte1 x.1 ++ byte1 x.2) (n := 2) (fun _ => rfl) covered
      simp only [List.length_append, byte1_length, hzones]
      omega
  · rw [pendingAbandonedNotice, noticeBytes_eq (n := 8 + p.zones.length) ?_]
    · simp only [List.append_assoc]
    · have hzones := length_flatMap_const (f := fun z : PendingZone => byte1 z.zone) (n := 1) (fun _ => rfl) p.zones
      simp only [List.length_append, byte1_length, byte2_length, dateBytes_length, hzones]
      omega
  · rw [machineJoinedNotice, noticeBytes_eq (n := 7) (by simp)]
    cases line <;> simp only [List.append_assoc] <;> rfl
  · rw [restartCompleteNotice, noticeBytes_eq (n := 12) (by simp)]
    cases cause <;> cases battery <;> simp only [List.append_assoc] <;> rfl

end Sys2Proof.Machine

/-! PROOFS. The round port: its characters, execution and readouts (09, sections 9.1 to 9.4). -/

namespace Sys2Proof.Machine

/-! ## The kinds of characters (09 R168, log entry 64) -/

/-- The command letters with the codes of their capitals. -/
def letterCodes : List (Letter × Nat) :=
  [(.t, 84), (.f, 70), (.n, 78), (.o, 79), (.s, 83), (.c, 67), (.a, 65), (.p, 80), (.u, 85)]

theorem letterOfCode_some {n : Nat} {l : Letter} (h : letterOfCode n = some l) : (l, n) ∈ letterCodes := by
  unfold letterOfCode at h
  split at h <;> cases h <;> decide

/-- The codes that are neither digits nor the signs of 09 R168. -/
def plainCode (n : Nat) : Prop := ¬(48 ≤ n ∧ n ≤ 57) ∧ n ≠ 44 ∧ n ≠ 32 ∧ n ≠ 13 ∧ n ≠ 33 ∧ n ≠ 27

/-- A character is a digit, one of the five signs, or a letter or other character by its capital's code. -/
theorem charKindOf_cases (n : Nat) :
    48 ≤ n ∧ n ≤ 57 ∧ charKindOf n = .digit (n - 48) ∨ n = 44 ∧ charKindOf n = .comma ∨
      n = 32 ∧ charKindOf n = .space ∨ n = 13 ∧ charKindOf n = .terminator .carriageReturn ∨
      n = 33 ∧ charKindOf n = .terminator .exclamation ∨ n = 27 ∧ charKindOf n = .escape ∨
      plainCode n ∧ charKindOf n = (letterOfCode (capitalCode n)).elim .other .letter := by
  by_cases hd : 48 ≤ n ∧ n ≤ 57
  · exact .inl ⟨hd.1, hd.2, if_pos hd⟩
  by_cases h44 : n = 44
  · subst h44; exact .inr (.inl ⟨rfl, rfl⟩)
  by_cases h32 : n = 32
  · subst h32; exact .inr (.inr (.inl ⟨rfl, rfl⟩))
  by_cases h13 : n = 13
  · subst h13; exact .inr (.inr (.inr (.inl ⟨rfl, rfl⟩)))
  by_cases h33 : n = 33
  · subst h33; exact .inr (.inr (.inr (.inr (.inl ⟨rfl, rfl⟩))))
  by_cases h27 : n = 27
  · subst h27; exact .inr (.inr (.inr (.inr (.inr (.inl ⟨rfl, rfl⟩)))))
  refine .inr (.inr (.inr (.inr (.inr (.inr ⟨⟨hd, h44, h32, h13, h33, h27⟩, ?_⟩)))))
  unfold charKindOf
  rw [if_neg hd, if_neg h44, if_neg h32, if_neg h13, if_neg h33, if_neg h27]
  cases letterOfCode (capitalCode n) <;> rfl

theorem charKindOf_letter {n : Nat} {l : Letter} (h : charKindOf n = .letter l) :
    ∃ x ∈ letterCodes, n = x.2 ∨ n = x.2 + 32 := by
  rcases charKindOf_cases n with ⟨-, -, hk⟩ | ⟨-, hk⟩ | ⟨-, hk⟩ | ⟨-, hk⟩ | ⟨-, hk⟩ | ⟨-, hk⟩ | ⟨-, hk⟩
  case inr.inr.inr.inr.inr.inr =>
    rw [hk] at h
    cases hl : letterOfCode (capitalCode n) with
    | none => rw [hl] at h; cases h
    | some l' =>
      refine ⟨_, letterOfCode_some hl, ?_⟩
      simp only [capitalCode]
      split <;> omega
  all_goals rw [hk] at h; cases h

/-- What a kind says of the character's code, for the kinds that stand for one character or for the digits. -/
theorem charKindOf_sign (n : Nat) :
    (charKindOf n = .comma ↔ n = 44) ∧ (charKindOf n = .space ↔ n = 32) ∧
      (charKindOf n = .terminator .carriageReturn ↔ n = 13) ∧ (charKindOf n = .terminator .exclamation ↔ n = 33) ∧
      (charKindOf n = .escape ↔ n = 27) ∧ ∀ d, charKindOf n = .digit d → 48 ≤ n ∧ n ≤ 57 := by
  rcases charKindOf_cases n with ⟨hlow, hhigh, hk⟩ | ⟨hn, hk⟩ | ⟨hn, hk⟩ | ⟨hn, hk⟩ | ⟨hn, hk⟩ | ⟨hn, hk⟩ |
    ⟨⟨hd, h44, h32, h13, h33, h27⟩, hk⟩
  case inr.inr.inr.inr.inr.inr =>
    rw [hk]
    cases letterOfCode (capitalCode n) <;> simp [h44, h32, h13, h33, h27]
  all_goals
    rw [hk]
    simp
    omega

theorem byte_eq_of_toNat {b : Byte} {n : Nat} (hn : n < 256) : b.toNat = n ↔ b = BitVec.ofNat 8 n := by
  refine ⟨fun h => by rw [← h, BitVec.ofNat_toNat, BitVec.setWidth_eq], fun h => ?_⟩
  rw [h, BitVec.toNat_ofNat, Nat.mod_eq_of_lt hn]

theorem kind_return_iff (c : PortChar) : PortChar.kind c = .terminator .carriageReturn ↔ c = .char 0x0D := by
  cases c with
  | char b => rw [PortChar.char.injEq]; exact (charKindOf_sign b.toNat).2.2.1.trans (byte_eq_of_toNat (by decide))
  | broken => simp [PortChar.kind]

theorem kind_escape_iff (c : PortChar) : PortChar.kind c = .escape ↔ c = .char 0x1B := by
  cases c with
  | char b => rw [PortChar.char.injEq]; exact (charKindOf_sign b.toNat).2.2.2.2.1.trans (byte_eq_of_toNat (by decide))
  | broken => simp [PortChar.kind]

/-! ## A character in each state of the port (09 R168, R170, R173) -/

theorem portCharacter_ready {s : State} (key : KeyPosition) (c : CharKind) (hl : s.power.listens = true)
    (hs : s.roundPort.state = .ready) : portCharacter key c s = charInReady c s := by
  simp [portCharacter, hl, hs]

theorem portCharacter_error {s : State} (key : KeyPosition) (c : CharKind) (hl : s.power.listens = true)
    (hs : s.roundPort.state = .error) :
    portCharacter key c s =
      if c = .terminator .carriageReturn ∨ c = .escape then portSend .ready [.lineEnd, .prompt] s else s := by
  simp only [portCharacter, hl, hs, Bool.true_eq_false, if_false]
  cases c with
  | terminator t => cases t <;> rfl
  | _ => rfl

theorem portCharacter_awaiting {s : State} {line : List Nat} (key : KeyPosition) (c : CharKind)
    (hs : s.roundPort.state = .awaiting line) : portCharacter key c s = s := by
  simp [portCharacter, hs]

theorem charInReady_other {c : CharKind} (s : State) (hletter : ∀ l, c ≠ .letter l) (hspace : c ≠ .space)
    (hreturn : c ≠ .terminator .carriageReturn) (hescape : c ≠ .escape) : charInReady c s = portError s := by
  cases c with
  | letter l => exact absurd rfl (hletter l)
  | space => exact absurd rfl hspace
  | escape => exact absurd rfl hescape
  | terminator t =>
    cases t with
    | carriageReturn => exact absurd rfl hreturn
    | exclamation => rfl
  | _ => rfl

theorem charInEntering_other {c : CharKind} (key : KeyPosition) (l : Letter) (first second : Option Nat) (comma : Bool)
    (s : State) (hdigit : ∀ d, c ≠ .digit d) (hcomma : c ≠ .comma) (hspace : c ≠ .space)
    (hterminator : ∀ t, c ≠ .terminator t) (hescape : c ≠ .escape) :
    charInEntering key l first second comma c s = portError s := by
  cases c with
  | digit d => exact absurd rfl (hdigit d)
  | comma => exact absurd rfl hcomma
  | space => exact absurd rfl hspace
  | terminator t => exact absurd rfl (hterminator t)
  | escape => exact absurd rfl hescape
  | _ => rfl

theorem kind_letterCode {x : Letter × Nat} (hx : x ∈ letterCodes) {code : Nat} (h : code = x.2 ∨ code = x.2 + 32) :
    PortChar.kind (.char (BitVec.ofNat 8 code)) = .letter x.1 := by
  have hall : ∀ x ∈ letterCodes, PortChar.kind (.char (BitVec.ofNat 8 x.2)) = .letter x.1 ∧
      PortChar.kind (.char (BitVec.ofNat 8 (x.2 + 32))) = .letter x.1 := by decide
  obtain ⟨hcapital, hsmall⟩ := hall x hx
  rcases h with rfl | rfl
  · exact hcapital
  · exact hsmall

/-! ## Execution (09 R167, R171) -/

theorem exec_row (l : Letter) (key : KeyInput) (ended : Terminator) (s : State) :
    exec (l.row key ended) s = .next (portCommand l key ended s) := by
  cases l with
  | c => cases ended <;> rfl
  | _ => rfl

theorem allowedAt_eq_false_iff (l : Letter) (key : KeyInput) :
    l.allowedAt (readKey key) = false ↔
      l ∈ [Letter.o, .s, .c] ∧ readKey key = .off ∨ l ∈ [Letter.a, .p, .u] ∧ readKey key ≠ .service := by
  cases l <;> cases readKey key <;> decide

theorem formSound_iff (l : Letter) (ended : Terminator) (first second : Option Nat) :
    l.formSound ended first second = true ↔
      (first ≠ none ↔ 1 ≤ l.arity) ∧ (second ≠ none ↔ 2 ≤ l.arity) ∧ (ended = .carriageReturn ∨ l = .c) := by
  have hpresent (o : Option Nat) (k : Nat) : o.isSome = decide (k ≤ l.arity) ↔ (o ≠ none ↔ k ≤ l.arity) := by
    rw [Bool.eq_iff_iff, decide_eq_true_iff, Option.isSome_iff_ne_none]
  simp only [Letter.formSound, Bool.and_eq_true, beq_iff_eq, Bool.or_eq_true, hpresent, and_assoc]

theorem formSound_eq_false {l : Letter} {ended : Terminator} {first second : Option Nat}
    (h : ended = .exclamation ∧ l ≠ .c ∨ l ∈ [Letter.n, .o, .c] ∧ (first ≠ none ∨ second ≠ none) ∨
      l ∈ [Letter.t, .f, .s] ∧ (first = none ∨ second ≠ none) ∨
      l ∈ [Letter.a, .p, .u] ∧ (first = none ∨ second = none)) :
    l.formSound ended first second = false := by
  rw [← Bool.not_eq_true, formSound_iff]
  rintro ⟨hfirst, hsecond, hended⟩
  rcases h with ⟨rfl, hc⟩ | ⟨hl, h⟩ | ⟨hl, h⟩ | ⟨hl, h⟩
  · rcases hended with h | h
    · cases h
    · exact hc h
  · have harity : l.arity = 0 := by fin_cases hl <;> rfl
    rcases h with h | h
    · have := hfirst.mp h
      omega
    · have := hsecond.mp h
      omega
  · have harity : l.arity = 1 := by fin_cases hl <;> rfl
    rcases h with h | h
    · exact hfirst.mpr harity.ge h
    · have := hsecond.mp h
      omega
  · have harity : l.arity = 2 := by fin_cases hl <;> rfl
    rcases h with h | h
    · exact hfirst.mpr (by omega) h
    · exact hsecond.mpr harity.ge h

/-- What the readout held becomes when a command is executed (09 R176). -/
theorem execute_eq (key : KeyPosition) (l : Letter) (ended : Terminator) (first second : Option Nat) (s : State)
    {held : Option Readout} (hheld : held = if l = .n then s.roundPort.readout else none) :
    execute key l ended first second s =
      if l.allowedAt key = false then
        portReply [.keyRefused] { s with roundPort := { s.roundPort with readout := held } }
      else if l.formSound ended first second = false then
        FromPort.roundPort.refuse .badRequest { s with roundPort := { s.roundPort with readout := held } }
      else
        passCommand l ended (first.getD 0) (second.getD 0)
          { s with roundPort := { s.roundPort with readout := held } } := by
  subst hheld
  unfold execute
  by_cases hl : l = .n
  · simp only [hl, if_true]
  · simp only [hl, if_false]

/-! ## Readouts (09 R174 to R176) -/

theorem takeReadout_registered {lines : MachineRecord → State → List (List Nat)} {n : Nat} {s : State} {m : MachineRecord}
    (hn : 1 ≤ n ∧ n ≤ 999) (hm : s.machine? n = some m) :
    takeReadout lines n s =
      { s with roundPort := ⟨.ready, some ⟨lines m s, 2⟩, [.line ((lines m s).headD []), .prompt]⟩ } := by
  rw [takeReadout, machineNumber_iff.mpr hn, if_neg (by decide), hm]
  rfl

theorem takeReadout_unregistered {lines : MachineRecord → State → List (List Nat)} {n : Nat} {s : State}
    (hn : 1 ≤ n ∧ n ≤ 999) (hm : s.machine? n = none) :
    takeReadout lines n s = FromPort.roundPort.refuse .notFound s := by
  rw [takeReadout, machineNumber_iff.mpr hn, if_neg (by decide), hm]

theorem nextLine_line {s : State} {r : Readout} {line : List Nat} (hr : s.roundPort.readout = some r)
    (hline : r.lines[r.cursor - 1]? = some line) :
    nextLine s =
      { s with roundPort := ⟨.ready, some { r with cursor := r.cursor + 1 }, [.line line, .prompt]⟩ } := by
  simp only [nextLine, hr, hline]
  rfl

theorem nextLine_empty {s : State} (h : ∀ r, s.roundPort.readout = some r → r.lines.length < r.cursor) :
    nextLine s = FromPort.roundPort.refuse .empty s := by
  unfold nextLine
  cases hr : s.roundPort.readout with
  | none => rfl
  | some r =>
    have := h r hr
    have hnone : r.lines[r.cursor - 1]? = none := List.getElem?_eq_none (by omega)
    simp only [hnone]

end Sys2Proof.Machine

/-! PROOFS. O57: the port's characters, its execution and its readouts. -/

namespace Sys2Proof.Machine

/-- A received byte that is no letter and no sign of Ready is Error there (09 R168). -/
theorem kind_error_in_ready {b : Byte} (hsigns : b ∉ [(0x20 : Byte), 0x0D, 0x1B])
    (hletters : ∀ x ∈ letterCodes, b.toNat ≠ x.2 ∧ b.toNat ≠ x.2 + 32) (s : State) :
    charInReady (PortChar.kind (.char b)) s = portError s := by
  obtain ⟨-, hspace, hreturn, -, hescape, -⟩ := charKindOf_sign b.toNat
  simp only [List.mem_cons, List.not_mem_nil, or_false, not_or] at hsigns
  obtain ⟨h20, h0D, h1B⟩ := hsigns
  refine charInReady_other s (fun l hl => ?_) (fun h => ?_) (fun h => ?_) (fun h => ?_)
  · obtain ⟨x, hx, hn⟩ := charKindOf_letter hl
    have := hletters x hx
    omega
  · exact h20 ((byte_eq_of_toNat (by decide)).mp (hspace.mp h))
  · exact h0D ((byte_eq_of_toNat (by decide)).mp (hreturn.mp h))
  · exact h1B ((byte_eq_of_toNat (by decide)).mp (hescape.mp h))

/-- A received byte that is no digit and no sign of Entering is Error there (09 R168). -/
theorem kind_error_in_entering {b : Byte} (hsigns : b ∉ [(0x20 : Byte), 0x2C, 0x0D, 0x21, 0x1B])
    (hdigit : b.toNat < 48 ∨ 57 < b.toNat) (key : KeyPosition) (l : Letter) (first second : Option Nat) (comma : Bool)
    (s : State) : charInEntering key l first second comma (PortChar.kind (.char b)) s = portError s := by
  obtain ⟨hcomma, hspace, hreturn, hexclamation, hescape, hdigits⟩ := charKindOf_sign b.toNat
  simp only [List.mem_cons, List.not_mem_nil, or_false, not_or] at hsigns
  obtain ⟨h20, h2C, h0D, h21, h1B⟩ := hsigns
  refine charInEntering_other key l first second comma s (fun d hd => ?_) (fun h => ?_) (fun h => ?_) (fun t h => ?_)
    (fun h => ?_)
  · have := hdigits d hd
    omega
  · exact h2C ((byte_eq_of_toNat (by decide)).mp (hcomma.mp h))
  · exact h20 ((byte_eq_of_toNat (by decide)).mp (hspace.mp h))
  · cases t with
    | carriageReturn => exact h0D ((byte_eq_of_toNat (by decide)).mp (hreturn.mp h))
    | exclamation => exact h21 ((byte_eq_of_toNat (by decide)).mp (hexclamation.mp h))
  · exact h1B ((byte_eq_of_toNat (by decide)).mp (hescape.mp h))

/-- The terminator's character executes the command typed. -/
theorem exec_terminator {s : State} {l : Letter} {first second : Option Nat} (h : s.typed l first second) (key : KeyInput)
    (ended : Terminator) :
    exec (.roundPortCharacter key (.char (if ended = .carriageReturn then 0x0D else 0x21))) s =
      .next (execute (readKey key) l ended first second s) := by
  obtain ⟨hl, comma, hs⟩ := h
  rw [exec_roundPortCharacter, portCharacter_entering _ _ hs hl]
  cases ended <;> rfl

/-- Settles O57. -/
theorem portCommandsExecuteAndReadOut : Obligations.PortCommandsExecuteAndReadOut := by
  refine ⟨by decide, rfl, fun s key put hl hput letters hletters => ?_, fun s key l ended first second htyped => ?_⟩
  · have hput' (state : PortState) (sent : List PortSent) : put state sent = portSend state sent s := by rw [hput]; rfl
    have hquiet (state : PortState) : put state s.roundPort.sent = portQuiet state s := by rw [hput]; rfl
    have herror : put .error [.errorChar] = portError s := hput' _ _
    refine ⟨fun hs => ?_, fun l first second comma hs => ?_, fun hs c => ?_, fun line hs c => ?_⟩
    · obtain rfl : letters = letterCodes := hletters
      have hready (c : PortChar) : exec (.roundPortCharacter key c) s = .next (charInReady (PortChar.kind c) s) :=
        congrArg Host.Outcome.next (portCharacter_ready _ _ hl hs)
      refine ⟨fun x hx code hcode => ?_, hready _, ?_, ?_, ?_, fun b hb hno => ?_⟩
      · rw [hready, hquiet, kind_letterCode hx hcode]
        rfl
      · rw [hready, hput']; rfl
      · rw [hready, hput']; rfl
      · rw [hready, hput']; rfl
      · rw [hready, herror, kind_error_in_ready hb hno]
    · have hentering (c : PortChar) : exec (.roundPortCharacter key c) s =
          .next (charInEntering (readKey key) l first second comma (PortChar.kind c) s) :=
        congrArg Host.Outcome.next (portCharacter_entering _ _ hs hl)
      refine ⟨?_, hentering _, ?_, ?_, fun b hb hdigit => ?_⟩
      · rw [hentering, herror, hquiet]; rfl
      · rw [hentering, hput']; rfl
      · rw [hentering, hput']; rfl
      · rw [hentering, herror, kind_error_in_entering hb hdigit]
    · rw [exec_roundPortCharacter, portCharacter_error _ _ hl hs, hput']
      simp only [kind_return_iff, kind_escape_iff]
    · rw [exec_roundPortCharacter, portCharacter_awaiting _ _ hs]
  have hrow : exec (l.row key ended) s = .next (execute (readKey key) l ended first second s) := by
    rw [exec_row, portCommand_typed key ended htyped]
  refine ⟨(exec_terminator htyped key ended).trans hrow.symm, fun held hheld => ?_⟩
  rw [hrow, execute_eq _ l ended first second s hheld]
  refine ⟨fun hkey => ?_, fun hkey hform => ?_, fun hended => ⟨fun n hl hfirst hsecond hn hn' => ?_,
    fun hl hfirst hsecond => ?_⟩⟩
  · rw [if_pos ((allowedAt_eq_false_iff l key).mpr hkey)]
    rfl
  · rw [if_neg fun h => hkey ((allowedAt_eq_false_iff l key).mp h), if_pos (formSound_eq_false hform)]
    rfl
  · subst hfirst hsecond hended
    have hkey : ¬l.allowedAt (readKey key) = false := by rcases hl with rfl | rfl <;> nofun
    have hform : ¬l.formSound .carriageReturn (some n) none = false := by rcases hl with rfl | rfl <;> nofun
    have hheld' : held = none := by rcases hl with rfl | rfl <;> exact hheld
    rw [if_neg hkey, if_neg hform, hheld']
    refine ⟨fun hm => ?_, fun m hm => ?_⟩
    · rcases hl with rfl | rfl
      · exact congrArg Host.Outcome.next (takeReadout_unregistered (lines := tallyLines) ⟨hn, hn'⟩ hm)
      · exact congrArg Host.Outcome.next (takeReadout_unregistered (lines := fun m _ => faultLines m)
          (s := { s with roundPort := { s.roundPort with readout := none } }) ⟨hn, hn'⟩ hm)
    · have hnumber := machine?_number hm
      rcases hl with rfl | rfl
      · refine ⟨tallyLines m s, congrArg Host.Outcome.next (takeReadout_registered ⟨hn, hn'⟩ hm), fun _ => ?_,
          nofun⟩
        refine ⟨rfl, by rw [← hnumber]; rfl, fun i hi => by interval_cases i <;> rfl, rfl, rfl, ?_, rfl, ?_⟩
        · show some [if m.heldDrop.isSome then 1 else 0, (m.heldDrop.map Snapshot.cash).getD 0] = _
          cases m.heldDrop <;> rfl
        · show some [(s.cash.round.map Round.number).getD 0, s.entryNumber m.number,
            ((s.cash.round.bind fun r => r.entry? m.number).bind RoundEntry.drop).getD 0] = _
          rw [hnumber]
          unfold State.entryNumber
          cases s.cash.round with
          | none => rfl
          | some round =>
            show some [round.number, _, ((round.entry? n).bind RoundEntry.drop).getD 0] = _
            simp only [Option.bind_some, Round.entry?]
            cases round.entries.find? fun e => e.machine == n <;> rfl
      · refine ⟨faultLines m, congrArg Host.Outcome.next (takeReadout_registered (lines := fun m _ => faultLines m)
          (s := { s with roundPort := { s.roundPort with readout := none } }) ⟨hn, hn'⟩ hm), nofun,
          fun _ => ⟨mem_raisedKinds _, raisedKinds_ascend _, fun time htime => ?_⟩⟩
        have htime' : time = timeFields := by
          rw [htime]
          funext t
          cases t <;> rfl
        rw [htime', ← hnumber]
        rfl
  · subst hl hfirst hsecond hended
    rw [if_neg (show ¬Letter.n.allowedAt (readKey key) = false by nofun), if_neg (by decide), hheld]
    refine ⟨fun r line hr hcursor hline => ?_, fun hnone => ?_⟩
    · exact congrArg Host.Outcome.next (nextLine_line hr hline)
    · exact congrArg Host.Outcome.next (nextLine_empty hnone)

end Sys2Proof.Machine

/-! PROOFS. SetTimers and its effects at once (10 R187). -/

namespace Sys2Proof.Machine

/-! ## The check of SetTimers -/

theorem inRange_iff (low high : Nat) (o : Option Nat) : inRange low high o = true ↔ ∀ v, o = some v → low ≤ v ∧ v ≤ high := by
  cases o <;> simp [inRange]

theorem carriesValue_iff (a : TimerArgs) : carriesValue a = true ↔ a ≠ ⟨none, none, none, none, none, none, none⟩ := by
  obtain ⟨lifetime, holdLimit, silence, release, period, threshold, timeout⟩ := a
  simp only [carriesValue, Bool.or_eq_true, Option.isSome_iff_ne_none, ne_eq, TimerArgs.mk.injEq, not_and_or, or_assoc]

theorem timersSound_iff (t : Timers) (a : TimerArgs) :
    timersSound t a = true ↔
      a ≠ ⟨none, none, none, none, none, none, none⟩ ∧
        (∀ v, a.lifetime = some v → 30 ≤ v ∧ v ≤ 600) ∧ (∀ v, a.holdLimit = some v → 1 ≤ v ∧ v ≤ 60) ∧
        (∀ v, a.silence = some v → 2 ≤ v ∧ v ≤ 30) ∧ (∀ v, a.release = some v → 10 ≤ v ∧ v ≤ 255) ∧
        (∀ v, a.period = some v → 5 ≤ v ∧ v ≤ 255) ∧
        (∀ v, a.threshold = some v → 16 ≤ v ∧ v ≤ 4080 ∧ v % 2 = 0) ∧
        (∀ v, a.timeout = some v → 1 ≤ v ∧ v ≤ 255) ∧ (t.set a).silence ≤ (t.set a).release := by
  have hthreshold : (∀ v, a.threshold = some v → 16 ≤ v ∧ v ≤ 4080 ∧ v % 2 = 0) ↔
      (∀ v, a.threshold = some v → 16 ≤ v ∧ v ≤ 4080) ∧ a.threshold.getD 0 % 2 = 0 := by
    cases a.threshold <;> simp [and_assoc]
  simp only [timersSound, Bool.and_eq_true, carriesValue_iff, inRange_iff, beq_iff_eq, decide_eq_true_eq, hthreshold, and_assoc]

/-! ## What it does to work already running -/

/-- The store controller once waiting returns have been passed to it, with nothing held back (04 R69). -/
def StoreControl.returned (c : StoreControl) (rs : List Return) : StoreControl :=
  rs.foldl (fun k r => k.taking ⟨.giveBack r, 4, .nobody⟩) c

theorem StoreControl.taking_extends (c : StoreControl) (op : StoreOp) :
    ∃ q h, c.taking op = { c with queue := q, holder := h } ∧ (∀ o ∈ c.queue, o ∈ q) ∧ (∀ x, c.holder = some x → h = some x) := by
  unfold StoreControl.taking
  split
  next hn => exact ⟨c.queue, _, rfl, fun _ h => h, fun x hx => by simp [hn] at hx⟩
  next => exact ⟨_, c.holder, rfl, fun _ h => List.mem_append_left _ h, fun _ h => h⟩

theorem StoreControl.returned_extends (rs : List Return) (c : StoreControl) :
    ∃ q h, c.returned rs = { c with queue := q, holder := h } ∧ (∀ o ∈ c.queue, o ∈ q) ∧
      (∀ x, c.holder = some x → h = some x) := by
  induction rs generalizing c with
  | nil => exact ⟨c.queue, c.holder, rfl, fun _ h => h, fun _ h => h⟩
  | cons r rs ih =>
    obtain ⟨q, h, hc, hq, hh⟩ := c.taking_extends ⟨.giveBack r, 4, .nobody⟩
    obtain ⟨q', h', hc', hq', hh'⟩ := ih (c.taking ⟨.giveBack r, 4, .nobody⟩)
    refine ⟨q', h', ?_, fun o ho => hq' o (by rw [hc]; exact hq o ho), fun x hx => hh' x (by rw [hc]; exact hh x hx)⟩
    exact hc'.trans (by rw [hc])

theorem foldl_asking_eq_returned (rs : List Return) {c : StoreControl} (hb : c.holdBack = false) :
    rs.foldl (fun k r => k.asking ⟨.giveBack r, 4, .nobody⟩) c = c.returned rs := by
  induction rs generalizing c with
  | nil => rfl
  | cons r rs ih =>
    have hone : c.asking ⟨.giveBack r, 4, .nobody⟩ = c.taking ⟨.giveBack r, 4, .nobody⟩ := by
      simp [StoreControl.asking, hb]
    obtain ⟨q, h, hc, -, -⟩ := c.taking_extends ⟨.giveBack r, 4, .nobody⟩
    rw [List.foldl_cons, hone, ih (by rw [hc]; exact hb)]
    rfl

theorem checkpointStands_returned (rs : List Return) {c : StoreControl}
    (h : c.checkpointWaits = true ∨ c.checkpointHeld = true) :
    (c.returned rs).checkpointWaits = true ∨ (c.returned rs).checkpointHeld = true := by
  obtain ⟨q, x, hc, hq, hx⟩ := c.returned_extends rs
  rw [hc]
  refine h.imp (fun hw => ?_) (fun hh => ?_)
  · obtain ⟨o, ho, hcheck⟩ := List.any_eq_true.mp hw
    exact List.any_eq_true.mpr ⟨o, hq o ho, hcheck⟩
  · unfold StoreControl.checkpointHeld at hh ⊢
    cases hholder : c.holder with
    | none => simp [hholder] at hh
    | some y => rw [hholder] at hh; simp only [hx y hholder]; exact hh

/-- A write asked in Running with nothing held back, whatever the backlog. -/
theorem ask_running {op : StoreOp} {s : State} (hp : s.power = .running) (hf : s.store.freeing = false)
    (hb : s.store.holdBack = false) (hr : op.work.isRead = false) (hg : grantOp op s = takeArray op .nothing s) :
    ask op s = { s with store := s.store.taking op } := by
  have hl : leaveParked op s = s := leaveParked_of_not (.inl (by simp [hp]))
  cases hh : s.store.holder with
  | none => simp [ask, hl, hf, hb, hh, hg, takeArray, State.onStore, StoreControl.taking, hr]
  | some h => simp [ask, hl, hf, hh, hr, enqueue, State.onStore, StoreControl.taking]

/-- In Running with no flush, what follows an event is a trickle checkpoint at most. -/
theorem settle_running {s : State} (hp : (askTrickle s).power = .running) (hf : (askTrickle s).store.flush = false) :
    settle s = askTrickle s := by
  rw [settle, endFlush, hf, Bool.false_and, if_neg (by decide), parkOrRestart]
  simp [State.restartReady, State.parkReady, hp]

/-- An expiry of the period, at a backlog at which it makes nothing urgent and moves no hold (08 R160). -/
theorem periodExpiry_level {s : State}
    (h : s.store.backlog = 0 ∨ s.store.backlog = 3 ∧ (s.store.checkpointWaits = true ∨ s.store.checkpointHeld = true)) :
    periodExpiry s =
      { s with
        store :=
          { s.store with
            lastExpiry := s.clock.counter
            backlog :=
              if (s.store.anyDirty || s.store.checkpointWaits || s.store.checkpointHeld) = true then
                min (s.store.backlog + 1) 3
              else 0 } } := by
  have hlevel (v : Nat) (u : State) (hv : (u.store.backlog = 0 ∧ v < 3) ∨ (u.store.backlog = 3 ∧ v = 3)) :
      setBacklog v u = u.onStore fun c => { c with backlog := v } := by
    rw [setBacklog, if_neg (by simp only [Config.maxBacklog]; omega), if_neg (by simp only [Config.maxBacklog]; omega)]
  obtain ⟨t, ht⟩ : ∃ t : State, t = s.onStore fun c => { c with lastExpiry := s.clock.counter } := ⟨_, rfl⟩
  have hold : t.store.backlog = s.store.backlog := by rw [ht]; rfl
  have hstands : (t.store.anyDirty || t.store.checkpointWaits || t.store.checkpointHeld) =
      (s.store.anyDirty || s.store.checkpointWaits || s.store.checkpointHeld) := by rw [ht]; rfl
  rw [periodExpiry, ← ht, hstands]
  by_cases hwork : (s.store.anyDirty || s.store.checkpointWaits || s.store.checkpointHeld) = true
  · have htwo : ¬t.store.backlog = 2 := by omega
    simp only [if_pos hwork, if_neg htwo]
    rw [hlevel _ t (by simp only [Config.maxBacklog]; omega), ht]
    rfl
  · have hzero : s.store.backlog = 0 := by
      rcases h with h | ⟨-, h⟩
      · exact h
      · simp only [Bool.or_eq_true, not_or] at hwork
        rcases h with h | h
        · exact absurd h hwork.1.2
        · exact absurd h hwork.2
    simp only [if_neg hwork]
    rw [hlevel _ t (by omega), ht]
    rfl

/-- The level of the notice output is no matter to a notice written. -/
theorem NoticeArea.write_output (a : NoticeArea) (b : List Byte) (counter : Seconds) (o : Bool) :
    ({ a with output := o } : NoticeArea).write b counter = { a.write b counter with output := o } := by
  unfold NoticeArea.write
  dsimp only
  split <;> rfl

/-- Quotes discarded by a new lifetime (03 R56). -/
def expiredQuotes (a : TimerArgs) (t : Timers) (counter : Seconds) (ms : List MachineRecord) : List MachineRecord :=
  ms.map fun m =>
    m.openQuote.elim m fun q =>
      if a.lifetime ≠ none ∧ t.lifetime ≤ (counter - q.issued).toNat then { m with openQuote := none } else m

theorem expireQuotes_eq (a : TimerArgs) (s : State) :
    (if a.lifetime.isSome then expireQuotes s else s) =
      { s with machines := expiredQuotes a s.timers s.clock.counter s.machines } := by
  cases hl : a.lifetime with
  | none =>
    have hsame : expiredQuotes a s.timers s.clock.counter s.machines = s.machines := by
      unfold expiredQuotes
      refine (List.map_congr_left fun m _ => ?_).trans (List.map_id _)
      cases m.openQuote <;> simp [hl]
    rw [hsame]
    rfl
  | some v =>
    refine congrArg (fun ms => { s with machines := ms }) (List.map_congr_left fun m _ => ?_)
    cases m.openQuote with
    | none => rfl
    | some q =>
      have hcarried : a.lifetime ≠ none := by simp [hl]
      by_cases hexpired : s.timers.lifetime ≤ (s.clock.counter - q.issued).toNat
      · exact (if_pos (decide_eq_true hexpired)).trans (if_pos ⟨hcarried, hexpired⟩).symm
      · exact (if_neg fun h => hexpired (of_decide_eq_true h)).trans (if_neg fun h => hexpired h.2).symm

end Sys2Proof.Machine

/-! PROOFS. O55: SetTimers in calm and at a backlog of 3. -/

namespace Sys2Proof.Machine

/-- The next dirty group in circular order from the pointer on (08 R161). -/
theorem nextDirty_eq {c : StoreControl} {g : Nat} (hg : g < 8) (hp : c.pointer < 8) (hd : c.dirty.get g = true)
    (hnone : ∀ i < (g + 8 - c.pointer) % 8, c.dirty.get ((c.pointer + i) % 8) = false) : c.nextDirty = some g := by
  have hplace : (c.pointer + (g + 8 - c.pointer) % 8) % 8 = g := by omega
  have hfind : ((List.range 8).find? fun i => c.dirty.get ((c.pointer + i) % 8)) = some ((g + 8 - c.pointer) % 8) := by
    rw [List.find?_range_eq_some]
    refine ⟨by rw [hplace]; exact hd, List.mem_range.mpr (Nat.mod_lt _ (by decide)), fun j hj => ?_⟩
    rw [hnone j hj]
    rfl
  have hmap := List.find?_map (f := fun i => (c.pointer + i) % 8) (p := fun g => c.dirty.get g) (l := List.range 8)
  refine hmap.trans ?_
  rw [show ((fun g => c.dirty.get g) ∘ fun i => (c.pointer + i) % 8) = fun i => c.dirty.get ((c.pointer + i) % 8) from rfl,
    hfind, Option.map_some, hplace]

theorem trickleDue_eq_false {c : StoreControl} (h : c.backlog = 0 ∨ (∀ i < 8, c.dirty.get i = false) ∨
    c.checkpointWaits = true ∨ c.checkpointHeld = true ∨ ∃ o ∈ c.queue, o.cls ≤ 5) : c.trickleDue = false := by
  rcases h with h | h | h | h | ⟨o, ho, hc⟩
  · simp [StoreControl.trickleDue, h]
  · simp [StoreControl.trickleDue, (anyDirty_eq_false _).2 h]
  · simp [StoreControl.trickleDue, h]
  · simp [StoreControl.trickleDue, h]
  · have : (c.queue.any fun o => decide (o.cls ≤ 5)) = true := List.any_eq_true.2 ⟨o, ho, by simpa using hc⟩
    simp [StoreControl.trickleDue, this]

theorem trickleDue_of {c : StoreControl} {g : Nat} (hg : g < 8) (hd : c.dirty.get g = true) (hb : 0 < c.backlog)
    (hw : c.checkpointWaits = false) (hh : c.checkpointHeld = false) (hq : ∀ o ∈ c.queue, 5 < o.cls) :
    c.trickleDue = true := by
  have hdirty : c.anyDirty = true := by
    rw [← Bool.not_eq_false, anyDirty_eq_false]
    intro h
    rw [h g hg] at hd
    cases hd
  have hnone : (c.queue.any fun o => decide (o.cls ≤ 5)) = false := by
    rw [List.any_eq_false]
    intro o ho
    have := hq o ho
    simp only [decide_eq_true_eq]
    omega
  simp [StoreControl.trickleDue, hb, hdirty, hw, hh, hnone]

/-- A trickle checkpoint asked behind an operation that holds the array waits last (08 R161). -/
theorem askTrickle_behind {s : State} {g : Nat} {h : Holder} (hp : s.power = .running) (hf : s.store.freeing = false)
    (hh : s.store.holder = some h) (hdue : s.store.trickleDue = true) (hnext : s.store.nextDirty = some g) :
    askTrickle s =
      { s with store := { s.store with queue := s.store.queue ++ [⟨.checkpoint g, 6, .nobody⟩] } } := by
  have hl : leaveParked ⟨.checkpoint g, 6, .nobody⟩ s = s := leaveParked_of_not (.inl (by simp [hp]))
  simp [askTrickle, hp, PowerState.listens, hdue, hnext, askCheckpoint, ask, hl, hf, hh, StoreWork.isRead, enqueue,
    State.onStore]

theorem StoreControl.taking_holder {c : StoreControl} (hf : c.freeing = false) (op : StoreOp) :
    ∃ h, (c.taking op).holder = some h := by
  unfold StoreControl.taking
  rw [hf]
  cases hh : c.holder with
  | none => exact ⟨_, rfl⟩
  | some h => exact ⟨h, rfl⟩

/-- A hold past its limit ends, its waiting returns passed to the store (04 R80). -/
theorem timeOutHold_steady {s : State} (h : s.steady) (hb : s.store.holdBack = false) (hover : s.holdOverdue = true) :
    timeOutHold s =
      notify holdEndedNotice
        { s with permits := ⟨.free, none, []⟩, store := s.store.returned s.permits.waitingReturns } := by
  rw [timeOutHold, if_pos hover, (endHold_steady h).1, holdFreed, foldl_asking_eq_returned _ hb]

/-- The store controller once a period that has run out under its new length counts as expired (08 R160). -/
def StoreControl.counted (c : StoreControl) (a : TimerArgs) (period : Nat) (counter : Seconds) : StoreControl :=
  if a.period ≠ none ∧ period ≤ (counter - c.lastExpiry).toNat then
    { c with
      lastExpiry := counter
      backlog :=
        if (c.anyDirty || c.checkpointWaits || c.checkpointHeld) = true then min (c.backlog + 1) 3 else 0 }
  else c

/-- A period already run out counts as its expiry at once (10 R187). -/
def countPeriod (a : TimerArgs) (s : State) : State := if a.period.isSome && s.periodOver then periodExpiry s else s

theorem countPeriod_eq (a : TimerArgs) {s : State} (hp : s.power = .running)
    (h : s.store.backlog = 0 ∨ s.store.backlog = 3 ∧ (s.store.checkpointWaits = true ∨ s.store.checkpointHeld = true)) :
    countPeriod a s = { s with store := s.store.counted a s.timers.period s.clock.counter } := by
  have hover : (a.period.isSome && s.periodOver) = true ↔
      a.period ≠ none ∧ s.timers.period ≤ (s.clock.counter - s.store.lastExpiry).toNat := by
    simp only [State.periodOver, hp, PowerState.listens, Bool.true_and, Bool.and_eq_true, Option.isSome_iff_ne_none,
      decide_eq_true_eq]
    rfl
  by_cases hx : a.period ≠ none ∧ s.timers.period ≤ (s.clock.counter - s.store.lastExpiry).toNat
  · rw [countPeriod, if_pos (hover.mpr hx), periodExpiry_level h, StoreControl.counted, if_pos hx]
  · rw [countPeriod, if_neg fun h => hx (hover.mp h), StoreControl.counted, if_neg hx]

theorem holdOverdue_closed {s : State} (h : s.holdOverdue = true) :
    s.permits.hold.closed = true ∧ ∃ start, s.permits.holdStart = some start := by
  simp only [State.holdOverdue, Bool.and_eq_true] at h
  obtain ⟨hc, hs⟩ := h
  refine ⟨hc, ?_⟩
  cases hstart : s.permits.holdStart with
  | none => rw [hstart] at hs; cases hs
  | some start => exact ⟨start, rfl⟩

/-- What calm and a backlog of 3 have in common: Running, nothing held back, and no expiry makes anything urgent. -/
def State.plain (s : State) : Prop :=
  s.power = .running ∧ s.store.freeing = false ∧ s.store.flush = false ∧ s.store.holdBack = false ∧
    (s.store.backlog = 0 ∨ s.store.backlog = 3 ∧ (s.store.checkpointWaits = true ∨ s.store.checkpointHeld = true))

theorem plain_of_calm {s : State} (h : s.calm = true) : s.plain := by
  obtain ⟨hp, hb, hf, hh, hfr⟩ := s.calm_iff.mp h
  exact ⟨hp, hfr, hf, hh, .inl hb⟩

theorem plain_of_backlogged {s : State} (h : s.backlogged = true) : s.plain := by
  simp only [State.backlogged, Bool.and_eq_true, beq_iff_eq, Bool.not_eq_true', Bool.or_eq_true] at h
  obtain ⟨⟨⟨⟨⟨hp, hb⟩, hc⟩, hf⟩, hh⟩, hfr⟩ := h
  exact ⟨hp, hfr, hf, hh, .inr ⟨hb, hc⟩⟩

/-- The end of a SetTimers: its class-5 write is asked, PENDING answered, and a trickle checkpoint asked behind it. -/
theorem takenTimers_eq (a : TimerArgs) {s : State} {k : StoreControl} (hp : s.power = .running)
    (hf : s.store.freeing = false) (hfl : s.store.flush = false) (hb : s.store.holdBack = false)
    (hk : k = s.store.taking ⟨.table (.timers a), 5, .cabinet⟩) :
    ((k.backlog = 0 ∨ (∀ i < 8, k.dirty.get i = false) ∨ k.checkpointWaits = true ∨ k.checkpointHeld = true ∨
        ∃ o ∈ k.queue, o.cls ≤ 5) →
      takenTable (.timers a) s = answerPending { s with store := k }) ∧
    ∀ g : Nat, g < 8 → k.dirty.get g = true → 0 < k.backlog → k.pointer < 8 →
      (∀ i < (g + 8 - k.pointer) % 8, k.dirty.get ((k.pointer + i) % 8) = false) →
      k.checkpointWaits = false → k.checkpointHeld = false → (∀ o ∈ k.queue, 5 < o.cls) →
        takenTable (.timers a) s =
          answerPending { s with store := { k with queue := k.queue ++ [⟨.checkpoint g, 6, .nobody⟩] } } := by
  have hasked : takenTable (.timers a) s = settle (answerPending { s with store := k }) := by
    rw [takenTable, askTable, ask_running hp hf hb rfl rfl, hk]
  obtain ⟨q, x, he, -, -⟩ := s.store.taking_extends ⟨.table (.timers a), 5, .cabinet⟩
  have hkf : k.freeing = false := by rw [hk, he]; exact hf
  have hkfl : k.flush = false := by rw [hk, he]; exact hfl
  refine ⟨fun hquiet => ?_, fun g hg hd hpos hptr hnone hw hh hq => ?_⟩
  · have htrickle : askTrickle (answerPending { s with store := k }) = answerPending { s with store := k } :=
      if_neg (by simp [answerPending, trickleDue_eq_false hquiet])
    rw [hasked, settle_running (by rw [htrickle]; exact hp) (by rw [htrickle]; exact hkfl), htrickle]
  · obtain ⟨h, hh'⟩ := StoreControl.taking_holder hf ⟨.table (.timers a), 5, .cabinet⟩
    have htrickle := askTrickle_behind (s := answerPending { s with store := k }) hp hkf (by rw [hk]; exact hh')
      (trickleDue_of hg hd hpos hw hh hq) (nextDirty_eq hg hptr hd hnone)
    rw [hasked, settle_running (by rw [htrickle]; exact hp) (by rw [htrickle]; exact hkfl), htrickle]
    rfl

theorem exists_dirty_iff (c : StoreControl) : (∃ i ∈ List.range 8, c.dirty.get i = true) ↔ c.anyDirty = true := by
  rw [← Bool.not_eq_false, anyDirty_eq_false]
  simp

/-- Settles O55. -/
theorem setTimersTakesEffectAtOnce : Obligations.SetTimersTakesEffectAtOnce := by
  intro s a new hready hnew sound hsound
  have hnew' : new = s.timers.set a := hnew
  have hexec : exec (.setTimers a) s = .next (setTimers a s.atCommand) :=
    congrArg Host.Outcome.next (command_atCommand hready _)
  have hcheck : timersSound s.timers a = true ↔ sound := by
    rw [timersSound_iff, hsound, ← hnew']
  refine ⟨fun hno => ?_, fun hyes hmode overdue quiet u counted k hoverdue hquiet hu hu' hcounted hk => ?_⟩
  · have hfalse : timersSound s.timers a = false := Bool.eq_false_iff.mpr fun h => hno (hcheck.mp h)
    rw [hexec]
    exact congrArg Host.Outcome.next (if_pos hfalse)
  have hset : setTimers a s.atCommand = takenTable (.timers a) (applyTimers a { s.atCommand with timers := new }) := by
    rw [hnew']
    exact if_neg (show ¬timersSound s.timers a = false by rw [hcheck.mpr hyes]; decide)
  have hsteady : s.steady := hmode.elim State.steady_of_calm State.steady_of_backlogged
  obtain ⟨hp, hf, hfl, hb, hlevel⟩ := hmode.elim plain_of_calm plain_of_backlogged
  obtain ⟨v, hv⟩ : ∃ v : State, v = { s.atCommand with
      timers := new, machines := expiredQuotes a new s.clock.counter s.machines } := ⟨_, rfl⟩
  have hvp : v.power = .running := by rw [hv]; exact hp
  have hvs : v.store = s.store := by rw [hv]
  have happly : applyTimers a { s.atCommand with timers := new } =
      decideOutput (countPeriod a (if a.holdLimit.isSome then timeOutHold v else v)) := by
    rw [hv, ← expireQuotes_eq a { s.atCommand with timers := new }]
    rfl
  have hmachines : expiredQuotes a new s.clock.counter s.machines = quiet.machines := by
    rw [hquiet]
    refine List.map_congr_left fun m _ => ?_
    cases m.openQuote <;> rfl
  have hover : overdue ↔ a.holdLimit.isSome = true ∧ v.holdOverdue = true := by
    rw [hoverdue, Option.isSome_iff_ne_none]
    refine and_congr_right fun _ => ⟨fun ⟨hc, start, hs, hrun⟩ => ?_, fun h => ?_⟩
    · exact (holdOverdue_iff (s := v) (by rw [hv]; exact hc) (by rw [hv]; exact hs)).mpr (by rw [hv]; exact hrun)
    · obtain ⟨hc, start, hs⟩ := holdOverdue_closed h
      have hrun := (holdOverdue_iff ((closed_eq_true_iff _).mp hc) hs).mp h
      rw [hv] at hc hs hrun
      exact ⟨(closed_eq_true_iff _).mp hc, start, hs, hrun⟩
  suffices hhold : ∃ w : State, (if a.holdLimit.isSome then timeOutHold v else v) = w ∧
      answerPending (decideOutput w) = u ∧ w.power = .running ∧ w.timers = new ∧ w.clock = s.clock ∧
      (∃ q h, w.store = { s.store with queue := q, holder := h }) ∧ (w.store.backlog = 0 ∨
        w.store.backlog = 3 ∧ (w.store.checkpointWaits = true ∨ w.store.checkpointHeld = true)) by
    obtain ⟨w, hw, hwu, hwp, hwt, hwc, ⟨q, h, hws⟩, hwl⟩ := hhold
    have hus : u.store = w.store := by rw [← hwu]; rfl
    have hperiod : countPeriod a w = { w with store := counted } := by
      rw [countPeriod_eq a hwp hwl, hcounted, hus, hwt, hwc, StoreControl.counted, hws]
      simp only [Bool.or_eq_true, exists_dirty_iff, or_assoc]
      rfl
    obtain ⟨b, e, hcount⟩ : ∃ b e, counted = { w.store with backlog := b, lastExpiry := e } := by
      rw [hcounted, hus]
      split
      · exact ⟨_, _, rfl⟩
      · exact ⟨_, _, rfl⟩
    have htaken : exec (.setTimers a) s = .next (takenTable (.timers a) (decideOutput { w with store := counted })) := by
      rw [hexec, hset, happly, hw, hperiod]
    have hend (c : StoreControl) :
        answerPending { decideOutput { w with store := counted } with store := c } = { u with store := c } := by
      rw [← hwu]; rfl
    obtain ⟨hquietly, hdue⟩ := takenTimers_eq a (s := decideOutput { w with store := counted }) (k := k) hwp
      (by rw [decideOutput_store, hcount, hws]; exact hf) (by rw [decideOutput_store, hcount, hws]; exact hfl)
      (by rw [decideOutput_store, hcount, hws]; exact hb) hk
    refine ⟨fun h => ?_, fun g hg hd hpos hptr hnone hw hh hq => ?_⟩
    · rw [htaken, hquietly h, hend]
    · rw [htaken, hdue g hg hd hpos hptr hnone hw hh hq, hend]
  by_cases ho : overdue
  · obtain ⟨hcarried, hheld⟩ := hover.mp ho
    obtain ⟨q, h, hr, -, -⟩ := s.store.returned_extends s.permits.waitingReturns
    have hwaiting : v.permits.waitingReturns = s.permits.waitingReturns := by rw [hv]
    refine ⟨_, (if_pos hcarried).trans (timeOutHold_steady (steady_congr hsteady (hvp.trans hp.symm) hvs)
      (by rw [hvs]; exact hb) hheld), ?_, hvp, by rw [hv]; rfl, by rw [hv]; rfl, ⟨q, h, ?_⟩, ?_⟩
    · have hnotices : (notify holdEndedNotice quiet).notices =
          { s.notices.write holdEndedNotice s.clock.counter with
            output := noticeLevel (s.notices.write holdEndedNotice s.clock.counter) new s.clock.counter } := by
        rw [hquiet]
        exact congrArg (fun n : NoticeArea => { n with output := noticeLevel n new s.clock.counter })
          (NoticeArea.write_output s.notices holdEndedNotice s.clock.counter _)
      rw [hu' ho, hnotices, hv, hmachines, hquiet]
      rfl
    · show v.store.returned v.permits.waitingReturns = _
      rw [hvs, hwaiting, hr]
    · show (v.store.returned v.permits.waitingReturns).backlog = 0 ∨ (v.store.returned v.permits.waitingReturns).backlog = 3 ∧ _
      rw [hvs, hwaiting]
      have hback : (s.store.returned s.permits.waitingReturns).backlog = s.store.backlog := by rw [hr]
      rw [hback]
      exact hlevel.imp_right fun ⟨h3, hc⟩ => ⟨h3, checkpointStands_returned _ hc⟩
  · refine ⟨v, ?_, ?_, hvp, by rw [hv], by rw [hv], ⟨s.store.queue, s.store.holder, hvs⟩, by rw [hvs]; exact hlevel⟩
    · by_cases hcarried : a.holdLimit.isSome = true
      · rw [if_pos hcarried, timeOutHold, if_neg fun h => ho (hover.mpr ⟨hcarried, h⟩)]
      · rw [if_neg hcarried]
    · rw [hu ho, hv, hmachines, hquiet]
      rfl

end Sys2Proof.Machine

/-! PROOFS. Downlinks, refusal notes, and the bytes of the frames sent (07, sections 7.2 to 7.4; 12, section 12.2). -/

namespace Sys2Proof.Machine

section
variable {s : State} {line : LineId} {slot : Nat}

/-- A frame sent in a downlink phase, which is then over (07 R125). -/
theorem passPhase_sendLine (line : LineId) (frame : LineSent) (s : State) :
    passPhase line (sendLine line frame s) =
      s.onLine line fun l => { l with phase := l.phase + 1, heard := .nothing, sent := frame } := by
  cases line <;> rfl

theorem exec_downlink_slot (h : s.stands line (2 * slot + 1)) (hslot : slot ≠ 0) :
    exec (.downlinkPhase line slot) s = .next (passPhase line (slotDownlink line slot s)) :=
  congrArg Host.Outcome.next ((inPhase_stands h _).trans (congrArg (passPhase line) (if_neg hslot)))

theorem exec_downlink_call (h : s.stands line 1) :
    exec (.downlinkPhase line 0) s = .next (passPhase line (sendLine line (callFrame (s.line line).heard) s)) :=
  congrArg Host.Outcome.next ((inPhase_stands h _).trans (congrArg (passPhase line) (if_pos rfl)))

/-- The machine that a Leave in the window has released (07 R139). -/
def State.leaver? (s : State) (line : LineId) (slot : Nat) : Option MachineRecord :=
  match (s.line line).heard with
  | .left gone n => if gone = slot then s.machine? n else none
  | _ => none

theorem leaver?_left {n : Nat} (h : (s.line line).heard = .left slot n) : s.leaver? line slot = s.machine? n := by
  simp only [State.leaver?, h, if_true]

theorem leaver?_none (h : ∀ n, (s.line line).heard ≠ .left slot n) : s.leaver? line slot = none := by
  unfold State.leaver?
  split
  next gone n hheard =>
    rw [if_neg]
    rintro rfl
    exact h n hheard
  · rfl

/-- What a slot's downlink sends, by the machine that has left and the machine that holds the slot (07 R131, R139). -/
def slotSends (line : LineId) (slot : Nat) (leaver holder : Option MachineRecord) (s : State) : State :=
  match leaver, holder with
  | some m, _ => sendLine line (.slot m.service Code.left.plain none) s
  | none, some m =>
    match m.link with
    | .active _ =>
      sendLine line (.slot m.service m.downlinkAnswer ((s.line line).heard.noteFor slot))
        (s.onMachine m.number MachineRecord.answered)
    | _ => sendLine line .nothing s
  | none, none => sendLine line .nothing s

theorem slotDownlink_eq (line : LineId) (slot : Nat) (s : State) :
    slotDownlink line slot s = slotSends line slot (s.leaver? line slot) (s.holder? line slot) s := rfl

theorem slotDownlink_left {m : MachineRecord} (h : s.leaver? line slot = some m) :
    slotDownlink line slot s = sendLine line (.slot m.service Code.left.plain none) s := by
  rw [slotDownlink_eq, h]
  rfl

theorem slotDownlink_active {m : MachineRecord} {f : LinkFields} (h : s.leaver? line slot = none)
    (hm : s.holder? line slot = some m) (hf : m.link = .active f) :
    slotDownlink line slot s =
      sendLine line (.slot m.service m.downlinkAnswer ((s.line line).heard.noteFor slot))
        (s.onMachine m.number MachineRecord.answered) := by
  rw [slotDownlink_eq, h, hm]
  simp only [slotSends, hf]

theorem slotDownlink_silent (h : s.leaver? line slot = none)
    (hm : ∀ m f, s.holder? line slot = some m → m.link ≠ .active f) :
    slotDownlink line slot s = sendLine line .nothing s := by
  rw [slotDownlink_eq, h]
  cases hholder : s.holder? line slot with
  | none => rfl
  | some m =>
    cases hf : m.link with
    | active f => exact absurd hf (hm m f hholder)
    | absent => simp only [slotSends, hf]
    | silent f => simp only [slotSends, hf]

theorem noteFor_eq {h : Heard} {note : Option (RequestKind × Code)}
    (hnote : ∀ kind code, note = some (kind, code) ↔ h = .note slot kind code) : h.noteFor slot = note := by
  cases hn : note with
  | some x =>
    obtain ⟨kind, code⟩ := x
    rw [(hnote kind code).mp hn]
    exact if_pos rfl
  | none =>
    cases h with
    | note noted kind code =>
      refine if_neg fun heq => ?_
      rw [heq] at hnote
      exact absurd ((hnote kind code).mpr rfl) (by simp [hn])
    | _ => rfl

/-- A downlink that sends no reply leaves the machine as it was. -/
theorem answered_eq_self (hnodup : (s.machines.map MachineRecord.number).Nodup) {m : MachineRecord} (hm : m ∈ s.machines)
    (hkeeps : m.answered = m) : s.onMachine m.number MachineRecord.answered = s := by
  refine onMachine_eq_self fun x hx hn => ?_
  have hsame : x = m := List.inj_on_of_nodup_map hnodup hx hm hn
  rw [hsame, hkeeps]

/-- A request that is not opened, heard as a valid uplink (07 R129, R132). -/
theorem request_noted {m : MachineRecord} {fl : LinkFields} {kind : RequestKind} {code : Code} (h : s.hears line slot m fl)
    (hcode : code = .busy ∧ m.request ≠ none ∨
      code = .wait ∧ m.request = none ∧ s.power = .flushing ∧ kind ≠ .quoteRequest)
    (body : MachineRecord → Nat → State → State) :
    request line slot m.number kind body s = setHeard line (.note slot kind code) (s.heardFrom line m.number fl) := by
  have hp : (s.heardFrom line m.number fl).power = s.power := passPhase_power line _
  rw [request, validUplink_hears h]
  rcases hcode with ⟨rfl, hr⟩ | ⟨rfl, hr, hflush, hkind⟩
  · exact if_pos (Option.isSome_iff_ne_none.mpr hr)
  · have hwaits : kind.waits = true := by
      cases kind with
      | quoteRequest => exact absurd rfl hkind
      | _ => rfl
    refine (if_neg ?_).trans (if_pos ⟨hp.trans hflush, hwaits⟩)
    simp [hr]

end

/-- Settles O49. -/
theorem downlinksCarryAnswersAndNotes : Obligations.DownlinksCarryAnswersAndNotes := by
  refine ⟨fun q unverified clamped minApplied stop => ⟨?_, ?_⟩, fun validUntil unverified => ?_, fun token serial => rfl,
    fun cause => ?_, fun unstated removal insertion r i hr hi => ?_, fun service answer note => ?_,
    fun n slot code => ⟨rfl, rfl⟩, fun t n => ⟨rfl, rfl⟩, rfl, fun s line => ⟨fun slot m fl c kind code h hc hcode => ?_,
    fun hnodup send hsend => ?_⟩⟩
  · rw [quotedAnswer]
    cases q.price <;> cases stop <;> rfl
  · simp [quotedAnswer]
  · cases unverified <;> rfl
  · cases cause <;> rfl
  · subst hr hi
    rcases removal with _ | n | _ | _ <;> rcases insertion with _ | _ | _ <;> rfl
  · rcases note with _ | ⟨kind, code⟩
    · cases service <;> simp only [LineSent.bytes, LineSent.contents, List.append_assoc] <;> rfl
    · cases service <;> cases kind <;> simp only [LineSent.bytes, LineSent.contents, List.append_assoc] <;> rfl
  · rcases hc with ⟨f, hf, rfl, rfl⟩ | ⟨f, hf, rfl, rfl⟩ | ⟨rfl, rfl⟩ | ⟨box, rfl, rfl⟩
    · refine congrArg Host.Outcome.next ?_
      rw [hf]
      exact request_noted h hcode _
    · refine congrArg Host.Outcome.next ?_
      rw [hf]
      exact request_noted h hcode _
    · exact congrArg Host.Outcome.next (request_noted h hcode _)
    · exact congrArg Host.Outcome.next (request_noted h hcode _)
  have hsent (frame : LineSent) (t : State) : passPhase line (sendLine line frame t) = send frame t := by
    rw [hsend, passPhase_sendLine]
  refine ⟨fun slot m f hslot hstands hm hf hleft note hnote => ?_, fun slot n m hslot hstands hleft hm => ?_,
    fun slot hslot hstands hm hleft => ?_, fun n slot hstands hheard => ?_, fun n code hstands hheard => ?_,
    fun hstands hjoined hrefused => ?_, fun slot n hslot hstands hleft hm hholder => ?_⟩
  · have hmem : m ∈ s.machines := List.mem_of_find?_eq_some hm
    have hdown : exec (.downlinkPhase line slot) s =
        .next (send (.slot m.service m.downlinkAnswer note) (s.onMachine m.number MachineRecord.answered)) := by
      rw [exec_downlink_slot hstands hslot, slotDownlink_active (leaver?_none hleft) hm hf, noteFor_eq hnote, hsent]
    refine ⟨fun hr => ?_, fun r hr ha => ?_, fun r a hr ha => ?_⟩
    · rw [hdown, answered_eq_self hnodup hmem (by simp [MachineRecord.answered, hr])]
      simp only [MachineRecord.downlinkAnswer, hr]
    · rw [hdown, answered_eq_self hnodup hmem (by simp [MachineRecord.answered, hr, ha])]
      simp only [MachineRecord.downlinkAnswer, hr, ha, Option.getD_none]
    · have hanswered : s.onMachine m.number MachineRecord.answered =
          s.onMachine m.number fun x => { x with request := none } := by
        refine onMachine_congr fun x hx hn => ?_
        have hsame : x = m := List.inj_on_of_nodup_map hnodup hx hmem hn
        simp [hsame, MachineRecord.answered, hr, ha]
      rw [hdown, hanswered]
      simp only [MachineRecord.downlinkAnswer, hr, ha, Option.getD_some]
  · rw [exec_downlink_slot hstands hslot, slotDownlink_left ((leaver?_left hleft).trans hm), hsent]
  · rw [exec_downlink_slot hstands hslot, slotDownlink_silent (leaver?_none hleft) hm, hsent]
  · rw [exec_downlink_call hstands, hheard, callFrame, hsent]
  · rw [exec_downlink_call hstands, hheard, callFrame, hsent]
  · have hframe : callFrame (s.line line).heard = .nothing := by
      cases hheard : (s.line line).heard with
      | joined n slot => exact absurd hheard (hjoined n slot)
      | joinRefused n code => exact absurd hheard (hrefused n code)
      | _ => rfl
    rw [exec_downlink_call hstands, hframe, hsent]
  · rw [exec_downlink_slot hstands hslot,
      slotDownlink_silent ((leaver?_left hleft).trans hm) (by simp [hholder]), hsent]

end Sys2Proof.Machine

/-! PROOFS. Leave, silence, Silent machines heard, and the order of the phases of a cycle (07, sections 7.1 to 7.3). -/

namespace Sys2Proof.Machine

/-! ## A slot's holder through a change of it -/

/-- A machine holds a slot of a line. -/
def MachineRecord.holdsSlot (m : MachineRecord) (line : LineId) (slot : Nat) : Bool :=
  match m.link.fields? with
  | some f => f.line == line && f.slot == slot
  | none => false

theorem holder?_eq (s : State) (line : LineId) (slot : Nat) :
    s.holder? line slot = s.machines.find? fun m => m.holdsSlot line slot := rfl

theorem holdsSlot_of_holder? {s : State} {line : LineId} {slot : Nat} {m : MachineRecord}
    (h : s.holder? line slot = some m) : m.holdsSlot line slot = true :=
  List.find?_some (p := fun m : MachineRecord => m.holdsSlot line slot) h

/-- The holder of a slot, changed in a way that leaves it the slot, holds it. -/
theorem holder?_onMachine {s : State} {line : LineId} {slot : Nat} {m : MachineRecord} {g : MachineRecord → MachineRecord}
    (hh : s.holder? line slot = some m) (hm : s.machine? m.number = some m) (hg : (g m).holdsSlot line slot = true) :
    (s.onMachine m.number g).holder? line slot = some (g m) := by
  rw [holder?_eq] at hh ⊢
  unfold State.machine? at hm
  unfold State.onMachine
  revert hh hm
  dsimp only
  induction s.machines with
  | nil => exact fun h _ => nomatch h
  | cons x rest ih =>
    intro hh hm
    rw [List.find?_cons] at hh hm
    rw [List.map_cons, List.find?_cons]
    by_cases hn : x.number = m.number
    · have hx : x = m := by simpa [hn] using hm
      rw [if_pos hn, hx, hg]
    · have hplace : x.holdsSlot line slot = false := by
        rw [Bool.eq_false_iff]
        intro h
        rw [h] at hh
        exact hn (congrArg MachineRecord.number (Option.some.inj hh))
      rw [hplace] at hh
      rw [if_neg hn, hplace]
      rw [beq_eq_false_iff_ne.mpr hn] at hm
      exact ih hh hm

/-- A fault cleared leaves the holder its slot. -/
theorem clearFault_holder? {s : State} {line : LineId} {slot : Nat} {m : MachineRecord} (k : FaultKind) (c : ClearCause)
    (hh : s.holder? line slot = some m) (hm : s.machine? m.number = some m) :
    ∃ m', (clearFault m.number k c s).holder? line slot = some m' ∧
      (clearFault m.number k c s).machine? m.number = some m' ∧ m'.number = m.number ∧ m'.link = m.link := by
  cases ha : m.faults.active k with
  | false =>
    rw [clearFault_inactive hm ha]
    exact ⟨m, hh, hm, rfl, rfl⟩
  | true =>
    refine ⟨m.cleared k s.now, ?_, machine?_clearFault hm ha c, rfl, rfl⟩
    rw [clearFault_active hm ha]
    exact holder?_onMachine hh hm (show m.holdsSlot line slot = true from holdsSlot_of_holder? hh)

/-- A fault cleared leaves every machine its number and its link. -/
theorem clearFault_links {n : Nat} {k : FaultKind} {c : ClearCause} {s : State} {x : MachineRecord}
    (hx : x ∈ (clearFault n k c s).machines) : ∃ y ∈ s.machines, x.number = y.number ∧ x.link = y.link := by
  cases hm : s.machine? n with
  | none =>
    simp only [clearFault, hm] at hx
    exact ⟨x, hx, rfl, rfl⟩
  | some m =>
    cases ha : m.faults.active k with
    | false =>
      rw [clearFault_inactive hm ha] at hx
      exact ⟨x, hx, rfl, rfl⟩
    | true =>
      rw [clearFault_active hm ha] at hx
      obtain ⟨y, hy, rfl⟩ := List.mem_map.mp hx
      refine ⟨y, hy, ?_⟩
      split <;> exact ⟨rfl, rfl⟩

theorem passPhase_clearFault (line : LineId) (n : Nat) (k : FaultKind) (c : ClearCause) (s : State) :
    clearFault n k c (passPhase line s) = passPhase line (clearFault n k c s) := by
  cases hm : s.machine? n with
  | none => simp only [clearFault, machine?_passPhase, hm]
  | some m =>
    have hm' : (passPhase line s).machine? n = some m := (machine?_passPhase line n s).trans hm
    cases ha : m.faults.active k with
    | false => rw [clearFault_inactive hm ha, clearFault_inactive hm' ha]
    | true =>
      rw [clearFault_active hm ha, clearFault_active hm' ha]
      cases line <;> rfl

theorem clearFault_line (line : LineId) (n : Nat) (k : FaultKind) (c : ClearCause) (s : State) :
    (clearFault n k c s).line line = s.line line := by
  unfold clearFault
  split
  · rfl
  · dsimp only
    split
    · cases line <;> rfl
    · rfl

/-! ## A frame from a Silent machine (07 R137) -/

/-- Every frame heard in a slot's window is taken as a valid uplink (07 R128). -/
theorem exec_heardIn {c : Instr} {line : LineId} {slot n : Nat} (h : heardIn c = some (line, slot, n)) :
    ∃ body, ∀ s, exec c s = .next (validUplink line slot n body s) := by
  cases c with
  | leave | statusFrame | quoteRequest | saleCommit | boxRemoved | boxInserted =>
    cases h
    exact ⟨_, fun _ => rfl⟩
  | _ => cases h

/-- A Silent machine heard is one made Active and its SILENT cleared, and then heard. -/
theorem validUplink_silent {s : State} {line : LineId} {slot : Nat} {m : MachineRecord} {f : LinkFields}
    (hstands : s.stands line (uplinkOf slot)) (hholder : s.holder? line slot = some m)
    (hmachine : s.machine? m.number = some m) (hf : m.link = .silent f) (body : MachineRecord → State → State) :
    validUplink line slot m.number body s =
      validUplink line slot m.number body (clearFault m.number .silent .heard
        (s.onMachine m.number fun x => { x with link := .active { f with silence := 0 } })) := by
  obtain ⟨t, ht⟩ : ∃ t, t = clearFault m.number .silent .heard
      (s.onMachine m.number fun x => { x with link := .active { f with silence := 0 } }) := ⟨_, rfl⟩
  have hslot : m.holdsSlot line slot = true :=
    holdsSlot_of_holder? hholder
  have hactive : ({ m with link := .active { f with silence := 0 } } : MachineRecord).holdsSlot line slot = true := by
    simpa [MachineRecord.holdsSlot, hf, Link.fields?] using hslot
  have hmarked : (s.onMachine m.number fun x => { x with link := .active { f with silence := 0 } }).machine? m.number =
      some { m with link := .active { f with silence := 0 } } := by
    rw [machine?_onMachine_same (by intro; rfl), hmachine]
    rfl
  obtain ⟨m', hh', hm', hn', hl'⟩ := clearFault_holder? (m := { m with link := .active { f with silence := 0 } })
    .silent .heard (holder?_onMachine hholder hmachine hactive) hmarked
  replace hh' : t.holder? line slot = some m' := by rw [ht]; exact hh'
  replace hm' : t.machine? m.number = some m' := by rw [ht]; exact hm'
  have hheard : hearMachine m.number (passPhase line s) = passPhase line t := by
    rw [hearMachine, machine?_passPhase, hmachine]
    simp only [Option.map_some, hf]
    rw [← passPhase_onMachine, passPhase_clearFault, ht]
  have hstands' : t.stands line (uplinkOf slot) := by
    have hline : t.line line = s.line line := by
      rw [ht, clearFault_line]
      cases line <;> rfl
    unfold State.stands at hstands ⊢
    rw [hline]
    exact hstands
  have hheard' : hearMachine m.number (passPhase line t) = passPhase line t := by
    rw [hearMachine, machine?_passPhase, hm']
    simp only [Option.map_some, hl']
    refine onMachine_eq_self fun x hx hn => ?_
    rw [passPhase_machines, ht] at hx
    obtain ⟨y, hy, hyn, hyl⟩ := clearFault_links hx
    obtain ⟨z, -, rfl⟩ := List.mem_map.mp hy
    have hlink : x.link = .active { f with silence := 0 } := by
      rw [hyl]
      split
      · rfl
      next hz =>
        rw [if_neg hz] at hyn
        exact absurd (hyn.symm.trans hn) hz
    rw [← hlink]
  have hagain : (passPhase line t).machine? m.number = some m' := (machine?_passPhase line _ t).trans hm'
  rw [← ht, validUplink, validUplink, inPhase_stands hstands, inPhase_stands hstands', hholder, hh']
  simp only [if_true, hn', hheard, hheard', hagain]

end Sys2Proof.Machine

/-! PROOFS. O48: the phases in which nothing is heard and their order. -/

namespace Sys2Proof.Machine

/-! ## A phase in which nothing is heard (07 R128, R135, R136) -/

section
variable {s : State} {line : LineId} {slot : Nat} {m : MachineRecord} {f : LinkFields}

theorem unheardPhase_holder (h : s.holder? line slot = some m) :
    unheardPhase line slot s = unheard m.number (passPhase line s) := by
  rw [unheardPhase, holder?_passPhase, h]

theorem unheard_active (hm : s.machine? m.number = some m) (hf : m.link = .active f) :
    unheard m.number s =
      if s.timers.silence ≤ f.silence + 1 then
        raiseFault m.number .silent (s.onMachine m.number fun x =>
          { x with link := .silent { f with silence := f.silence + 1 }, request := none, openQuote := none })
      else s.onMachine m.number fun x => { x with link := .active { f with silence := f.silence + 1 } } := by
  rw [unheard, hm]
  simp only [Option.map_some, hf]
  rfl

theorem unheard_silent (hm : s.machine? m.number = some m) (hf : m.link = .silent f) :
    unheard m.number s =
      if s.timers.release ≤ f.silence + 1 then
        s.onMachine m.number fun x => { x with link := .absent, request := none, openQuote := none }
      else s.onMachine m.number fun x => { x with link := .silent { f with silence := f.silence + 1 } } := by
  rw [unheard, hm]
  simp only [Option.map_some, hf]
  rfl

theorem goesSilent_active (h : s.holder? line slot = some m) (hf : m.link = .active f) :
    s.goesSilent line slot = decide (s.timers.silence ≤ f.silence + 1) := by
  simp only [State.goesSilent, h, Option.map_some, hf]

theorem goesSilent_silent (h : s.holder? line slot = some m) (hf : m.link = .silent f) : s.goesSilent line slot = false := by
  simp only [State.goesSilent, h, Option.map_some, hf]

theorem goesAbsent_silent (h : s.holder? line slot = some m) (hf : m.link = .silent f) :
    s.goesAbsent line slot = decide (s.timers.release ≤ f.silence + 1) := by
  simp only [State.goesAbsent, h, Option.map_some, hf]

theorem goesAbsent_active (h : s.holder? line slot = some m) (hf : m.link = .active f) : s.goesAbsent line slot = false := by
  simp only [State.goesAbsent, h, Option.map_some, hf]

theorem ahead_of_stands {k : Nat} (h : s.stands line k) : (s.line line).ahead k = true := by
  obtain ⟨ho, hp, hk⟩ := h
  simp [LineState.ahead, ho, hp, hk]

theorem exec_nothingHeard (h : s.stands line (2 * slot)) :
    exec (.nothingHeard line slot) s = .next (unheardPhase line slot s) :=
  congrArg Host.Outcome.next (inPhase_stands h _)

theorem exec_silenceLimitReached (h : s.stands line (2 * slot)) :
    exec (.silenceLimitReached line slot) s =
      .next (if s.goesSilent line slot then unheardPhase line slot s else s) := by
  have hhere : runTo line (uplinkOf slot) s = s := runTo_here h.2.1
  have hahead : (s.line line).ahead (uplinkOf slot) = true := ahead_of_stands h
  rw [exec, execSilenceLimitReached, hahead, hhere, Bool.true_and]

theorem exec_releaseLimitReached (h : s.stands line (2 * slot)) :
    exec (.releaseLimitReached line slot) s =
      .next (if s.goesAbsent line slot then unheardPhase line slot s else s) := by
  have hhere : runTo line (uplinkOf slot) s = s := runTo_here h.2.1
  have hahead : (s.line line).ahead (uplinkOf slot) = true := ahead_of_stands h
  rw [exec, execReleaseLimitReached, hahead, hhere, Bool.true_and]

end

/-! ## What a phase with nothing heard leaves (07 R125) -/

/-- A step of a cycle: this line is one phase further, the other line and the power state are as they were. -/
def Passes (line : LineId) (s t : State) : Prop :=
  t.power = s.power ∧ (t.line line).phase = (s.line line).phase + 1 ∧ (t.line line).cycleOpen = (s.line line).cycleOpen ∧
    ∀ other, other ≠ line → t.line other = s.line other

theorem line_onLine_other {line other : LineId} (h : other ≠ line) (f : LineState → LineState) (s : State) :
    (s.onLine line f).line other = s.line other := by
  cases line <;> cases other <;> simp_all [State.onLine, State.line]

theorem passes_passPhase (line : LineId) (s : State) : Passes line s (passPhase line s) := by
  exact ⟨passPhase_power line s, by rw [line_passPhase], by rw [line_passPhase], fun other h => line_onLine_other h _ s⟩

theorem Passes.congr {line : LineId} {s t u : State} (h : Passes line s t) (hp : u.power = t.power)
    (ha : u.lineA = t.lineA) (hb : u.lineB = t.lineB) : Passes line s u := by
  have hline (l : LineId) : u.line l = t.line l := by cases l <;> assumption
  unfold Passes
  simp only [hp, hline]
  exact h

theorem unheard_frame (n : Nat) (s : State) :
    ∃ ms sm na, unheard n s = { s with machines := ms, summary := sm, notices := na } := by
  unfold unheard
  split
  · dsimp only
    split
    next f _ _ =>
      obtain ⟨ms, sm, na, h⟩ := raiseFault_frame n .silent (s.onMachine n fun m =>
        { m.discarded with link := .silent { f with silence := f.silence + 1 } })
      exact ⟨ms, sm, na, h⟩
    · exact ⟨_, _, _, rfl⟩
  · dsimp only
    split
    · exact ⟨_, _, _, rfl⟩
    · exact ⟨_, _, _, rfl⟩
  · exact ⟨_, _, _, rfl⟩

theorem passes_unheardPhase (line : LineId) (slot : Nat) (s : State) : Passes line s (unheardPhase line slot s) := by
  unfold unheardPhase
  dsimp only
  split
  · exact passes_passPhase line s
  next m _ =>
    obtain ⟨ms, sm, na, h⟩ := unheard_frame m.number (passPhase line s)
    rw [h]
    exact (passes_passPhase line s).congr rfl rfl rfl

theorem slotDownlink_frame (line : LineId) (slot : Nat) (s : State) :
    ∃ frame ms, slotDownlink line slot s = sendLine line frame { s with machines := ms } := by
  unfold slotDownlink
  dsimp only
  split
  · exact ⟨_, s.machines, rfl⟩
  · split
    · exact ⟨_, _, rfl⟩
    · exact ⟨_, s.machines, rfl⟩
  · exact ⟨_, s.machines, rfl⟩

theorem passes_downlink (line : LineId) (slot : Nat) (s : State) : Passes line s (downlink line slot s) := by
  have hsent (frame : LineSent) (ms : List MachineRecord) :
      Passes line s (passPhase line (sendLine line frame { s with machines := ms })) := by
    have hother (other : LineId) (h : other ≠ line) := line_onLine_other h
      (fun l => { l with phase := l.phase + 1, heard := .nothing, sent := frame }) { s with machines := ms }
    rw [passPhase_sendLine]
    refine ⟨?_, ?_, ?_, fun other h => (hother other h).trans ?_⟩
    · cases line <;> rfl
    · cases line <;> rfl
    · cases line <;> rfl
    · cases other <;> rfl
  unfold downlink
  split
  · exact hsent _ s.machines
  · obtain ⟨frame, ms, h⟩ := slotDownlink_frame line slot s
    rw [h]
    exact hsent frame ms

theorem passes_quietPhase (line : LineId) (s : State) : Passes line s (quietPhase line s) := by
  unfold quietPhase
  dsimp only
  split
  · exact passes_unheardPhase line _ s
  · exact passes_downlink line _ s

/-- The phases that are run to reach a later one begin with the present one. -/
theorem runTo_quietPhase {line : LineId} {j : Nat} {s : State} (h : (s.line line).phase < j) :
    runTo line j s = runTo line j (quietPhase line s) := by
  obtain ⟨-, hphase, -, -⟩ := passes_quietPhase line s
  obtain ⟨d, hd⟩ : ∃ d, j - (s.line line).phase = d + 1 := ⟨j - (s.line line).phase - 1, by omega⟩
  have hd' : j - (s.line line).phase - 1 = d := by omega
  rw [runTo, runTo, hphase, hd, ← Nat.sub_sub, hd']
  rfl

theorem ahead_quietPhase {line : LineId} {j : Nat} {s : State} (h : (s.line line).phase < j) :
    ((quietPhase line s).line line).ahead j = (s.line line).ahead j := by
  obtain ⟨-, hphase, hopen, -⟩ := passes_quietPhase line s
  have hle : decide ((s.line line).phase + 1 ≤ j) = decide ((s.line line).phase ≤ j) := by
    rw [decide_eq_decide]; omega
  simp only [LineState.ahead, hphase, hopen, hle]

theorem inPhase_quietPhase {line : LineId} {j : Nat} {s : State} (h : (s.line line).phase < j) (ho : (s.line line).ahead j = true)
    (body : State → State) : inPhase line j body s = inPhase line j body (quietPhase line s) := by
  rw [inPhase, inPhase, ahead_quietPhase h, runTo_quietPhase h, ho]
  rfl

theorem exec_heardIn_phase {c : Instr} {line : LineId} {slot n : Nat} (h : heardIn c = some (line, slot, n)) :
    ∃ body, ∀ s, exec c s = .next (inPhase line (2 * slot) body s) := by
  obtain ⟨body, hbody⟩ := exec_heardIn h
  exact ⟨_, hbody⟩

/-- A row of a phase is run in it: its effect there, or, for the two limit rows, nothing where no limit is reached. -/
theorem exec_phase {c : Instr} {line : LineId} {j : Nat} (h : phaseOf c = some (line, j)) :
    (∃ body, ∀ s, exec c s = .next (inPhase line j body s)) ∨
      (∃ slot, c = .silenceLimitReached line slot ∨ c = .releaseLimitReached line slot) ∧
        ∃ (reached : State → Bool) (body : State → State), ∀ s, exec c s =
          .next (if (s.line line).ahead j && reached (runTo line j s) then body (runTo line j s) else s) := by
  cases c with
  | join | nothingHeard | downlinkPhase =>
    cases h
    exact .inl ⟨_, fun _ => rfl⟩
  | leave | statusFrame | quoteRequest | saleCommit | boxRemoved | boxInserted =>
    cases h
    exact .inl (exec_heardIn_phase rfl)
  | silenceLimitReached line slot =>
    cases h
    exact .inr ⟨⟨slot, .inl rfl⟩, fun s => s.goesSilent line slot, unheardPhase line slot, fun _ => rfl⟩
  | releaseLimitReached line slot =>
    cases h
    exact .inr ⟨⟨slot, .inr rfl⟩, fun s => s.goesAbsent line slot, unheardPhase line slot, fun _ => rfl⟩
  | _ => cases h

theorem second_tick_quietPhase {s : State} {line : LineId} {k : Nat} (h : s.stands line k) (hp : s.power ≠ .off)
    (hfirst : line = .b → s.lineA.cycleOpen = true → 66 ≤ s.lineA.phase) :
    secondTick s = secondTick (quietPhase line s) := by
  obtain ⟨hpower, hphase, hopen, hother⟩ := passes_quietPhase line s
  obtain ⟨ho, hk, hlt⟩ := h
  have hrest : endCycle line s = endCycle line (quietPhase line s) := by
    rw [endCycle, endCycle, hopen, ho, if_pos rfl, if_pos rfl]
    exact runTo_quietPhase (by rw [hk]; exact hlt)
  have hcycles : endCycle .b (endCycle .a s) = endCycle .b (endCycle .a (quietPhase line s)) := by
    cases line with
    | a => rw [hrest]
    | b =>
      have hover (t : State) (ht : t.lineA = s.lineA) : endCycle .a t = t := by
        rw [endCycle]
        split
        next hopenA =>
          have hdone : 66 ≤ t.lineA.phase := by
            rw [ht]
            exact hfirst rfl (by rw [← ht]; exact hopenA)
          have hnone : Config.cyclePhases - (t.line .a).phase = 0 := Nat.sub_eq_zero_of_le hdone
          rw [runTo, hnone]
          rfl
        · rfl
      rw [hover s rfl, hover (quietPhase .b s) (hother .a (by decide)), hrest]
  rw [secondTick, secondTick, if_neg hp, if_neg (by rw [hpower]; exact hp), hcycles]

theorem exec_phase_over {c : Instr} {line : LineId} {j : Nat} (h : phaseOf c = some (line, j)) {s : State}
    (hover : (s.line line).cycleOpen = false ∨ j < (s.line line).phase ∨ 66 ≤ j) : exec c s = .next s := by
  rcases exec_phase h with ⟨body, hbody⟩ | ⟨-, reached, body, hbody⟩
  · rw [hbody]
    exact congrArg Host.Outcome.next (inPhase_over hover body)
  · have hahead : (s.line line).ahead j = false := by
      rw [← Bool.not_eq_true]
      simp only [LineState.ahead, Bool.and_eq_true, decide_eq_true_eq]
      rintro ⟨⟨ho, hle⟩, hlt⟩
      change j < 66 at hlt
      rcases hover with h | h | h
      · rw [h] at ho; cases ho
      · omega
      · omega
    rw [hbody, hahead]
    rfl

/-- A row of a later phase finds the present one run. -/
theorem exec_later_phase {c : Instr} {line : LineId} {j k : Nat} {s : State} (hstands : s.stands line k)
    (h : phaseOf c = some (line, j)) (hkj : k < j) (hj : j < 66) :
    exec c s = exec c (quietPhase line s) ∨
      (∃ slot, c = .silenceLimitReached line slot ∨ c = .releaseLimitReached line slot) ∧
        exec c s = .next s ∧ exec c (quietPhase line s) = .next (quietPhase line s) := by
  obtain ⟨ho, hk, -⟩ := hstands
  have hlt : (s.line line).phase < j := by omega
  have hahead : (s.line line).ahead j = true := by
    have hle : (s.line line).phase ≤ j := by omega
    simp [LineState.ahead, ho, hle, hj, Config.cyclePhases]
  rcases exec_phase h with ⟨body, hbody⟩ | ⟨hlimit, reached, body, hbody⟩
  · rw [hbody, hbody, inPhase_quietPhase hlt hahead]
    exact .inl rfl
  · rw [hbody, hbody, ahead_quietPhase hlt, ← runTo_quietPhase hlt, hahead, Bool.true_and]
    cases reached (runTo line j s) with
    | true => exact .inl rfl
    | false => exact .inr ⟨hlimit, rfl, rfl⟩

theorem exec_quietPhase {s : State} {line : LineId} {k : Nat} (h : s.stands line k) :
    exec (if k % 2 = 0 then .nothingHeard line (k / 2) else .downlinkPhase line (k / 2)) s = .next (quietPhase line s) := by
  have hk := h.2.1
  rw [quietPhase, hk]
  by_cases heven : k % 2 = 0
  · have hplace : 2 * (k / 2) = k := by omega
    rw [if_pos heven, if_pos heven]
    exact exec_nothingHeard (by rw [hplace]; exact h)
  · have hplace : 2 * (k / 2) + 1 = k := by omega
    rw [if_neg heven, if_neg heven]
    exact congrArg Host.Outcome.next (inPhase_stands (show s.stands line (2 * (k / 2) + 1) by rw [hplace]; exact h) _)

/-- A Leave heard from an Active machine (07 R139). -/
theorem leave_heard (s : State) (line : LineId) (slot : Nat) (m : MachineRecord) (f : LinkFields) :
    leave line slot { m with link := .active { f with silence := 0 } } (s.heardFrom line m.number f) =
      setHeard line (.left slot m.number) ((passPhase line s).onMachine m.number fun x =>
        { x with link := .absent, request := none, openQuote := none }) := by
  rw [leave, State.heardFrom, releaseSlot, passPhase_onMachine, onMachine_onMachine (by intro; rfl)]
  rfl

/-- Settles O48. -/
theorem slotsAreLeftAndSilenceCounted : Obligations.SlotsAreLeftAndSilenceCounted := by
  refine ⟨fun s line slot m hstands hholder hm quiet hquiet => ?_,
    fun s line k => ⟨fun u hstands hu => ?_, fun c j hc hover => exec_phase_over hc hover⟩⟩
  · subst hquiet
    have hm' : (passPhase line s).machine? m.number = some m := (machine?_passPhase line _ s).trans hm
    have htimers : (passPhase line s).timers = s.timers := passPhase_timers line s
    refine ⟨fun f hf => ?_, fun f hf => ?_⟩
    · have hquiet := (unheardPhase_holder (line := line) hholder).trans (unheard_active hm' hf)
      rw [htimers] at hquiet
      rw [exec_nothingHeard hstands, exec_silenceLimitReached hstands, exec_releaseLimitReached hstands,
        goesSilent_active hholder hf, goesAbsent_active hholder hf, hquiet]
      refine ⟨?_, fun hlow => ?_, fun hhigh u hu => ?_, rfl⟩
      · have hhears : s.hears line slot m f := ⟨hstands, hholder, hm, hf⟩
        exact congrArg Host.Outcome.next ((validUplink_hears hhears _).trans (leave_heard s line slot m f))
      · have hno : ¬s.timers.silence ≤ f.silence + 1 := by omega
        rw [if_neg hno, decide_eq_false hno]
        exact ⟨rfl, rfl⟩
      · rw [if_pos hhigh, decide_eq_true hhigh, ← hu]
        exact ⟨rfl, rfl⟩
    · have hquiet := (unheardPhase_holder (line := line) hholder).trans (unheard_silent hm' hf)
      rw [htimers] at hquiet
      rw [exec_nothingHeard hstands, exec_silenceLimitReached hstands, exec_releaseLimitReached hstands,
        goesSilent_silent hholder hf, goesAbsent_silent hholder hf, hquiet]
      refine ⟨fun hlow => ?_, fun hhigh u hu => ?_, rfl, fun c hc => ?_⟩
      · have hno : ¬s.timers.release ≤ f.silence + 1 := by omega
        rw [if_neg hno, decide_eq_false hno]
        exact ⟨rfl, rfl⟩
      · rw [if_pos hhigh, decide_eq_true hhigh, ← hu]
        exact ⟨rfl, rfl⟩
      · obtain ⟨body, hbody⟩ := exec_heardIn hc
        rw [hbody, hbody]
        exact congrArg Host.Outcome.next (validUplink_silent hstands hholder hm hf body)
  · obtain rfl : quietPhase line s = u := Host.Outcome.next.inj ((exec_quietPhase hstands).symm.trans hu)
    refine ⟨?_, fun c j hc hkj hj => exec_later_phase hstands hc hkj hj,
      fun hp hfirst => congrArg Host.Outcome.next (second_tick_quietPhase hstands hp hfirst)⟩
    rw [(passes_quietPhase line s).2.1, hstands.2.1]

end Sys2Proof.Machine

/-! PROOFS. The arbiter: what is granted when the array frees, and what is served next in a suspension (08, section 8.2). -/

namespace Sys2Proof.Machine

/-! ## What the arbiter picks (08 R153, R165) -/

theorem takeFirst_append {p : StoreOp → Bool} {before after : List StoreOp} {op : StoreOp} (hop : p op = true)
    (hbefore : ∀ o ∈ before, p o = false) : takeFirst p (before ++ op :: after) = some (op, before ++ after) := by
  induction before with
  | nil => simp [takeFirst, hop]
  | cons x rest ih =>
    have hx : p x = false := hbefore x (List.mem_cons_self ..)
    have hrest := ih fun o ho => hbefore o (List.mem_cons_of_mem _ ho)
    simp [takeFirst, hx, hrest]

/-- An operation of a class may be granted under the hold-back. -/
def mayGrant (c : StoreControl) (k : Nat) (o : StoreOp) : Bool := o.cls == k && (decide (k ≤ 3) || !c.holdBack)

theorem pickOp_eq (c : StoreControl) :
    pickOp c = [1, 2, 3, 4, 5, 6].findSome? fun k => takeFirst (mayGrant c k) c.queue := rfl

/-- The oldest operation of the lowest class that has one waiting is picked. -/
theorem pickOp_lowest {c : StoreControl} {before after : List StoreOp} {op : StoreOp}
    (hq : c.queue = before ++ op :: after) (hone : 1 ≤ op.cls) (hsix : op.cls ≤ 6) (hfree : op.cls ≤ 3 ∨ c.holdBack = false)
    (hbefore : ∀ o ∈ before, op.cls < o.cls) (hafter : ∀ o ∈ after, op.cls ≤ o.cls) :
    pickOp c = some (op, before ++ after) := by
  have hlower : ∀ k < op.cls, takeFirst (mayGrant c k) c.queue = none := by
    intro k hk
    refine takeFirst_eq_none.mpr fun o ho => ?_
    have hcls : op.cls ≤ o.cls := by
      rw [hq, List.mem_append, List.mem_cons] at ho
      rcases ho with ho | rfl | ho
      · exact (hbefore o ho).le
      · exact Nat.le_refl _
      · exact hafter o ho
    have hne : (o.cls == k) = false := by rw [beq_eq_false_iff_ne]; omega
    rw [mayGrant, hne, Bool.false_and]
  have hpick : takeFirst (mayGrant c op.cls) c.queue = some (op, before ++ after) := by
    rw [hq]
    refine takeFirst_append ?_ fun o ho => ?_
    · rcases hfree with h | h <;> simp [mayGrant, h]
    · have := hbefore o ho
      have hne : (o.cls == op.cls) = false := by rw [beq_eq_false_iff_ne]; omega
      rw [mayGrant, hne, Bool.false_and]
  rw [pickOp_eq]
  generalize op.cls = k at hone hsix hlower hpick
  interval_cases k <;> simp [hlower, hpick]

theorem pickOp_eq_none {c : StoreControl} (h : ∀ o ∈ c.queue, c.holdBack = true ∧ 4 ≤ o.cls ∨ o.cls = 0 ∨ 6 < o.cls) :
    pickOp c = none := by
  refine List.findSome?_eq_none_iff.mpr fun k hk => takeFirst_eq_none.mpr fun o ho => ?_
  have hk' : 1 ≤ k ∧ k ≤ 6 := by simpa using (by decide : ∀ k ∈ [1, 2, 3, 4, 5, 6], 1 ≤ k ∧ k ≤ 6) k hk
  rw [← Bool.not_eq_true]
  simp only [Bool.and_eq_true, beq_iff_eq, Bool.or_eq_true, decide_eq_true_eq, Bool.not_eq_true']
  rintro ⟨rfl, hgrant⟩
  rcases h o ho with ⟨hb, hc⟩ | hc | hc
  · rcases hgrant with hg | hg
    · omega
    · rw [hb] at hg; cases hg
  · omega
  · omega

theorem grantNext_held {s : State} {h : Holder} (hh : s.store.holder = some h) (fuel : Nat) : grantNext fuel s = s := by
  cases fuel with
  | zero => rfl
  | succ fuel => simp only [grantNext, hh]

/-! ## The array frees -/

section
variable {s : State} {op : StoreOp} {before after : List StoreOp}

/-- The state once the arbiter has taken the operation out of the queue. -/
def State.picked (s : State) (rest : List StoreOp) : State :=
  { s with store := { s.store with freeing := false, queue := rest } }

theorem arrayFreed_not_requested (h : s.permits.hold ≠ .requested ∨ 3 ≤ s.store.backlog) : s.arrayFreed = freeArray s := by
  have hnot : ¬s.holdReady = true := by
    rw [holdReady_iff]
    rintro ⟨hr, -, hb⟩
    rcases h with h | h
    · exact h hr
    · omega
  rw [State.arrayFreed, tryGrantHold_not_ready hnot]

/-- The operation picked is granted, and what it leaves is granted on. -/
theorem freeArray_picked (hh : s.store.holder = none) (hq : s.store.queue = before ++ op :: after)
    (hpick : pickOp s.store = some (op, before ++ after)) :
    freeArray s = grantNext ((before ++ after).length + 1) (grantOp op (s.picked (before ++ after))) := by
  have hlen : s.store.queue.length = (before ++ after).length + 1 := by simp [hq, Nat.add_assoc]
  have hpick' : pickOp (s.onStore fun c => { c with freeing := false }).store = some (op, before ++ after) := hpick
  have hh' : (s.onStore fun c => { c with freeing := false }).store.holder = none := hh
  have hlen' : (s.onStore fun c => { c with freeing := false }).store.queue.length = (before ++ after).length + 1 := hlen
  rw [freeArray, hlen', grantNext]
  simp only [hh', hpick']
  rfl

/-- An operation that takes the array ends the granting. -/
theorem freeArray_taken {data : GrantData} {c : StoreControl} (hh : s.store.holder = none)
    (hq : s.store.queue = before ++ op :: after) (hpick : pickOp s.store = some (op, before ++ after))
    (hg : grantOp op (s.picked (before ++ after)) = takeArray op data { s.picked (before ++ after) with store := c }) :
    freeArray s =
      { s.picked (before ++ after) with
        store := { c with holder := some ⟨op, 0, !op.work.isRead && decide (4 ≤ op.cls), data⟩ } } := by
  rw [freeArray_picked hh hq hpick, hg]
  exact grantNext_held rfl _

/-- An operation that ends without the array leaves the next to be granted. -/
theorem freeArray_ended {t : State} (hh : s.store.holder = none) (hq : s.store.queue = before ++ op :: after)
    (hpick : pickOp s.store = some (op, before ++ after)) (hg : grantOp op (s.picked (before ++ after)) = t)
    (ht : t.store = (s.picked (before ++ after)).store) : freeArray s = freeArray t := by
  have hfree : (t.onStore fun c => { c with freeing := false }) = t := by
    have : ({ t.store with freeing := false } : StoreControl) = t.store := by rw [ht]; rfl
    rw [State.onStore, this]
  have hlen : t.store.queue.length = (before ++ after).length := by rw [ht]; rfl
  rw [freeArray_picked hh hq hpick, hg, freeArray, hfree, hlen]

end

/-! ## A decrement granted under a closed hold (03 R60, 04 R68) -/

/-- A machine whose decrement ends without the array: its commit is over, its quote back, its request answered. -/
def MachineRecord.unavailable (m : MachineRecord) (id : Nat) (back : Bool) (q : OpenQuote) : MachineRecord :=
  { m with
    commit := none
    openQuote := if back then some q else m.openQuote
    request := m.request.map fun r => if r.id = id then { r with reply := some Code.permitUnavailable.plain } else r }

theorem endHeldDecrement_eq {s : State} {w : DecrementWork} {m : MachineRecord} {c : CommitInFlight}
    (hm : s.machine? w.machine = some m) (hc : m.commit = some c) (hid : c.id = w.id) :
    endHeldDecrement w s =
      s.onMachine w.machine fun x => x.unavailable w.id (!(s.quoteExpired c.quote || c.superseded)) c.quote := by
  have hback : (if c.superseded then s.onMachine w.machine fun x => { x with commit := none }
      else reopenQuote w.machine c.quote (s.onMachine w.machine fun x => { x with commit := none })) =
        s.onMachine w.machine fun x =>
          { x with
            commit := none
            openQuote := if !(s.quoteExpired c.quote || c.superseded) then some c.quote else x.openQuote } := by
    have hexpired : (s.onMachine w.machine fun x => { x with commit := none }).quoteExpired c.quote = s.quoteExpired c.quote :=
      rfl
    rw [reopenQuote, hexpired]
    cases c.superseded with
    | true => simp
    | false =>
      cases s.quoteExpired c.quote with
      | true => rfl
      | false => exact onMachine_onMachine (by intro; rfl)
  rw [endHeldDecrement, hm]
  simp only [hc, if_pos hid]
  rw [hback, giveReply_eq, onMachine_onMachine (by intro; rfl)]
  congr 1
  funext x
  simp only [MachineRecord.withReply, MachineRecord.unavailable]
  cases hr : x.request with
  | none => simp
  | some r => by_cases hrid : r.id = w.id <;> simp [hrid]

/-! ## The end of a read served in a suspension (08 R154) -/

theorem endServing_next {s : State} {h : Holder} {before after : List StoreOp} {o : StoreOp} (hh : s.store.holder = some h)
    (hsus : h.suspendable = true) (hq : s.store.queue = before ++ o :: after) (ho : o.work.isRead = true)
    (hbefore : ∀ x ∈ before, x.work.isRead = false) :
    endServing s = { s with store := { s.store with serving := some o, queue := before ++ after } } := by
  have hnext := takeFirst_append (p := fun o => o.work.isRead) (after := after) ho hbefore
  simp only [endServing, hh, hsus, if_true, hq, hnext, State.onStore]

theorem endServing_none {s : State} {h : Holder} (hh : s.store.holder = some h)
    (hnone : h.suspendable = false ∨ ∀ o ∈ s.store.queue, o.work.isRead = false) :
    endServing s = { s with store := { s.store with serving := none } } := by
  have hnext : (if h.suspendable then takeFirst (fun o => o.work.isRead) s.store.queue else none) = none := by
    rcases hnone with hs | hq
    · rw [hs]; rfl
    · rw [takeFirst_eq_none.mpr hq]; simp
  simp only [endServing, hh, hnext, State.onStore]

end Sys2Proof.Machine

/-! PROOFS. The completions of table and round writes, and what the array's freeing grants (08, sections 8.1 and 8.2). -/

namespace Sys2Proof.Machine

/-! ## The directory and the current tariffs as written (08 R149) -/

theorem find_putEntry_same (e : StoredEntry) (entries : List StoredEntry) :
    (putEntry e entries).find? (fun x => x.machine == e.machine) = some e := by
  induction entries with
  | nil => simp [putEntry]
  | cons x rest ih =>
    rw [putEntry]
    split
    · simp
    · split
      · simp
      next hne =>
        rw [List.find?_cons, beq_eq_false_iff_ne.mpr (Ne.symm hne)]
        exact ih

theorem find_putEntry_other {e : StoredEntry} {n : Nat} (hn : n ≠ e.machine) (entries : List StoredEntry) :
    (putEntry e entries).find? (fun x => x.machine == n) = entries.find? fun x => x.machine == n := by
  have hfirst (rest : List StoredEntry) :
      (e :: rest).find? (fun x => x.machine == n) = rest.find? fun x => x.machine == n := by
    rw [List.find?_cons, beq_eq_false_iff_ne.mpr (Ne.symm hn)]
  induction entries with
  | nil => exact hfirst []
  | cons x rest ih =>
    rw [putEntry]
    split
    · exact hfirst _
    · split
      next heq =>
        rw [hfirst, List.find?_cons, ← heq, beq_eq_false_iff_ne.mpr (Ne.symm hn)]
      · rw [List.find?_cons, List.find?_cons, ih]

theorem find_putTariff_same (tariffs : List (Nat × Tariff)) (x : Nat × Tariff) :
    (putTariff tariffs x).find? (fun y => y.1 == x.1) = some x := by
  simp [putTariff]

theorem find_putTariff_other {x : Nat × Tariff} {z : Nat} (h : x.1 ≠ z) (tariffs : List (Nat × Tariff)) :
    (putTariff tariffs x).find? (fun y => y.1 == z) = tariffs.find? fun y => y.1 == z := by
  rw [putTariff, List.find?_cons, beq_eq_false_iff_ne.mpr h, List.find?_filter]
  refine List.find?_congr fun y _ => ?_
  by_cases hy : y.1 = z
  · simp [hy, Ne.symm h]
  · simp [hy]

theorem find_foldl_putTariff_other {z : Nat} {new : List (Nat × Tariff)} (h : ∀ x ∈ new, x.1 ≠ z)
    (old : List (Nat × Tariff)) :
    (new.foldl putTariff old).find? (fun y => y.1 == z) = old.find? fun y => y.1 == z := by
  induction new generalizing old with
  | nil => rfl
  | cons x rest ih =>
    rw [List.foldl_cons, ih (fun y hy => h y (List.mem_cons_of_mem _ hy)),
      find_putTariff_other (h x (List.mem_cons_self ..))]

theorem find_foldl_putTariff_same {new : List (Nat × Tariff)} (hnodup : (new.map Prod.fst).Nodup) {x : Nat × Tariff}
    (hx : x ∈ new) (old : List (Nat × Tariff)) : (new.foldl putTariff old).find? (fun y => y.1 == x.1) = some x := by
  induction new generalizing old with
  | nil => cases hx
  | cons y rest ih =>
    rw [List.map_cons, List.nodup_cons] at hnodup
    obtain ⟨hy, hrest⟩ := hnodup
    rw [List.foldl_cons]
    rcases List.mem_cons.mp hx with rfl | hx
    · rw [find_foldl_putTariff_other fun z hz hsame => hy (List.mem_map.mpr ⟨z, hz, hsame⟩), find_putTariff_same]
    · exact ih hrest hx _

theorem newer_eq (carried stored : Option Nat) : newer carried stored = (carried <|> stored) := by
  cases carried <;> rfl

/-! ## Completions of writes (10 R185, 09 R172) -/

/-- What a completion tells changes the ports alone. -/
theorem finish_frame (r : Requester) (a : Answer) (s : State) :
    ∃ rp cb, finish r a s = { s with roundPort := rp, cabinet := cb } := by
  cases r with
  | roundPort =>
    unfold finish releaseReply
    dsimp only
    split <;> exact ⟨_, _, rfl⟩
  | _ => exact ⟨_, _, rfl⟩

@[simp] theorem finish_power (r : Requester) (a : Answer) (s : State) : (finish r a s).power = s.power := by
  obtain ⟨_, _, h⟩ := finish_frame r a s
  rw [h]

@[simp] theorem finish_store (r : Requester) (a : Answer) (s : State) : (finish r a s).store = s.store := by
  obtain ⟨_, _, h⟩ := finish_frame r a s
  rw [h]

theorem exec_writeCompletion_held {s : State} {h : Holder} {w : TableWrite} {cls : Nat} {asker : Requester}
    (hc : s.completing h) (hop : h.op = ⟨.table w, cls, asker⟩) :
    exec .writeCompletion s =
      .next (s.whenDone fun t =>
        finish asker Code.done.plain { t with nv := NvArray.written { t.nv with stamp := t.nv.stamp + 1 } w }) := by
  refine congrArg Host.Outcome.next (onCompletion_held hc ?_ ?_ ?_ ?_)
  · rw [hop]; rfl
  · rw [tableEffect, hop]; rfl
  · exact (finish_power _ _ _)
  · exact (finish_store _ _ _)

theorem exec_roundWriteCompletion_held {s : State} {h : Holder} {r : Option Round} {cls : Nat} {asker : Requester}
    (hc : s.completing h) (hop : h.op = ⟨.roundWrite r, cls, asker⟩) :
    exec .roundWriteCompletion s =
      .next (s.whenDone fun t =>
        finish asker Code.done.plain { t with nv := { t.nv with round := r, stamp := t.nv.stamp + 1 } }) := by
  refine congrArg Host.Outcome.next (onCompletion_held hc ?_ ?_ ?_ ?_)
  · rw [hop]; rfl
  · rw [roundWriteEffect, hop]; rfl
  · exact (finish_power _ _ _)
  · exact (finish_store _ _ _)

/-- What the completion of a write tells whoever asked for it. -/
theorem finish_eq (asker : Requester) {told : State → State}
    (htold : told = fun t =>
        match asker, t.roundPort.state with
        | .cabinet, _ => { t with cabinet := { t.cabinet with result := .final Code.done.plain } }
        | .roundPort, .awaiting line =>
          { t with roundPort := { t.roundPort with state := .ready, sent := [.line line, .prompt] } }
        | _, _ => t) : finish asker Code.done.plain = told := by
  subst htold
  funext t
  cases asker with
  | roundPort =>
    unfold finish releaseReply
    dsimp only
    cases t.roundPort.state <;> rfl
  | _ => rfl

theorem whenDone_congr {s : State} {h : Holder} (hc : s.completing h) {f g : State → State}
    (hfg : f { s with store := s.store.ending } = g { s with store := s.store.ending }) : s.whenDone f = s.whenDone g := by
  obtain ⟨-, hsv, -⟩ := hc
  simp only [State.whenDone, hsv, hfg]

/-! ## The regions after each table write (08 R149, R159) -/

theorem written_registration (v : NvArray) (n : Nat) (reg : Registration) (isNew : Bool) :
    v.written (.registration n reg isNew) = { v with directory := (v.written (.registration n reg isNew)).directory } ∧
      (∀ k, k ≠ n → (v.written (.registration n reg isNew)).entry? k = v.entry? k) ∧
      (isNew = true → (v.written (.registration n reg isNew)).entry? n =
        some ⟨n, reg, ⟨false, false, false⟩, v.stamp, v.stamp⟩) ∧
      ∀ e, isNew = false → v.entry? n = some e →
        (v.written (.registration n reg isNew)).entry? n = some ⟨n, reg, e.flags, v.stamp, e.registered⟩ := by
  have hnumber : (v.registeredEntry n reg isNew).machine = n := by
    unfold NvArray.registeredEntry
    split
    next e he => simpa using List.find?_some he
    · rfl
  have hfound : (v.written (.registration n reg isNew)).entry? n = some (v.registeredEntry n reg isNew) := by
    have := find_putEntry_same (v.registeredEntry n reg isNew) v.directory
    rwa [hnumber] at this
  refine ⟨rfl, fun k hk => find_putEntry_other (by rw [hnumber]; exact hk) _, fun hnew => ?_, fun e hold he => ?_⟩
  · rw [hfound, hnew]
    rfl
  · have hen : e.machine = n := by simpa using List.find?_some he
    rw [hfound, hold]
    simp only [NvArray.registeredEntry, he, hen]

theorem written_activation (v : NvArray) (tariffs : List (Nat × Tariff)) :
    v.written (.activation tariffs) =
        { v with pendingSet := none, tariffs := (v.written (.activation tariffs)).tariffs } ∧
      ((tariffs.map Prod.fst).Nodup →
        (∀ x ∈ tariffs, (v.written (.activation tariffs)).tariffs.find? (fun y => y.1 == x.1) = some x) ∧
        ∀ z, (∀ x ∈ tariffs, x.1 ≠ z) →
          (v.written (.activation tariffs)).tariffs.find? (fun y => y.1 == z) = v.tariffs.find? (fun y => y.1 == z)) :=
  ⟨rfl, fun hnodup => ⟨fun _ hx => find_foldl_putTariff_same hnodup hx _, fun _ hz => find_foldl_putTariff_other hz _⟩⟩

/-- The queue's first grantable operation, granted (08 R153; 04 R68, R69). -/
theorem arrayFreed_granted {s : State} {before after : List StoreOp} {op : StoreOp} {data : GrantData} {c : StoreControl}
    (hh : s.store.holder = none) (hr : s.permits.hold ≠ .requested ∨ 3 ≤ s.store.backlog)
    (hq : s.store.queue = before ++ op :: after) (hpick : pickOp s.store = some (op, before ++ after))
    (hg : grantOp op (s.picked (before ++ after)) = takeArray op data { s.picked (before ++ after) with store := c }) :
    s.arrayFreed =
      { s.picked (before ++ after) with
        store := { c with holder := some ⟨op, 0, !op.work.isRead && decide (4 ≤ op.cls), data⟩ } } :=
  (arrayFreed_not_requested hr).trans (freeArray_taken hh hq hpick hg)

/-- An operation that the closed hold ends without the array is followed by the next (04 R68, R69). -/
theorem arrayFreed_ended {s t : State} {before after : List StoreOp} {op : StoreOp} (hh : s.store.holder = none)
    (hr : s.permits.hold ≠ .requested ∨ 3 ≤ s.store.backlog) (hq : s.store.queue = before ++ op :: after)
    (hpick : pickOp s.store = some (op, before ++ after)) (hg : grantOp op (s.picked (before ++ after)) = t)
    (ht : t.store = (s.picked (before ++ after)).store) (hclosed : t.permits.hold.closed = true) :
    s.arrayFreed = t.arrayFreed := by
  have hheld : t.permits.hold ≠ .requested := by
    intro h
    rw [h] at hclosed
    cases hclosed
  rw [arrayFreed_not_requested hr, arrayFreed_not_requested (.inl hheld), freeArray_ended hh hq hpick hg ht]

/-- Settles O51. -/
theorem tableAndRoundWritesComplete : Obligations.TableAndRoundWritesComplete := by
  refine ⟨fun s hh => ⟨fun hr hb => ?_, fun hr => ⟨fun hnone => ?_, ?_⟩⟩, fun s r h hs hh => ⟨?_, ?_⟩,
    fun s h cls asker hc told htold => ⟨fun r hop => ?_, fun w hop => ?_⟩⟩
  · have hready : s.holdReady = true := (holdReady_iff s).mpr ⟨hr, by simp [StoreControl.permitProgram, hh], hb⟩
    have hgranted : ¬(holdGranted s).holdReady = true := by simp [holdReady_iff, holdGranted]
    rw [State.arrayFreed, tryGrantHold_ready hready, State.arrayFreed]
    exact congrArg freeArray (tryGrantHold_not_ready hgranted).symm
  · have hpick : pickOp (s.onStore fun c => { c with freeing := false }).store = none := pickOp_eq_none hnone
    have hh' : (s.onStore fun c => { c with freeing := false }).store.holder = none := hh
    rw [arrayFreed_not_requested hr, freeArray, grantNext]
    simp only [hh', hpick]
    rfl
  · intro before after op rest hq hone hsix hfree hbefore hafter hrest granted hgranted
    have hpick := pickOp_lowest hq hone hsix hfree hbefore hafter
    subst hgranted
    obtain rfl : rest = s.picked (before ++ after) := hrest
    refine ⟨fun w hw => ⟨fun hopen => ?_, fun m c hclosed hm hcommit hid => ?_⟩, fun r hw => ⟨fun hopen => ?_,
      fun hclosed => ?_⟩, fun g hw => ?_, fun hd hg hk => ?_⟩
    · refine arrayFreed_granted hh hr hq hpick (c := (s.picked (before ++ after)).store) ?_
      rw [grantOp, hw]
      exact if_neg (ne_true_of_eq_false hopen)
    · have hended : grantOp op (s.picked (before ++ after)) =
          (s.picked (before ++ after)).onMachine w.machine fun x =>
            x.unavailable w.id (!(s.quoteExpired c.quote || c.superseded)) c.quote := by
        rw [grantOp, hw]
        exact (if_pos hclosed).trans (endHeldDecrement_eq hm hcommit hid)
      rw [arrayFreed_ended hh hr hq hpick hended rfl hclosed]
      refine congrArg (fun f => ((s.picked (before ++ after)).onMachine w.machine f).arrayFreed) (funext fun x => ?_)
      have hback : (!(s.quoteExpired c.quote || c.superseded)) = true ↔
          ¬(s.timers.lifetime ≤ (s.clock.counter - c.quote.issued).toNat ∨ c.superseded = true) := by
        rw [Bool.not_eq_true', ← Bool.not_eq_true, Bool.or_eq_true, State.quoteExpired, decide_eq_true_eq]
        rfl
      simp only [MachineRecord.unavailable, hback, ite_not]
    · refine arrayFreed_granted hh hr hq hpick (c := (s.picked (before ++ after)).store) ?_
      rw [grantOp, hw]
      exact if_neg (ne_true_of_eq_false hopen)
    · refine arrayFreed_ended hh hr hq hpick (t := keepReturn r (s.picked (before ++ after))) ?_ rfl hclosed
      rw [grantOp, hw]
      exact if_pos hclosed
    · refine arrayFreed_granted hh hr hq hpick
        (c := { (s.picked (before ++ after)).store with dirty := s.store.dirty.set g false, pointer := (g + 1) % 8 }) ?_
      rw [grantOp, hw]
      rfl
    · refine arrayFreed_granted hh hr hq hpick (c := (s.picked (before ++ after)).store) ?_
      rw [grantOp]
      split
      next w hw => exact absurd hw (hd w)
      next r hw => exact absurd hw (hg r)
      next g hw => exact absurd hw (hk g)
      · rfl
  · exact fun before o after hsus hq ho hbefore => endServing_next hh hsus hq ho hbefore
  · exact fun hnone => endServing_none hh hnone
  · rw [exec_roundWriteCompletion_held hc hop, finish_eq asker htold]
  · refine ⟨NvArray.written { s.nv with stamp := s.nv.stamp + 1 } w, ?_, ?_, ?_⟩
    · rw [exec_writeCompletion_held hc hop, finish_eq asker htold]
      exact congrArg Host.Outcome.next (whenDone_congr hc rfl)
    · rcases w with _ | _ | _ | _ | _ | _ | _ | ⟨_ | _, _⟩ | _ | _ <;> rfl
    · cases w with
      | registration n reg isNew => exact written_registration { s.nv with stamp := s.nv.stamp + 1 } n reg isNew
      | activation tariffs => exact written_activation { s.nv with stamp := s.nv.stamp + 1 } tariffs
      | timers a => exact ⟨rfl, newer_eq _ _, newer_eq _ _, newer_eq _ _, newer_eq _ _, newer_eq _ _, newer_eq _ _, newer_eq _ _⟩
      | slotEnable line set => cases line <;> rfl
      | _ => rfl

end Sys2Proof.Machine

/-! PROOFS. Checkpoints: the period, the backlog's movements and the trickle (08, section 8.4). -/

namespace Sys2Proof.Machine

/-- Running with no flush, nothing held back and no completion being taken. -/
def State.runs (s : State) : Prop :=
  s.power = .running ∧ s.store.flush = false ∧ s.store.holdBack = false ∧ s.store.freeing = false

/-! ## Asking a checkpoint (08 R158, R161) -/

/-- The store controller once a checkpoint of a group has been asked: granted with its image, or last in the queue. -/
def State.checkpointAsked (s : State) (g cls : Nat) : StoreControl :=
  match s.store.holder with
  | none =>
    { s.store with
      dirty := s.store.dirty.set g false
      pointer := (g + 1) % 8
      holder := some ⟨⟨.checkpoint g, cls, .nobody⟩, 0, decide (4 ≤ cls), .image (imageOf g s)⟩ }
  | some _ => { s.store with queue := s.store.queue ++ [⟨.checkpoint g, cls, .nobody⟩] }

theorem askCheckpoint_runs {s : State} (h : s.runs) (g cls : Nat) :
    askCheckpoint g cls s = { s with store := s.checkpointAsked g cls } := by
  obtain ⟨hp, -, hb, hf⟩ := h
  have hl : leaveParked ⟨.checkpoint g, cls, .nobody⟩ s = s := leaveParked_of_not (.inl (by simp [hp]))
  cases hh : s.store.holder with
  | none =>
    simp [askCheckpoint, ask, hl, hf, hb, hh, grantOp, takeArray, State.onStore, State.checkpointAsked, StoreWork.isRead,
      imageOf]
  | some x =>
    simp [askCheckpoint, ask, hl, hf, hh, enqueue, State.onStore, State.checkpointAsked, StoreWork.isRead]

theorem askCheckpoint_freeing {s : State} (hp : s.power = .running) (hf : s.store.freeing = true) (g cls : Nat) :
    askCheckpoint g cls s = { s with store := { s.store with queue := s.store.queue ++ [⟨.checkpoint g, cls, .nobody⟩] } } := by
  have hl : leaveParked ⟨.checkpoint g, cls, .nobody⟩ s = s := leaveParked_of_not (.inl (by simp [hp]))
  simp [askCheckpoint, ask, hl, hf, enqueue, State.onStore]

theorem checkpointAsked_stands (s : State) (g cls : Nat) :
    (s.checkpointAsked g cls).checkpointWaits = true ∨ (s.checkpointAsked g cls).checkpointHeld = true := by
  unfold State.checkpointAsked
  split
  · exact .inr rfl
  · refine .inl (List.any_eq_true.mpr ⟨_, List.mem_append_right _ (List.mem_singleton.mpr rfl), rfl⟩)

theorem checkpointAsked_flush (s : State) (g cls : Nat) : (s.checkpointAsked g cls).flush = s.store.flush := by
  unfold State.checkpointAsked
  split <;> rfl

/-! ## The trickle and what follows an event -/

theorem askTrickle_due {s : State} {g : Nat} (h : s.runs) (hdue : s.store.trickleDue = true) (hg : s.store.nextDirty = some g) :
    askTrickle s = { s with store := s.checkpointAsked g 6 } := by
  have hlistens : (s.power.listens && s.store.trickleDue) = true := by rw [h.1, hdue]; rfl
  rw [askTrickle, if_pos hlistens, hg]
  exact askCheckpoint_runs h g 6

theorem askTrickle_not_due {s : State} (h : s.store.trickleDue = false) : askTrickle s = s :=
  if_neg (by simp [h])

/-- A trickle request changes the store controller alone, and leaves the flush. -/
theorem askTrickle_runs {s : State} (h : s.runs) : ∃ c, askTrickle s = { s with store := c } ∧ c.flush = false := by
  cases hdue : s.store.trickleDue with
  | false => exact ⟨s.store, askTrickle_not_due hdue, h.2.1⟩
  | true =>
    cases hg : s.store.nextDirty with
    | none =>
      refine ⟨s.store, ?_, h.2.1⟩
      rw [askTrickle, hg]
      exact ite_self s
    | some g => exact ⟨_, askTrickle_due h hdue hg, (checkpointAsked_flush s g 6).trans h.2.1⟩

theorem settle_runs {s : State} (h : s.runs) : settle s = askTrickle s := by
  obtain ⟨c, hc, hfl⟩ := askTrickle_runs h
  exact settle_running (by rw [hc]; exact h.1) (by rw [hc]; exact hfl)

theorem settle_quiet {s : State} (hp : s.power = .running) (hfl : s.store.flush = false) (hdue : s.store.trickleDue = false) :
    settle s = s := by
  have hsame := askTrickle_not_due hdue
  rw [settle_running (by rw [hsame]; exact hp) (by rw [hsame]; exact hfl), hsame]

theorem trickleDue_stands {c : StoreControl} (h : c.checkpointWaits = true ∨ c.checkpointHeld = true) : c.trickleDue = false :=
  trickleDue_eq_false (.inr (.inr (h.imp_right .inl)))

theorem anyDirty_iff (c : StoreControl) : c.anyDirty = true ↔ ∃ i < 8, c.dirty.get i = true := by
  rw [← exists_dirty_iff]
  simp

theorem anyDirty_of_nextDirty {c : StoreControl} {g : Nat} (h : c.nextDirty = some g) : c.anyDirty = true := by
  have hd : c.dirty.get g = true := List.find?_some h
  obtain ⟨i, -, hi⟩ := List.mem_map.mp (List.mem_of_find?_eq_some h)
  exact (anyDirty_iff c).mpr ⟨g, by omega, hd⟩

theorem anyDirty_of_nextDirty_none {c : StoreControl} (h : c.nextDirty = none) : c.anyDirty = false := by
  rw [anyDirty_eq_false]
  intro g hg
  have hall := List.find?_eq_none.mp h g (List.mem_map.mpr ⟨(g + 8 - c.pointer % 8) % 8, ?_, by omega⟩)
  · simpa using hall
  · have hlt : (g + 8 - c.pointer % 8) % 8 < 8 := Nat.mod_lt _ (by decide)
    generalize (g + 8 - c.pointer % 8) % 8 = i at hlt
    interval_cases i <;> decide

/-! ## Movements of the backlog (08 R160 to R163) -/

/-- The backlog moves without the hold: neither up to 3 nor down from it. -/
theorem setBacklog_plain {s : State} {v : Nat} (hup : ¬(v = 3 ∧ s.store.backlog < 3)) (hdown : ¬(v < 3 ∧ s.store.backlog = 3)) :
    setBacklog v s = { s with store := { s.store with backlog := v } } :=
  (if_neg hup).trans (if_neg hdown)

/-- The backlog falls from 3 (04 R76, R78). -/
theorem setBacklog_fall {s : State} {v : Nat} (hv : v < 3) (hb : s.store.backlog = 3) :
    setBacklog v s = resumeHold { s with store := { s.store with backlog := v } } := by
  have hup : ¬(v = Config.maxBacklog ∧ s.store.backlog < Config.maxBacklog) := by simp only [Config.maxBacklog]; omega
  have hdown : v < Config.maxBacklog ∧ s.store.backlog = Config.maxBacklog := ⟨hv, hb⟩
  rw [setBacklog, if_neg hup, if_pos hdown]
  rfl

/-- A rise to 3 interrupts a Granted hold (04 R78). -/
theorem interruptHold_frame (s : State) :
    ∃ fc pm na, interruptHold s = { s with freeCount := fc, permits := pm, notices := na } ∧
      (s.permits.hold = .granted → pm = { s.permits with hold := .interrupted } ∧
        ∃ unstated : Byte, na = (notify [7, 3, unstated] s).notices) ∧
      (s.permits.hold ≠ .granted → pm = s.permits ∧ na = s.notices) := by
  unfold interruptHold
  split
  next h => exact ⟨_, _, _, rfl, fun _ => ⟨rfl, _, rfl⟩, fun hn => absurd h hn⟩
  next h => exact ⟨_, _, _, rfl, fun hn => absurd hn h, fun _ => ⟨rfl, rfl⟩⟩

/-- An expiry at a backlog of 2 makes a checkpoint urgent (08 R162). -/
theorem periodExpiry_rise {s : State} {c : StoreControl} (hb : s.store.backlog = 2)
    (hwork : (s.store.anyDirty || s.store.checkpointWaits || s.store.checkpointHeld) = true)
    (hurgent : ∀ fc pm na,
      beginUrgent { s with
          freeCount := fc, permits := pm, notices := na
          store := { s.store with lastExpiry := s.clock.counter, backlog := 3 } } =
        { s with freeCount := fc, permits := pm, notices := na, store := c }) :
    ∃ fc pm na, periodExpiry s = { s with freeCount := fc, permits := pm, notices := na, store := c } ∧
      (s.permits.hold = .granted → pm = { s.permits with hold := .interrupted } ∧
        ∃ unstated : Byte, na = (notify [7, 3, unstated] s).notices) ∧
      (s.permits.hold ≠ .granted → pm = s.permits ∧ na = s.notices) := by
  obtain ⟨fc, pm, na, hint, hgranted, hother⟩ :=
    interruptHold_frame { s with store := { s.store with lastExpiry := s.clock.counter, backlog := 3 } }
  refine ⟨fc, pm, na, ?_, hgranted, hother⟩
  have hrise : setBacklog 3 (s.onStore fun k => { k with lastExpiry := s.clock.counter }) =
      { s with
        freeCount := fc, permits := pm, notices := na
        store := { s.store with lastExpiry := s.clock.counter, backlog := 3 } } := by
    have hup : s.store.backlog < 3 := by omega
    exact (if_pos ⟨rfl, hup⟩).trans hint
  have hmin : min (s.store.backlog + 1) Config.maxBacklog = 3 := by rw [hb]; rfl
  have hmoved : periodExpiry s = beginUrgent (setBacklog (min (s.store.backlog + 1) Config.maxBacklog)
      (s.onStore fun k => { k with lastExpiry := s.clock.counter })) := by
    exact (if_pos hwork).trans (if_pos hb)
  rw [hmoved, hmin, hrise, hurgent]

/-- An expiry that moves no hold (08 R160). -/
theorem periodExpiry_low {s : State} (hb : s.store.backlog ≤ 1)
    (hwork : (s.store.anyDirty || s.store.checkpointWaits || s.store.checkpointHeld) = true) :
    periodExpiry s =
      { s with store := { s.store with lastExpiry := s.clock.counter, backlog := s.store.backlog + 1 } } := by
  have hmin : min (s.store.backlog + 1) Config.maxBacklog = s.store.backlog + 1 := by
    simp only [Config.maxBacklog]; omega
  have htwo : ¬s.store.backlog = 2 := by omega
  have hmoved : periodExpiry s = setBacklog (min (s.store.backlog + 1) Config.maxBacklog)
      (s.onStore fun k => { k with lastExpiry := s.clock.counter }) := (if_pos hwork).trans (if_neg htwo)
  rw [hmoved, hmin, setBacklog_plain]
  · rfl
  · show ¬(s.store.backlog + 1 = 3 ∧ s.store.backlog < 3); omega
  · show ¬(s.store.backlog + 1 < 3 ∧ s.store.backlog = 3); omega

/-- An expiry with nothing to save sets the backlog to 0 (08 R160). -/
theorem periodExpiry_clear {s : State} (hwork : ¬(s.store.anyDirty || s.store.checkpointWaits || s.store.checkpointHeld) = true)
    (hhold : s.store.backlog = 3 → s.permits.hold = .free) :
    periodExpiry s = { s with store := { s.store with lastExpiry := s.clock.counter, backlog := 0 } } := by
  have hmoved : periodExpiry s = setBacklog 0 (s.onStore fun k => { k with lastExpiry := s.clock.counter }) := if_neg hwork
  rw [hmoved]
  by_cases hb : s.store.backlog = 3
  · have hfree := hhold hb
    rw [setBacklog_fall (s := s.onStore fun k => { k with lastExpiry := s.clock.counter }) (v := 0) (by decide) hb, resumeHold, if_neg (by simp [State.onStore, hfree]),
      tryGrantHold_not_ready (by simp [holdReady_iff, State.onStore, hfree])]
    rfl
  · rw [setBacklog_plain]
    · rfl
    · show ¬(0 = 3 ∧ s.store.backlog < 3); omega
    · show ¬(0 < 3 ∧ s.store.backlog = 3); omega

end Sys2Proof.Machine

/-! PROOFS. A checkpoint's completion (08, section 8.4). -/

namespace Sys2Proof.Machine

/-! ## A checkpoint that stands goes on standing as the array frees -/

/-- A checkpoint waits or is in progress. -/
def StoreControl.checkpointStands (c : StoreControl) : Prop := c.checkpointWaits = true ∨ c.checkpointHeld = true

theorem mem_of_pickOp {c : StoreControl} {op : StoreOp} {rest : List StoreOp} (h : pickOp c = some (op, rest)) :
    ∀ o ∈ c.queue, o = op ∨ o ∈ rest := by
  have htake {p : StoreOp → Bool} {q r : List StoreOp} (h : takeFirst p q = some (op, r)) : ∀ o ∈ q, o = op ∨ o ∈ r := by
    induction q generalizing r with
    | nil => exact fun o ho => nomatch ho
    | cons x q ih =>
      rw [takeFirst] at h
      split at h
      · obtain ⟨rfl, rfl⟩ := by simpa using h
        exact fun o ho => List.mem_cons.mp ho
      · split at h
        next z r' hz =>
          obtain ⟨rfl, rfl⟩ := by simpa using h
          intro o ho
          rcases List.mem_cons.mp ho with rfl | ho
          · exact .inr (List.mem_cons_self ..)
          · exact (ih hz o ho).imp_right (List.mem_cons_of_mem _)
        · simp at h
  obtain ⟨k, -, hk⟩ := List.exists_of_findSome?_eq_some h
  exact htake hk

theorem checkpointStands_grantNext (fuel : Nat) {s : State} (h : s.store.checkpointStands) :
    (grantNext fuel s).store.checkpointStands := by
  induction fuel generalizing s with
  | zero => exact h
  | succ fuel ih =>
    unfold grantNext
    split
    · exact h
    next hn =>
      split
      · exact h
      next op rest hpick =>
        have hwaits : s.store.checkpointWaits = true := by
          refine h.resolve_right fun hheld => ?_
          rw [StoreControl.checkpointHeld, hn] at hheld
          cases hheld
        obtain ⟨o, ho, hcheck⟩ := List.any_eq_true.mp hwaits
        refine ih ?_
        rcases mem_of_pickOp hpick o ho with rfl | hrest
        · cases hw : o.work with
          | checkpoint g =>
            refine .inr ?_
            simp [grantOp, hw, takeArray, State.onStore, StoreControl.checkpointHeld, StoreWork.isCheckpoint]
          | _ => rw [hw] at hcheck; cases hcheck
        · obtain ⟨x, d, p, hst, -, -⟩ := grantOp_store op (s.onStore fun c => { c with queue := rest })
          refine .inl ?_
          rw [hst]
          exact List.any_eq_true.mpr ⟨o, hrest, hcheck⟩

theorem checkpointWaits_unverify (c : StoreControl) : (unverifyLookups c).checkpointWaits = c.checkpointWaits := by
  have hone (o : StoreOp) : o.unverify.work.isCheckpoint = o.work.isCheckpoint := by
    unfold StoreOp.unverify
    split
    next w hw => rw [hw]; rfl
    · rfl
  simp only [StoreControl.checkpointWaits, unverifyLookups, List.any_map]
  exact congrArg (fun f => c.queue.any f) (funext hone)

theorem checkpointStands_arrayFreed {s : State} (h : s.store.checkpointWaits = true) :
    s.arrayFreed.store.checkpointStands := by
  refine checkpointStands_grantNext _ (.inl ?_)
  show (tryGrantHold s).store.checkpointWaits = true
  by_cases hready : s.holdReady = true
  · rw [tryGrantHold_ready hready]
    exact (checkpointWaits_unverify s.store).trans h
  · rw [tryGrantHold_not_ready hready]
    exact h

theorem arrayFreed_runs {s : State} (hp : s.power = .running) (hfl : s.store.flush = false) (hb : s.store.holdBack = false) :
    s.arrayFreed.runs := by
  have hsteady := arrayFreed_steady s
  simp only [StoreControl.steady, Prod.mk.injEq] at hsteady
  obtain ⟨hbk, hflk, -, -, -⟩ := hsteady
  exact ⟨(arrayFreed_power s).trans hp, hflk.trans hfl, hbk.trans hb, freeArray_freeing _⟩

theorem arrayFreed_backlog (s : State) : s.arrayFreed.store.backlog = s.store.backlog := by
  have hsteady := arrayFreed_steady s
  simp only [StoreControl.steady, Prod.mk.injEq] at hsteady
  exact hsteady.2.2.1

/-! ## A hold granted as the backlog falls is the hold granted as the array frees (04 R76) -/

theorem arrayFreed_tryGrantHold (s : State) : (tryGrantHold s).arrayFreed = s.arrayFreed := by
  have hagain : tryGrantHold (tryGrantHold s) = tryGrantHold s := by
    by_cases hready : s.holdReady = true
    · rw [tryGrantHold_ready hready]
      exact tryGrantHold_not_ready (by simp [holdReady_iff, holdGranted])
    · rw [tryGrantHold_not_ready hready, tryGrantHold_not_ready hready]
  rw [State.arrayFreed, State.arrayFreed, hagain]

/-- A further urgent checkpoint asked while a completion is taken (08 R162; log entry 9). -/
def State.urgentAsked (s : State) (g : Nat) : State :=
  { s with
    store := { s.store with urgent := s.store.urgent - 1, queue := s.store.queue ++ [⟨.checkpoint g, 1, .nobody⟩] } }

theorem arrayFreed_urgentAsked (s : State) (g : Nat) :
    ((tryGrantHold s).urgentAsked g).arrayFreed = (s.urgentAsked g).arrayFreed := by
  by_cases hready : s.holdReady = true
  · have hready' : (s.urgentAsked g).holdReady = true := hready
    have hsame : (holdGranted s).urgentAsked g = holdGranted (s.urgentAsked g) := by
      simp only [State.urgentAsked, holdGranted, unverifyLookups, List.map_append]
      rfl
    rw [tryGrantHold_ready hready, hsame, ← tryGrantHold_ready hready', arrayFreed_tryGrantHold]
  · rw [tryGrantHold_not_ready hready]

/-- The state whose Interrupted hold is resumed as the backlog falls from 3 (04 R78). -/
def State.resumed (s : State) : State :=
  if s.store.backlog = 3 ∧ s.permits.hold = .interrupted then
    { s with
      permits := { s.permits with hold := .granted }
      notices := (notify (holdGrantedNotice true) s).notices }
  else s

/-- The backlog falls: an Interrupted hold is resumed, and a Requested one may be granted (04 R76, R78). -/
theorem setBacklog_cases (s : State) {v : Nat} (hv : v < 3) :
    setBacklog v s = { s.resumed with store := { s.store with backlog := v } } ∨
      setBacklog v s = tryGrantHold { s.resumed with store := { s.store with backlog := v } } := by
  by_cases hb : s.store.backlog = 3
  · rw [setBacklog_fall hv hb, resumeHold]
    by_cases hi : s.permits.hold = .interrupted
    · exact .inl ((if_pos hi).trans (by rw [State.resumed, if_pos ⟨hb, hi⟩]; rfl))
    · exact .inr ((if_neg hi).trans (by rw [State.resumed, if_neg fun h => hi h.2]))
  · rw [setBacklog_plain (by omega) (by omega), State.resumed, if_neg fun h => hb h.1]
    exact .inl rfl

/-! ## The completion (08 R161, R162) -/

theorem exec_checkpointCompletion {s : State} {h : Holder} {g : Nat} {entries : List ImageEntry}
    (hs : s.store.serving = none) (hh : s.store.holder = some h) (hw : h.op.work = .checkpoint g)
    (hd : h.data = .image entries) :
    exec .checkpointCompletion s =
      .next (settle (checkpointDone g entries { s with store := s.store.ending }).arrayFreed) := by
  have heffect (t : State) : checkpointEffect h t = checkpointDone g entries t := by
    simp only [checkpointEffect, hw, hd]
  refine congrArg Host.Outcome.next ((onCompletion_holder hs hh (by rw [hw]; rfl)).trans ?_)
  rw [heffect]
  rfl

/-- What a completion of a checkpoint leaves where no group is dirty (08 R161). -/
theorem checkpointDone_clean {s : State} {g : Nat} {entries : List ImageEntry} {v : NvArray}
    (hv : v = NvArray.withImage { s.nv with stamp := s.nv.stamp + 1 } g entries) (hclean : s.store.anyDirty = false) :
    checkpointDone g entries s = setBacklog 0 { s with nv := v, store := { s.store with urgent := 0 } } := by
  subst hv
  exact if_neg (ne_true_of_eq_false hclean)

/-- While the urgent count is above 0 a further checkpoint is asked, unless one waits (08 R162). -/
def urgentStep (s : State) : State :=
  if 0 < s.store.urgent ∧ s.store.checkpointWaits = false then askUrgent s else s

theorem checkpointDone_dirty {s : State} {g : Nat} {entries : List ImageEntry} {v : NvArray}
    (hv : v = NvArray.withImage { s.nv with stamp := s.nv.stamp + 1 } g entries) (hdirty : s.store.anyDirty = true) :
    checkpointDone g entries s = urgentStep (setBacklog (s.store.backlog - 1) { s with nv := v }) := by
  subst hv
  exact if_pos hdirty

theorem resumed_onStore (s : State) {c : StoreControl} (hc : c.backlog = s.store.backlog) (v : NvArray) :
    ({ s with nv := v, store := c } : State).resumed = { s.resumed with nv := v, store := c } := by
  unfold State.resumed
  simp only [hc]
  split <;> rfl

/-- What a grant of the hold leaves of the store controller. -/
theorem tryGrantHold_store_cases (s : State) :
    (tryGrantHold s).power = s.power ∧
      ((tryGrantHold s).store = s.store ∨ (tryGrantHold s).store = unverifyLookups s.store) := by
  by_cases hready : s.holdReady = true
  · rw [tryGrantHold_ready hready]
    exact ⟨rfl, .inr rfl⟩
  · rw [tryGrantHold_not_ready hready]
    exact ⟨rfl, .inl rfl⟩

/-- The completion with groups dirty leaves the array to free as if the hold stood and the backlog had fallen; with the
urgent count above 0 and no checkpoint waiting a further one is asked (08 R162). -/
theorem checkpointDone_arrayFreed {s : State} {g : Nat} {entries : List ImageEntry} {v : NvArray}
    (hv : v = NvArray.withImage { s.nv with stamp := s.nv.stamp + 1 } g entries) (hdirty : s.store.anyDirty = true)
    (h3 : s.store.backlog ≤ 3) {fallen : State}
    (hfallen : fallen = { s.resumed with
      nv := v, store := { s.store.ending with backlog := s.store.backlog - 1 } }) :
    (s.store.urgent = 0 → (checkpointDone g entries { s with store := s.store.ending }).arrayFreed = fallen.arrayFreed) ∧
    ∀ next, s.power = .running → 0 < s.store.urgent → s.store.checkpointWaits = false → s.store.nextDirty = some next →
      (checkpointDone g entries { s with store := s.store.ending }).arrayFreed = (fallen.urgentAsked next).arrayFreed := by
  have hdone := checkpointDone_dirty (s := { s with store := s.store.ending }) (entries := entries) hv hdirty
  have hresumed := resumed_onStore s (c := s.store.ending) rfl v
  have hmoved : setBacklog (s.store.backlog - 1) { s with store := s.store.ending, nv := v } = fallen ∨
      setBacklog (s.store.backlog - 1) { s with store := s.store.ending, nv := v } = tryGrantHold fallen := by
    have hcases := setBacklog_cases { s with store := s.store.ending, nv := v } (v := s.store.backlog - 1) (by omega)
    rw [hresumed] at hcases
    rw [hfallen]
    exact hcases
  have hstep (t : State) (ht : t = fallen ∨ t = tryGrantHold fallen) :
      (s.store.urgent = 0 → urgentStep t = t) ∧
      ∀ next, s.power = .running → 0 < s.store.urgent → s.store.checkpointWaits = false → s.store.nextDirty = some next →
        urgentStep t = t.urgentAsked next := by
    obtain ⟨hp, hst⟩ : t.power = s.power ∧ (t.store = fallen.store ∨ t.store = unverifyLookups fallen.store) := by
      have hpower : fallen.power = s.power := by
        rw [hfallen]
        show s.resumed.power = s.power
        unfold State.resumed
        split <;> rfl
      rcases ht with rfl | rfl
      · exact ⟨hpower, .inl rfl⟩
      · exact ⟨(tryGrantHold_store_cases fallen).1.trans hpower, (tryGrantHold_store_cases fallen).2⟩
    have hfs : fallen.store = { s.store.ending with backlog := s.store.backlog - 1 } := by rw [hfallen]
    have hurgent : t.store.urgent = s.store.urgent := by rcases hst with h | h <;> rw [h, hfs] <;> rfl
    have hfreeing : t.store.freeing = true := by rcases hst with h | h <;> rw [h, hfs] <;> rfl
    have hnext : t.store.nextDirty = s.store.nextDirty := by rcases hst with h | h <;> rw [h, hfs] <;> rfl
    have hwaits : t.store.checkpointWaits = s.store.checkpointWaits := by
      rcases hst with h | h
      · rw [h, hfs]; rfl
      · rw [h, checkpointWaits_unverify, hfs]; rfl
    refine ⟨fun h0 => if_neg (by rw [hurgent, h0]; omega), fun next hrun hpos hw hg => ?_⟩
    rw [urgentStep, if_pos ⟨by rw [hurgent]; exact hpos, by rw [hwaits]; exact hw⟩, askUrgent, hnext, hg]
    exact askCheckpoint_freeing (s := t.onStore fun c => { c with urgent := c.urgent - 1 }) (hp.trans hrun) hfreeing next 1
  rw [hdone]
  have hfreed (t : State) (h : setBacklog (s.store.backlog - 1) { s with store := s.store.ending, nv := v } = t) :
      (urgentStep (setBacklog (s.store.backlog - 1) { s with store := s.store.ending, nv := v })).arrayFreed =
        (urgentStep t).arrayFreed := congrArg (fun t => (urgentStep t).arrayFreed) h
  rcases hmoved with h | h
  · obtain ⟨hnone, hasks⟩ := hstep fallen (.inl rfl)
    refine ⟨fun h0 => (hfreed _ h).trans ?_, fun next hrun hpos hw hg => (hfreed _ h).trans ?_⟩
    · rw [hnone h0]
    · rw [hasks next hrun hpos hw hg]
  · obtain ⟨hnone, hasks⟩ := hstep (tryGrantHold fallen) (.inr rfl)
    refine ⟨fun h0 => (hfreed _ h).trans ?_, fun next hrun hpos hw hg => (hfreed _ h).trans ?_⟩
    · rw [hnone h0, arrayFreed_tryGrantHold]
    · rw [hasks next hrun hpos hw hg, arrayFreed_urgentAsked]

/-- The completion with no group dirty clears the backlog and the urgent count (08 R161, R162). -/
theorem checkpointDone_clean_arrayFreed {s : State} {g : Nat} {entries : List ImageEntry} {v : NvArray}
    (hv : v = NvArray.withImage { s.nv with stamp := s.nv.stamp + 1 } g entries) (hclean : s.store.anyDirty = false) :
    (checkpointDone g entries { s with store := s.store.ending }).arrayFreed =
      State.arrayFreed { s.resumed with nv := v, store := { s.store.ending with backlog := 0, urgent := 0 } } := by
  have hdone := checkpointDone_clean (s := { s with store := s.store.ending }) (entries := entries) hv hclean
  have hcases := setBacklog_cases
    { s with store := { s.store.ending with urgent := 0 }, nv := v } (v := 0) (by omega)
  rw [resumed_onStore s (c := { s.store.ending with urgent := 0 }) rfl v] at hcases
  rw [hdone]
  rcases hcases with h | h
  · exact congrArg State.arrayFreed h
  · exact (congrArg State.arrayFreed h).trans (arrayFreed_tryGrantHold _)

end Sys2Proof.Machine

/-! PROOFS. O52: checkpoints by the period, the backlog and the trickle. -/

namespace Sys2Proof.Machine

section
variable {s : State}

theorem unurgent (h : s.store.urgent = 0) :
    ({ s.store.ending with backlog := 0, urgent := 0 } : StoreControl) = { s.store.ending with backlog := 0 } :=
  congrArg (fun n => ({ s.store.ending with backlog := 0, urgent := n } : StoreControl)) h.symm

theorem resumed_power (s : State) : s.resumed.power = s.power := by
  unfold State.resumed
  split <;> rfl

theorem periodOver_iff (hp : s.power = .running) :
    s.periodOver = true ↔ s.timers.period ≤ (s.clock.counter - s.store.lastExpiry).toNat := by
  simp only [State.periodOver, hp, PowerState.listens, Bool.true_and, decide_eq_true_eq]
  rfl

theorem exec_periodExpiry (hp : s.power = .running)
    (hover : s.timers.period ≤ (s.clock.counter - s.store.lastExpiry).toNat) :
    exec .checkpointPeriodExpiry s = .next (settle (periodExpiry s)) :=
  congrArg Host.Outcome.next (if_pos ((periodOver_iff hp).mpr hover))

theorem work_of_waiting (h : s.store.checkpointWaits = true ∨ s.store.checkpointHeld = true) :
    (s.store.anyDirty || s.store.checkpointWaits || s.store.checkpointHeld) = true := by
  rcases h with h | h <;> simp [h]

theorem work_of_dirty (h : s.store.anyDirty = true) :
    (s.store.anyDirty || s.store.checkpointWaits || s.store.checkpointHeld) = true := by simp [h]

/-- An expiry at a backlog of 2, and all that follows at its event (08 R162; 04 R78). -/
theorem exec_periodExpiry_rise {c : StoreControl} (hp : s.power = .running)
    (hover : s.timers.period ≤ (s.clock.counter - s.store.lastExpiry).toNat) (hb : s.store.backlog = 2)
    (hwork : (s.store.anyDirty || s.store.checkpointWaits || s.store.checkpointHeld) = true)
    (hurgent : ∀ fc pm na,
      beginUrgent { s with
          freeCount := fc, permits := pm, notices := na
          store := { s.store with lastExpiry := s.clock.counter, backlog := 3 } } =
        { s with freeCount := fc, permits := pm, notices := na, store := c })
    (hfl : c.flush = false) (hstands : c.checkpointStands) :
    ∃ t : State, exec .checkpointPeriodExpiry s = .next t ∧
      t = { s with freeCount := t.freeCount, permits := t.permits, notices := t.notices, store := c } ∧
      (s.permits.hold = .granted → t.permits = { s.permits with hold := .interrupted } ∧
        ∃ unstated : Byte, t.notices = (notify [7, 3, unstated] s).notices) ∧
      (s.permits.hold ≠ .granted → t.permits = s.permits ∧ t.notices = s.notices) := by
  obtain ⟨fc, pm, na, hexpiry, hgranted, hother⟩ := periodExpiry_rise hb hwork hurgent
  refine ⟨{ s with freeCount := fc, permits := pm, notices := na, store := c }, ?_, rfl, hgranted, hother⟩
  rw [exec_periodExpiry hp hover, hexpiry]
  exact congrArg Host.Outcome.next (settle_quiet hp hfl (trickleDue_stands hstands))

/-- A checkpoint made urgent stays a checkpoint. -/
theorem madeUrgent_stands {c : StoreControl} (h : c.checkpointStands) : c.madeUrgent.checkpointStands := by
  have hone (o : StoreOp) : o.urgent.work.isCheckpoint = o.work.isCheckpoint := by
    unfold StoreOp.urgent
    split <;> rfl
  refine h.imp (fun hw => ?_) (fun hh => ?_)
  · simp only [StoreControl.checkpointWaits, StoreControl.madeUrgent, List.any_map] at hw ⊢
    rw [← hw]
    exact congrArg (fun f => c.queue.any f) (funext hone)
  · cases hx : c.holder with
    | none => rw [StoreControl.checkpointHeld, hx] at hh; cases hh
    | some x =>
      simp only [StoreControl.checkpointHeld, hx] at hh
      simp only [StoreControl.checkpointHeld, StoreControl.madeUrgent, hx, Option.map_some, hh, if_true, hone]

/-- A rise that finds no checkpoint asks one of the next dirty group, two more to follow (08 R162). -/
theorem beginUrgent_asks {g : Nat} (h : s.runs) (hw : s.store.checkpointWaits = false) (hh : s.store.checkpointHeld = false)
    (hg : s.store.nextDirty = some g) :
    beginUrgent s =
      { s with store := ({ s with store := { s.store with urgent := 2 } } : State).checkpointAsked g 1 } := by
  have hnone : ¬(s.store.checkpointWaits || s.store.checkpointHeld) = true := by simp [hw, hh]
  have hasks : beginUrgent s = askUrgent (s.onStore fun c => { c with urgent := 3 }) := if_neg hnone
  have hg' : (s.onStore fun c => { c with urgent := 3 }).store.nextDirty = some g := hg
  rw [hasks, askUrgent, hg']
  exact askCheckpoint_runs (s := { s with store := { s.store with urgent := 2 } }) h g 1

theorem beginUrgent_held {h : Holder} (hh : s.store.holder = some h)
    (hwork : s.store.checkpointWaits = true ∨ s.store.checkpointHeld = true) :
    beginUrgent s = { s with store := { s.store.madeUrgent with urgent := 2 } } := by
  have hwork' : (s.store.checkpointWaits || s.store.checkpointHeld) = true := by rcases hwork with h | h <;> simp [h]
  have hheld : ¬(s.onStore fun c => { c.madeUrgent with urgent := 2 }).store.holder.isNone = true := by
    simp [State.onStore, StoreControl.madeUrgent, hh]
  exact (if_pos hwork').trans (if_neg hheld)

/-- An expiry at a backlog of 3 leaves it there while there is something to save (08 R160). -/
theorem periodExpiry_full (hb : s.store.backlog = 3)
    (hwork : (s.store.anyDirty || s.store.checkpointWaits || s.store.checkpointHeld) = true) :
    periodExpiry s = { s with store := { s.store with lastExpiry := s.clock.counter } } := by
  have hmoved : periodExpiry s = setBacklog (min (s.store.backlog + 1) Config.maxBacklog)
      (s.onStore fun k => { k with lastExpiry := s.clock.counter }) :=
    (if_pos hwork).trans (if_neg (show ¬s.store.backlog = 2 by omega))
  have hmin : min (s.store.backlog + 1) Config.maxBacklog = s.store.backlog := by rw [hb]; rfl
  rw [hmoved, hmin, setBacklog_plain]
  · rfl
  · show ¬(s.store.backlog = 3 ∧ s.store.backlog < 3); omega
  · show ¬(s.store.backlog < 3 ∧ s.store.backlog = 3); omega

end

/-- Settles O52. -/
theorem checkpointsRunByPeriodAndTrickle : Obligations.CheckpointsRunByPeriodAndTrickle := by
  intro s hp hfl hb hf
  have hruns : s.runs := ⟨hp, hfl, hb, hf⟩
  refine ⟨fun hearly => ?_, fun hover => ⟨fun h0 hclean hw hh => ?_, fun h1 hwork => ?_, fun h1 hdirty hw hh hq => ?_,
    fun h g h2 hholder hw hh hg => ?_, fun g h2 hholder hw hg => ?_, fun h h2 hholder hwork => ?_, fun h3 => ⟨?_, ?_⟩⟩,
    fun g hg hd hpos hptr hnone hw hh hq => ⟨fun hholder => ?_, fun hholder => ?_⟩, fun hquiet => ?_,
    fun h g entries v hs hholder hwork hdata hv => ⟨fun resumed hresumed h3 hurgent => ⟨fun next hnext hw => ?_,
      fun hnext => ?_⟩, fun hurgent => ⟨fun h2 hclean => ?_, fun h2 hdirty => ?_, fun h3 hint => ?_⟩⟩⟩
  · exact congrArg Host.Outcome.next (if_neg fun h => by have := (periodOver_iff hp).mp h; omega)
  · have hclean' := (anyDirty_eq_false s.store).mpr hclean
    rw [exec_periodExpiry hp hover, periodExpiry_clear (by simp [hclean', hw, hh]) (by omega), ← h0]
    exact congrArg Host.Outcome.next (settle_quiet hp hfl (trickleDue_eq_false (.inl h0)))
  · have hwork' : (s.store.anyDirty || s.store.checkpointWaits || s.store.checkpointHeld) = true := by
      rcases hwork with h | h | ⟨h, -⟩
      · exact work_of_waiting (.inl h)
      · exact work_of_waiting (.inr h)
      · exact work_of_dirty ((anyDirty_iff _).mpr h)
    rw [exec_periodExpiry hp hover, periodExpiry_low h1 hwork']
    refine congrArg Host.Outcome.next (settle_quiet hp hfl (trickleDue_eq_false ?_))
    rcases hwork with h | h | ⟨-, h⟩
    · exact .inr (.inr (.inl h))
    · exact .inr (.inr (.inr (.inl h)))
    · exact .inr (.inr (.inr (.inr h)))
  · refine ⟨_, rfl, ?_⟩
    rw [exec_periodExpiry hp hover, periodExpiry_low h1 (work_of_dirty ((anyDirty_iff _).mpr hdirty))]
    exact congrArg Host.Outcome.next (settle_runs ⟨hp, hfl, hb, hf⟩)
  · refine exec_periodExpiry_rise hp hover h2 (work_of_dirty (anyDirty_of_nextDirty hg)) (fun fc pm na => ?_) hfl
      (.inl (List.any_eq_true.mpr ⟨_, List.mem_append_right _ (List.mem_singleton.mpr rfl), rfl⟩))
    refine (beginUrgent_asks (s := { s with
      freeCount := fc, permits := pm, notices := na
      store := { s.store with lastExpiry := s.clock.counter, backlog := 3 } }) ⟨hp, hfl, hb, hf⟩ hw hh hg).trans ?_
    simp only [State.checkpointAsked, hholder]
  · refine exec_periodExpiry_rise hp hover h2 (work_of_dirty (anyDirty_of_nextDirty hg)) (fun fc pm na => ?_) hfl
      (.inr rfl)
    have hh : s.store.checkpointHeld = false := by simp [StoreControl.checkpointHeld, hholder]
    refine (beginUrgent_asks (s := { s with
      freeCount := fc, permits := pm, notices := na
      store := { s.store with lastExpiry := s.clock.counter, backlog := 3 } }) ⟨hp, hfl, hb, hf⟩ hw hh hg).trans ?_
    simp only [State.checkpointAsked, hholder]
    rfl
  · have hmade : s.store.madeUrgent.holder = some (if h.op.work.isCheckpoint then
        { h with op := { h.op with cls := 1 }, suspendable := false } else h) := by
      simp only [StoreControl.madeUrgent, hholder, Option.map_some, StoreOp.urgent]
      split <;> rfl
    refine exec_periodExpiry_rise hp hover h2 (work_of_waiting hwork) (fun fc pm na => ?_) hfl ?_
    · refine (beginUrgent_held (s := { s with
      freeCount := fc, permits := pm, notices := na
      store := { s.store with lastExpiry := s.clock.counter, backlog := 3 } }) hholder hwork).trans ?_
      rw [← hmade]
      rfl
    · rw [← hmade]
      exact madeUrgent_stands hwork
  · intro hwork
    have hwork' : (s.store.anyDirty || s.store.checkpointWaits || s.store.checkpointHeld) = true := by
      rcases hwork with h | h
      · exact work_of_dirty ((anyDirty_iff _).mpr h)
      · exact work_of_waiting h
    rw [exec_periodExpiry hp hover, periodExpiry_full h3 hwork']
    exact congrArg Host.Outcome.next (settle_runs ⟨hp, hfl, hb, hf⟩)
  · intro hclean hw hh hfree
    have hclean' := (anyDirty_eq_false s.store).mpr hclean
    rw [exec_periodExpiry hp hover, periodExpiry_clear (by simp [hclean', hw, hh]) fun _ => hfree]
    exact congrArg Host.Outcome.next (settle_quiet hp hfl (trickleDue_eq_false (.inl rfl)))
  · refine congrArg Host.Outcome.next
      ((askTrickle_due hruns (trickleDue_of hg hd hpos hw hh hq) (nextDirty_eq hg hptr hd hnone)).trans ?_)
    simp only [State.checkpointAsked, hholder]
    rfl
  · obtain ⟨h, hholder⟩ := Option.ne_none_iff_exists'.mp hholder
    refine congrArg Host.Outcome.next
      ((askTrickle_due hruns (trickleDue_of hg hd hpos hw hh hq) (nextDirty_eq hg hptr hd hnone)).trans ?_)
    simp only [State.checkpointAsked, hholder]
  · exact congrArg Host.Outcome.next (askTrickle_not_due (trickleDue_eq_false hquiet))
  all_goals
    have hv' : v = NvArray.withImage { s.nv with stamp := s.nv.stamp + 1 } g entries := hv
    rw [exec_checkpointCompletion hs hholder hwork hdata]
  · obtain rfl : resumed = s.resumed := hresumed
    have hpower := (resumed_power s).trans hp
    rw [(checkpointDone_arrayFreed hv' (anyDirty_of_nextDirty hnext) h3 rfl).2 next hp hurgent hw hnext]
    have hfreed := arrayFreed_runs (s := State.urgentAsked { s.resumed with
      nv := v, store := { s.store.ending with backlog := s.store.backlog - 1 } } next) hpower hfl hb
    refine congrArg Host.Outcome.next (settle_quiet hfreed.1 hfreed.2.1 (trickleDue_stands ?_))
    exact checkpointStands_arrayFreed
      (List.any_eq_true.mpr ⟨_, List.mem_append_right _ (List.mem_singleton.mpr rfl), rfl⟩)
  · obtain rfl : resumed = s.resumed := hresumed
    have hpower := (resumed_power s).trans hp
    rw [checkpointDone_clean_arrayFreed hv' (anyDirty_of_nextDirty_none hnext)]
    have hfreed := arrayFreed_runs (s := { s.resumed with
      nv := v, store := { s.store.ending with backlog := 0, urgent := 0 } }) hpower hfl hb
    refine congrArg Host.Outcome.next (settle_quiet hfreed.1 hfreed.2.1 (trickleDue_eq_false (.inl ?_)))
    exact arrayFreed_backlog _
  · have hresumed : s.resumed = s := if_neg fun h => by omega
    rw [checkpointDone_clean_arrayFreed hv' ((anyDirty_eq_false s.store).mpr hclean), hresumed,
      unurgent hurgent]
    have hfreed := arrayFreed_runs (s := { s with nv := v, store := { s.store.ending with backlog := 0 } }) hp hfl hb
    refine congrArg Host.Outcome.next (settle_quiet hfreed.1 hfreed.2.1 (trickleDue_eq_false (.inl ?_)))
    exact arrayFreed_backlog _
  · have hresumed : s.resumed = s := if_neg fun h => by omega
    rw [(checkpointDone_arrayFreed hv' ((anyDirty_iff s.store).mpr hdirty) (by omega) rfl).1 hurgent, hresumed]
    exact congrArg Host.Outcome.next (settle_runs (arrayFreed_runs hp hfl hb))
  · obtain ⟨b, hfreed⟩ : ∃ b, (checkpointDone g entries { s with store := s.store.ending }).arrayFreed =
        State.arrayFreed { s.resumed with nv := v, store := { s.store.ending with backlog := b } } := by
      cases hd : s.store.anyDirty with
      | true => exact ⟨_, (checkpointDone_arrayFreed hv' hd (by omega) rfl).1 hurgent⟩
      | false => exact ⟨0, (checkpointDone_clean_arrayFreed hv' hd).trans (by rw [unurgent hurgent])⟩
    have hresumed : s.resumed = { s with
        permits := { s.permits with hold := .granted }
        notices := (notify (holdGrantedNotice true) s).notices } := if_pos ⟨h3, hint⟩
    rw [hfreed, hresumed]
    obtain ⟨u, hu⟩ : ∃ u, u = State.arrayFreed ({ s with
        permits := { s.permits with hold := .granted }
        notices := (notify (holdGrantedNotice true) s).notices
        nv := v, store := { s.store.ending with backlog := b } }) := ⟨_, rfl⟩
    have huruns : u.runs := by rw [hu]; exact arrayFreed_runs hp hfl hb
    obtain ⟨c, hc, -⟩ := askTrickle_runs huruns
    obtain ⟨ms, ws, st, hframe⟩ := freeArray_frame ({ s with
        permits := { s.permits with hold := .granted }
        notices := (notify (holdGrantedNotice true) s).notices
        nv := v, store := { s.store.ending with backlog := b } })
    have hnot : tryGrantHold ({ s with
        permits := { s.permits with hold := .granted }
        notices := (notify (holdGrantedNotice true) s).notices
        nv := v, store := { s.store.ending with backlog := b } }) = _ := tryGrantHold_not_ready (by simp [holdReady_iff])
    refine ⟨{ u with store := c }, congrArg Host.Outcome.next ?_, ?_⟩
    · rw [← hu, settle_runs huruns, hc]
    · rw [hu, State.arrayFreed, hnot, hframe]
      exact ⟨rfl, rfl, rfl⟩

end Sys2Proof.Machine

/-! PROOFS. The writes of held drops not yet asked: what one adds to the state, and that they are asked lowest machine
first as far as free places allow. -/

namespace Sys2Proof.Machine

/-! ## A write asked outside Parked -/

/-- A write of classes 1 to 3 asked outside Parked takes the Free array, and waits last otherwise. -/
theorem ask_write {op : StoreOp} {s : State} (hp : s.power ≠ .parked) (hr : op.work.isRead = false) (hc : op.cls ≤ 3)
    (hg : ∀ t, grantOp op t = takeArray op .nothing t) : ask op s = { s with store := s.store.taking op } := by
  have hl : leaveParked op s = s := leaveParked_of_not (.inl hp)
  cases hf : s.store.freeing <;> cases hh : s.store.holder <;>
    simp [ask, hl, hf, hh, hg, hc, takeArray, enqueue, State.onStore, StoreControl.taking, hr]

/-! ## One held drop -/

/-- The held drop of a machine whose write has not been asked. -/
def MachineRecord.unasked? (m : MachineRecord) : Option Snapshot := if m.heldAsked.isNone then m.heldDrop else none

theorem nextHeld?_eq (s : State) :
    s.nextHeld? = s.machines.findSome? fun m => m.unasked?.map fun snap => (m, snap) := by
  unfold State.nextHeld?
  congr 1
  funext m
  cases hd : m.heldDrop <;> cases ha : m.heldAsked <;> simp [MachineRecord.unasked?, hd, ha]

theorem askHeldDrop_none {r : Requester} {s : State} (h : s.nextHeld? = none) : askHeldDrop r s = s := by
  simp only [askHeldDrop, h]

theorem askHeldDrop_full {r : Requester} {s : State} (h : 256 ≤ s.cash.placesTaken) : askHeldDrop r s = s := by
  have hf : s.cash.freePlace = false := decide_eq_false (Nat.not_lt.mpr h)
  simp only [askHeldDrop, hf]
  split <;> rfl

/-- A held drop written takes its number and its place, and its round's entry the number (05 R96). -/
theorem askHeldDrop_asked {r : Requester} {s : State} {m : MachineRecord} {snap : Snapshot}
    (hn : s.nextHeld? = some (m, snap)) (hf : s.cash.placesTaken < 256) (hp : s.power ≠ .parked)
    (hc : s.heldClass ≤ 3) : askHeldDrop r s = s.heldDropAsked m.number snap s.dropPlace s.heldClass r := by
  have hfree : s.cash.freePlace = true := decide_eq_true hf
  simp only [askHeldDrop, hn, hfree, if_true, takePlace]
  rw [ask_write (by exact hp) rfl (by exact hc) (fun _ => rfl), numberEntry]
  simp only [State.heldDropAsked]
  cases hround : s.cash.round with
  | none => rfl
  | some x =>
    by_cases hx : snap.round = some x.number
    · have hx' : (some x).any (fun x => decide (snap.round = some x.number)) = true := by simp [hx]
      simp only [hx', if_true]
      refine (if_pos hx).trans ?_
      rw [ask_write (by exact hp) rfl (Nat.le_succ 2) (fun _ => rfl)]
      rfl
    · have hx' : (some x).any (fun x => decide (snap.round = some x.number)) = false := by simp [hx]
      simp only [hx', Bool.false_eq_true, if_false]
      refine (if_neg hx).trans ?_
      rw [← hround]
      rfl

/-! ## All of them -/

/-- One machine's turn when the held drops not yet asked are written. -/
def heldTurn (cls : Nat) (r : Requester) (t : State) (m : MachineRecord) : State :=
  match m.unasked? with
  | some snap => if t.cash.placesTaken < 256 then t.heldDropAsked m.number snap t.dropPlace cls r else t
  | none => t

theorem heldDropsAsked_eq (s : State) (cls : Nat) (r : Requester) :
    s.heldDropsAsked cls r = s.machines.foldl (heldTurn cls r) s := by
  unfold State.heldDropsAsked
  congr 1
  funext t m
  cases hd : m.heldDrop <;> cases ha : m.heldAsked <;> simp [heldTurn, MachineRecord.unasked?, hd, ha]

/-- What every held drop's write keeps is kept when all of them are asked. -/
theorem heldDropsAsked_induct {P : State → Prop} {s : State} (cls : Nat) (r : Requester) (hs : P s)
    (hstep : ∀ t n snap place, P t → P (t.heldDropAsked n snap place cls r)) : P (s.heldDropsAsked cls r) := by
  rw [heldDropsAsked_eq]
  generalize s.machines = ms
  induction ms generalizing s with
  | nil => exact hs
  | cons m rest ih =>
    refine ih ?_
    unfold heldTurn
    split
    · split
      · exact hstep _ _ _ _ hs
      · exact hs
    · exact hs

theorem heldTurns_full {cls : Nat} {r : Requester} {s : State} (h : 256 ≤ s.cash.placesTaken) (ms : List MachineRecord) :
    ms.foldl (heldTurn cls r) s = s := by
  have hturn : ∀ m, heldTurn cls r s m = s := by
    intro m
    unfold heldTurn
    split
    · exact if_neg (Nat.not_lt.mpr h)
    · rfl
  induction ms with
  | nil => rfl
  | cons m rest ih => rw [List.foldl_cons, hturn, ih]

theorem askHeldDrops_full {r : Requester} {s : State} (h : 256 ≤ s.cash.placesTaken) (fuel : Nat) :
    askHeldDrops r fuel s = s := by
  induction fuel with
  | zero => rfl
  | succ fuel ih => rw [askHeldDrops, askHeldDrop_full h, ih]

theorem askHeldDrops_none {r : Requester} {s : State} (h : s.nextHeld? = none) (fuel : Nat) :
    askHeldDrops r fuel s = s := by
  induction fuel with
  | zero => rfl
  | succ fuel ih => rw [askHeldDrops, askHeldDrop_none h, ih]

/-- The machines once the held drop of one of them has been asked, where numbers ascend. -/
theorem heldDropAsked_machines {s : State} {before after : List MachineRecord} {m : MachineRecord} {snap : Snapshot}
    {place cls : Nat} {r : Requester} (hm : s.machines = before ++ m :: after)
    (hn : (s.machines.map MachineRecord.number).Pairwise (· < ·)) :
    (s.heldDropAsked m.number snap place cls r).machines =
      before ++
        { m with heldAsked := some (place, if 65535 ≤ s.cash.dropCounter then 1 else s.cash.dropCounter + 1) } ::
          after := by
  rw [hm, List.map_append, List.map_cons, List.pairwise_append, List.pairwise_cons] at hn
  obtain ⟨-, ⟨hafter, -⟩, hbefore⟩ := hn
  have hout : ∀ (l : List MachineRecord) (f : MachineRecord → MachineRecord), (∀ x ∈ l, x.number ≠ m.number) →
      (l.map fun x => if x.number = m.number then f x else x) = l := fun l f hl =>
    (List.map_congr_left fun x hx => if_neg (hl x hx)).trans (List.map_id l)
  show s.machines.map _ = _
  rw [hm, List.map_append, List.map_cons, if_pos rfl, hout before, hout after]
  · exact fun x hx => (hafter x.number (List.mem_map_of_mem hx)).ne'
  · exact fun x hx => (hbefore x.number (List.mem_map_of_mem hx) m.number (by simp)).ne

/-- The held drops not yet asked are those of the machines left, where none before them has one. -/
theorem askHeldDrops_turns {r : Requester} {cls : Nat} (after : List MachineRecord) (before : List MachineRecord)
    (fuel : Nat) (s : State) (hm : s.machines = before ++ after)
    (hn : (s.machines.map MachineRecord.number).Pairwise (· < ·)) (hb : ∀ m ∈ before, m.unasked? = none)
    (hl : after.length ≤ fuel) (hp : s.power ≠ .parked) (hc : s.heldClass = cls) (h3 : cls ≤ 3) :
    askHeldDrops r fuel s = after.foldl (heldTurn cls r) s := by
  have hskip : before.findSome? (fun m => m.unasked?.map fun snap => (m, snap)) = none := by
    rw [List.findSome?_eq_none_iff]
    exact fun m hmem => by rw [hb m hmem]; rfl
  induction after generalizing before fuel s with
  | nil => exact askHeldDrops_none (by rw [nextHeld?_eq, hm, List.append_nil, hskip]) fuel
  | cons m rest ih =>
    cases hu : m.unasked? with
    | none =>
      have hb' : ∀ x ∈ before ++ [m], x.unasked? = none := by
        intro x hx
        rcases List.mem_append.mp hx with hx | hx
        · exact hb x hx
        · rw [List.mem_singleton.mp hx, hu]
      rw [List.foldl_cons, show heldTurn cls r s m = s by simp only [heldTurn, hu]]
      refine ih (before ++ [m]) fuel s (by simp [hm]) hn hb' (by simp at hl; omega) hp hc ?_
      rw [List.findSome?_append, hskip]
      simp [hu]
    | some snap =>
      by_cases hfree : s.cash.placesTaken < 256
      · obtain ⟨fuel, rfl⟩ : ∃ k, fuel = k + 1 := ⟨fuel - 1, by simp at hl; omega⟩
        have hnext : s.nextHeld? = some (m, snap) := by
          rw [nextHeld?_eq, hm, List.findSome?_append, hskip]
          simp [hu]
        have hms := heldDropAsked_machines (snap := snap) (place := s.dropPlace) (cls := cls) (r := r) hm hn
        have hturn : heldTurn cls r s m = s.heldDropAsked m.number snap s.dropPlace cls r := by
          simp only [heldTurn, hu]
          exact if_pos hfree
        rw [askHeldDrops, askHeldDrop_asked hnext hfree hp (by omega), hc, List.foldl_cons, hturn]
        refine ih (before ++ [_]) fuel _ (by rw [hms, List.append_assoc]; rfl) ?_ ?_ (by simp at hl; omega) hp hc ?_
        · rw [hms]
          rw [hm] at hn
          simpa using hn
        · intro x hx
          rcases List.mem_append.mp hx with hx | hx
          · exact hb x hx
          · rw [List.mem_singleton.mp hx]
            rfl
        · rw [List.findSome?_append, hskip]
          rfl
      · rw [askHeldDrops_full (Nat.not_lt.mp hfree), heldTurns_full (Nat.not_lt.mp hfree)]

/-- The model's writing of held drops is that of 05 R96, where machine numbers ascend. -/
theorem askHeldDrops_eq {r : Requester} {s : State} (hn : (s.machines.map MachineRecord.number).Pairwise (· < ·))
    (hp : s.power ≠ .parked) : askHeldDrops r s.machines.length s = s.heldDropsAsked s.heldClass r := by
  rw [heldDropsAsked_eq]
  exact askHeldDrops_turns s.machines [] _ s rfl hn (by simp) le_rfl hp rfl (by
    unfold State.heldClass
    split <;> decide)

end Sys2Proof.Machine

/-! PROOFS. What a flush asks of the store at its beginning: a checkpoint for every dirty group of which none waits, then
the held drops; and what follows at the same event. -/

namespace Sys2Proof.Machine

theorem Octet.get_put {α : Type} (o : Octet α) (v : α) {i j : Nat} (hi : i < 8) (hj : j < 8) :
    (o.set i v).get j = if j = i then v else o.get j := by
  interval_cases i <;> interval_cases j <;> rfl

theorem Octet.get_set_same {α : Type} (o : Octet α) (v : α) {i : Nat} (hi : i < 8) : (o.set i v).get i = v :=
  (Octet.get_put o v hi hi).trans (if_pos rfl)

theorem Octet.get_set_other {α : Type} (o : Octet α) (v : α) {i j : Nat} (hi : i < 8) (hj : j < 8) (h : j ≠ i) :
    (o.set i v).get j = o.get j := (Octet.get_put o v hi hj).trans (if_neg h)

/-! ## Operations that join the queue -/

/-- The state once operations have joined the store's queue. -/
def State.queued (s : State) (ops : List StoreOp) : State :=
  { s with store := { s.store with queue := s.store.queue ++ ops } }

theorem State.queued_queued (s : State) (a b : List StoreOp) : (s.queued a).queued b = s.queued (a ++ b) := by
  simp [State.queued]

theorem State.queued_nil (s : State) : s.queued [] = s := by simp [State.queued]

/-! ## The checkpoints of a flush -/

/-- A flush's checkpoint of a group (08 R164). -/
def flushOp (g : Nat) : StoreOp := ⟨.checkpoint g, 1, .flush⟩

/-- A flush asks a checkpoint of the group: it is dirty and no checkpoint of it waits (08 R164). -/
def StoreControl.wants (c : StoreControl) (g : Nat) : Bool := c.dirty.get g && !c.groupWaits g

theorem flushGroup_unwanted {s : State} {g : Nat} (h : s.store.wants g = false) : flushGroup s g = s :=
  if_neg (ne_true_of_eq_false h)

/-- The state once the array, which is Free, is granted to a flush's checkpoint of a group, which takes its image
(08 R158). -/
def State.flushGranted (s : State) (g : Nat) : State :=
  { s with
    store := { s.store with
      holder := some ⟨flushOp g, 0, false, .image (imageOf g s)⟩
      dirty := s.store.dirty.set g false
      pointer := (g + 1) % 8 } }

/-- A flush's checkpoint of a group takes the Free array. -/
theorem askFlushCheckpoint_free {s : State} (hp : s.power ≠ .parked) (hf : s.store.freeing = false)
    (hh : s.store.holder = none) (g : Nat) : askFlushCheckpoint g s = s.flushGranted g := by
  rw [askFlushCheckpoint, ask, leaveParked_of_not (.inl hp)]
  simp [hf, hh, grantOp, takeArray, imageOf, State.onStore, State.flushGranted, flushOp]

/-- While the array is held a flush's checkpoint waits last. -/
theorem askFlushCheckpoint_held {s : State} {h : Holder} (hp : s.power ≠ .parked) (hf : s.store.freeing = false)
    (hh : s.store.holder = some h) (g : Nat) :
    askFlushCheckpoint g s = s.queued [flushOp g] := by
  rw [askFlushCheckpoint, ask, leaveParked_of_not (.inl hp)]
  simp [hf, hh, StoreWork.isRead, enqueue, State.onStore, State.queued, flushOp]

theorem wants_queued_other (s : State) {g k : Nat} (h : k ≠ g) :
    (s.queued [flushOp g]).store.wants k = s.store.wants k := by
  have hne : (StoreWork.checkpoint g == StoreWork.checkpoint k) = false :=
    beq_eq_false_iff_ne.mpr fun he => h (StoreWork.checkpoint.inj he).symm
  simp [StoreControl.wants, StoreControl.groupWaits, State.queued, flushOp, hne]

/-- While the array is held the checkpoints that a flush asks wait in the order of their groups. -/
theorem flushGroups_held {s : State} {h : Holder} {groups : List Nat} (hp : s.power ≠ .parked)
    (hf : s.store.freeing = false) (hh : s.store.holder = some h) (hn : groups.Nodup) :
    groups.foldl flushGroup s = s.queued ((groups.filter s.store.wants).map flushOp) := by
  induction groups generalizing s with
  | nil => exact s.queued_nil.symm
  | cons g rest ih =>
    obtain ⟨hg, hrest⟩ := List.nodup_cons.mp hn
    rw [List.foldl_cons]
    cases hw : s.store.wants g with
    | false => rw [flushGroup_unwanted hw, ih hp hf hh hrest, List.filter_cons_of_neg (ne_true_of_eq_false hw)]
    | true =>
      have hsame : rest.filter (s.queued [flushOp g]).store.wants = rest.filter s.store.wants :=
        List.filter_congr fun k hk => wants_queued_other s fun he => hg (he ▸ hk)
      rw [flushGroup, if_pos (by exact hw), askFlushCheckpoint_held hp hf hh, ih (s := s.queued [flushOp g]) hp hf hh hrest,
        hsame, List.filter_cons_of_pos hw, List.map_cons, State.queued_queued, List.singleton_append]

/-- The store once a flush has asked its checkpoints of these groups: the first takes the Free array with its image
(08 R164). -/
def State.checkpointsAsked (s : State) (groups : List Nat) : State :=
  match s.store.holder, groups with
  | none, g :: rest => (s.flushGranted g).queued (rest.map flushOp)
  | _, _ => s.queued (groups.map flushOp)

theorem flushGroups_free {s : State} {groups : List Nat} (hp : s.power ≠ .parked) (hf : s.store.freeing = false)
    (hh : s.store.holder = none) (hn : groups.Nodup) (h8 : ∀ g ∈ groups, g < 8) :
    groups.foldl flushGroup s = s.checkpointsAsked (groups.filter s.store.wants) := by
  induction groups with
  | nil => simp [State.checkpointsAsked, State.queued_nil]
  | cons g rest ih =>
    obtain ⟨hg, hrest⟩ := List.nodup_cons.mp hn
    rw [List.foldl_cons]
    cases hw : s.store.wants g with
    | false =>
      rw [flushGroup_unwanted hw, ih hrest fun k hk => h8 k (List.mem_cons_of_mem _ hk),
        List.filter_cons_of_neg (ne_true_of_eq_false hw)]
    | true =>
      have hsame : rest.filter (s.flushGranted g).store.wants = rest.filter s.store.wants := by
        refine List.filter_congr fun k hk => ?_
        have hne : k ≠ g := fun he => hg (he ▸ hk)
        show ((s.store.dirty.set g false).get k && _) = (_ && _)
        rw [Octet.get_set_other _ _ (h8 g List.mem_cons_self) (h8 k (List.mem_cons_of_mem _ hk)) hne]
        rfl
      rw [flushGroup, if_pos (by exact hw), askFlushCheckpoint_free hp hf hh,
        flushGroups_held (s := s.flushGranted g) (h := ⟨flushOp g, 0, false, .image (imageOf g s)⟩) hp hf rfl hrest, hsame,
        List.filter_cons_of_pos hw]
      simp only [State.checkpointsAsked, hh]

/-- The checkpoints that a flush asks at its beginning. -/
theorem flushGroups_eq {s : State} (hp : s.power ≠ .parked) (hf : s.store.freeing = false) :
    flushGroups s = s.checkpointsAsked ([0, 1, 2, 3, 4, 5, 6, 7].filter s.store.wants) := by
  cases hh : s.store.holder with
  | none => exact flushGroups_free hp hf hh (by decide) (by decide)
  | some h =>
    refine (flushGroups_held hp hf hh (by decide)).trans ?_
    simp only [State.checkpointsAsked, hh]

/-! ## Every dirty group has its checkpoint -/

/-- While a group is dirty a checkpoint waits. -/
def StoreControl.covered (c : StoreControl) : Prop := c.anyDirty = true → c.checkpointWaits = true

theorem groupWaits_checkpointWaits {c : StoreControl} {g : Nat} (h : c.groupWaits g = true) : c.checkpointWaits = true := by
  simp only [StoreControl.groupWaits, StoreControl.checkpointWaits, List.any_eq_true, beq_iff_eq] at h ⊢
  obtain ⟨o, ho, hw⟩ := h
  exact ⟨o, ho, by rw [hw]; rfl⟩

theorem checkpointsAsked_covered (s : State) :
    (s.checkpointsAsked ([0, 1, 2, 3, 4, 5, 6, 7].filter s.store.wants)).store.covered := by
  intro hd
  have hqueued : ∀ (t : State) (l : List Nat) (g : Nat), g ∈ l →
      (t.queued (l.map flushOp)).store.checkpointWaits = true := fun t l g hg =>
    List.any_eq_true.mpr ⟨flushOp g, List.mem_append_right _ (List.mem_map_of_mem hg), rfl⟩
  have hstood : ∀ (t : State) (l : List StoreOp) (g : Nat), t.store.groupWaits g = true →
      (t.queued l).store.checkpointWaits = true := by
    intro t l g hg
    have hw := groupWaits_checkpointWaits hg
    simp only [StoreControl.checkpointWaits, State.queued, List.any_append, Bool.or_eq_true] at hw ⊢
    exact .inl hw
  have hmem : ∀ g < 8, s.store.dirty.get g = true → s.store.groupWaits g = false →
      g ∈ [0, 1, 2, 3, 4, 5, 6, 7].filter s.store.wants := by
    intro g hg hdirty hwaits
    refine List.mem_filter.mpr ⟨by interval_cases g <;> simp, ?_⟩
    simp [StoreControl.wants, hdirty, hwaits]
  obtain ⟨g, hg, hdirty⟩ := (anyDirty_iff _).mp hd
  have hmem8 : ∀ k ∈ [0, 1, 2, 3, 4, 5, 6, 7].filter s.store.wants, k < 8 := by
    intro k hk
    have := List.mem_of_mem_filter hk
    simp at this
    omega
  generalize [0, 1, 2, 3, 4, 5, 6, 7].filter s.store.wants = groups at hmem hmem8 hdirty ⊢
  cases hh : s.store.holder with
  | some h =>
    simp only [State.checkpointsAsked, hh] at hdirty ⊢
    cases hw : s.store.groupWaits g with
    | true => exact hstood s _ g hw
    | false => exact hqueued s _ g (hmem g hg hdirty hw)
  | none =>
    cases groups with
    | nil =>
      simp only [State.checkpointsAsked, hh] at hdirty ⊢
      cases hw : s.store.groupWaits g with
      | true => exact hstood s _ g hw
      | false => exact absurd (hmem g hg hdirty hw) List.not_mem_nil
    | cons k rest =>
      simp only [State.checkpointsAsked, hh] at hdirty ⊢
      change (s.store.dirty.set k false).get g = true at hdirty
      have hk := hmem8 k List.mem_cons_self
      have hne : g ≠ k := by
        rintro rfl
        rw [Octet.get_set_same _ _ hk] at hdirty
        cases hdirty
      rw [Octet.get_set_other _ _ hk hg hne] at hdirty
      cases hw : s.store.groupWaits g with
      | true => exact hstood (s.flushGranted k) _ g hw
      | false => exact hqueued _ rest g ((List.mem_cons.mp (hmem g hg hdirty hw)).resolve_left hne)

theorem covered_taking {c : StoreControl} (h : c.covered) (op : StoreOp) : (c.taking op).covered := by
  unfold StoreControl.taking
  split
  · exact h
  · intro hd
    have hw := h hd
    simp only [StoreControl.checkpointWaits, List.any_append, Bool.or_eq_true] at hw ⊢
    exact .inl hw

theorem covered_heldDropAsked {t : State} (h : t.store.covered) (n : Nat) (snap : Snapshot) (place cls : Nat)
    (r : Requester) : (t.heldDropAsked n snap place cls r).store.covered := by
  unfold State.heldDropAsked
  simp only
  split
  · exact covered_taking (covered_taking h _) _
  · exact covered_taking h _

end Sys2Proof.Machine

/-! PROOFS. The beginning of a flush, what follows it at the same event, and the passage to Parked or to the start of an
OrderlyRestart. -/

namespace Sys2Proof.Machine

/-! ## What follows an event in Flushing -/

/-- What passes to Parked or starts the PD64 is decided by the plain forms of 11 R197. -/
theorem parkReady_iff (s : State) :
    s.parkReady = true ↔
      s.power = .flushing ∧ (s.store.flushOver ∧ ¬s.store.writing) ∧ (s.restartAsked = false ∨ s.warning = true) := by
  simp [State.parkReady, drained_iff, and_assoc]

theorem restartReady_iff (s : State) :
    s.restartReady = true ↔
      s.power = .flushing ∧ (s.store.flushOver ∧ ¬s.store.writing) ∧ s.restartAsked = true ∧ s.warning = false := by
  simp [State.restartReady, drained_iff, and_assoc]

theorem parkOrRestart_waits {s : State} (h : ¬(s.store.flushOver ∧ ¬s.store.writing)) : parkOrRestart s = s := by
  rw [parkOrRestart, if_neg fun hr => h ((restartReady_iff s).mp hr).2.1, if_neg fun hp => h ((parkReady_iff s).mp hp).2.1]

theorem parkOrRestart_parks {s : State} (h : s.parkReady = true) : parkOrRestart s = s.parked := by
  have hnot : ¬s.restartReady = true := by
    rw [restartReady_iff]
    rintro ⟨-, -, hr, hw⟩
    rcases ((parkReady_iff s).mp h).2.2 with h' | h'
    · rw [hr] at h'; cases h'
    · rw [hw] at h'; cases h'
  rw [parkOrRestart, if_neg hnot, if_pos h]
  rfl

theorem parkOrRestart_restarts {s : State} (h : s.restartReady = true) : parkOrRestart s = s.started .orderlyRestart := by
  rw [parkOrRestart, if_pos h, beginStart_eq]

/-- The state once its flush has ended. -/
def State.unflushed (s : State) : State := { s with store := { s.store with flush := false } }

theorem endFlush_over {s : State} (h : s.store.flushOver) : endFlush s = s.unflushed := by
  have hd := (flushDrained_iff s.store).mpr h
  cases hf : s.store.flush with
  | true => simp [endFlush, hf, hd, State.onStore, State.unflushed]
  | false =>
    rw [endFlush, hf, Bool.false_and, if_neg Bool.false_ne_true, State.unflushed, ← hf]

theorem endFlush_not_over {s : State} (h : ¬s.store.flushOver) : endFlush s = s := by
  rw [endFlush, Bool.eq_false_iff.mpr (mt (flushDrained_iff s.store).mp h), Bool.and_false, if_neg Bool.false_ne_true]

/-- While the flush is not over nothing more follows where no trickle is due. -/
theorem settle_flushing {s : State} (hdue : s.store.trickleDue = false) (h : ¬s.store.flushOver) : settle s = s := by
  rw [settle, askTrickle_not_due hdue, endFlush_not_over h, parkOrRestart_waits fun ho => h ho.1]

theorem settle_over {s : State} (hdue : s.store.trickleDue = false) (h : s.store.flushOver) :
    settle s = parkOrRestart s.unflushed := by
  rw [settle, askTrickle_not_due hdue, endFlush_over h]

theorem trickleDue_covered {c : StoreControl} (h : c.covered) : c.trickleDue = false := by
  cases hd : c.anyDirty with
  | false => simp [StoreControl.trickleDue, hd]
  | true => exact trickleDue_stands (.inl (h hd))

/-! ## The beginning of a flush (11 R196, 08 R164) -/

/-- The state in which a flush asks its checkpoints: the lines run, and what waits is held back or made the flush's. -/
def State.flushBegun (s : State) : State :=
  State.onStore { s with power := .flushing, safe := false, linesStopped := false } StoreControl.heldBack

theorem flushAsked_eq (s : State) :
    s.flushAsked =
      (s.flushBegun.checkpointsAsked ([0, 1, 2, 3, 4, 5, 6, 7].filter s.flushBegun.store.wants)).heldDropsAsked 1 .flush := by
  unfold State.flushAsked
  refine congrArg (fun t : State => t.heldDropsAsked 1 .flush) ?_
  show ({ s with power := .flushing, safe := false, linesStopped := false, store := _ } : State) =
    State.checkpointsAsked _ ([0, 1, 2, 3, 4, 5, 6, 7].filter s.flushBegun.store.wants)
  have hgroups : ([0, 1, 2, 3, 4, 5, 6, 7].filter fun g =>
      s.store.dirty.get g && !((s.store.queue.filter fun o => !(o.work.isCheckpoint && o.cls == 6)).map fun o =>
        if o.work.isCheckpoint then { o with requester := .flush } else o).any fun o => o.work == .checkpoint g) =
      [0, 1, 2, 3, 4, 5, 6, 7].filter s.flushBegun.store.wants := rfl
  simp only [hgroups]
  generalize [0, 1, 2, 3, 4, 5, 6, 7].filter s.flushBegun.store.wants = groups
  cases hh : s.store.holder with
  | none =>
    cases groups <;>
      simp only [State.checkpointsAsked, State.flushBegun, State.onStore, StoreControl.heldBack, hh] <;> rfl
  | some h => simp only [State.checkpointsAsked, State.flushBegun, State.onStore, StoreControl.heldBack, hh]; rfl

/-- What a flush asked leaves: the PD64 Flushing, and every dirty group with a checkpoint that waits. -/
theorem flushAsked_frame (s : State) :
    s.flushAsked.power = .flushing ∧ s.flushAsked.warning = s.warning ∧ s.flushAsked.restartAsked = s.restartAsked ∧
      s.flushAsked.store.covered := by
  rw [flushAsked_eq]
  refine heldDropsAsked_induct (P := fun t => t.power = .flushing ∧ t.warning = s.warning ∧
    t.restartAsked = s.restartAsked ∧ t.store.covered) 1 .flush ⟨?_, ?_, ?_, checkpointsAsked_covered _⟩
    fun t n snap place ⟨hp, hw, hr, hc⟩ => ⟨hp, hw, hr, covered_heldDropAsked hc n snap place 1 .flush⟩
  all_goals
    unfold State.checkpointsAsked
    split <;> rfl

theorem enterFlushing_eq {s : State} (hf : s.store.freeing = false)
    (hn : (s.machines.map MachineRecord.number).Pairwise (· < ·)) (hc : s.warning = true ∨ s.restartAsked = true) :
    enterFlushing s = settle s.flushAsked := by
  have hgroups := flushGroups_eq (s := s.flushBegun) (by exact nofun) hf
  obtain ⟨t, ht⟩ : ∃ t, t = flushGroups s.flushBegun := ⟨_, rfl⟩
  have hframe : t.power = .flushing ∧ t.machines = s.machines ∧ t.warning = s.warning ∧
      t.restartAsked = s.restartAsked := by
    rw [ht, hgroups]
    unfold State.checkpointsAsked
    split <;> exact ⟨rfl, rfl, rfl, rfl⟩
  obtain ⟨hpower, hms, hw, hr⟩ := hframe
  have hclass : t.heldClass = 1 := by
    rw [State.heldClass, hw, hr]
    rcases hc with h | h <;> simp [h]
  have hdrops := askHeldDrops_eq (r := .flush) (s := t) (by rw [hms]; exact hn) (by rw [hpower]; exact nofun)
  have hunfold : enterFlushing s =
      settle (askHeldDrops .flush (flushGroups s.flushBegun).machines.length (flushGroups s.flushBegun)) := rfl
  rw [hunfold, ← ht, hdrops, hclass, flushAsked_eq, ← hgroups, ← ht]

/-- What a flush's beginning comes to, where what is to be saved decides (11 R196, R201). -/
theorem settle_flushAsked (s : State) :
    (¬s.flushAsked.store.flushOver → settle s.flushAsked = s.flushAsked) ∧
      (s.flushAsked.store.flushOver → s.flushAsked.store.writing → settle s.flushAsked = s.flushAsked.unflushed) ∧
      (s.flushAsked.store.flushOver → ¬s.flushAsked.store.writing → (s.restartAsked = false ∨ s.warning = true) →
        settle s.flushAsked = s.flushAsked.unflushed.parked) ∧
      (s.flushAsked.store.flushOver → ¬s.flushAsked.store.writing → s.restartAsked = true → s.warning = false →
        settle s.flushAsked = s.flushAsked.started .orderlyRestart) := by
  obtain ⟨hp, hw, hr, hc⟩ := flushAsked_frame s
  have hdue := trickleDue_covered hc
  refine ⟨settle_flushing hdue, fun ho hwr => ?_, fun ho hwr h => ?_, fun ho hwr h h' => ?_⟩
  · rw [settle_over hdue ho, parkOrRestart_waits (s := s.flushAsked.unflushed) fun h => h.2 hwr]
  · rw [settle_over hdue ho, parkOrRestart_parks (s := s.flushAsked.unflushed) ((parkReady_iff _).mpr ⟨hp, ⟨ho, hwr⟩, ?_⟩)]
    rw [← hr, ← hw] at h
    exact h
  · rw [settle_over hdue ho, parkOrRestart_restarts (s := s.flushAsked.unflushed)
      ((restartReady_iff _).mpr ⟨hp, ⟨ho, hwr⟩, hr.trans h, hw.trans h'⟩)]
    rfl

end Sys2Proof.Machine

/-! PROOFS. The power-fail warning, Parked and the work that leaves it, the withdrawal, and OrderlyRestart (11). -/

namespace Sys2Proof.Machine

/-! ## The awake states -/

/-- Outside Parked an operation asked changes machines, waiting returns and the store, and leaves the hold-back and the
flush. -/
theorem ask_awake {op : StoreOp} {s : State} (hp : s.power ≠ .parked) :
    ∃ ms ws st, ask op s =
        { s with machines := ms, permits := { s.permits with waitingReturns := ws }, store := st } ∧
      st.steady = s.store.steady := by
  rw [ask, leaveParked_of_not (.inl hp)]
  split
  · exact ⟨s.machines, s.permits.waitingReturns, _, rfl, rfl⟩
  · split
    · split
      · obtain ⟨ms, ws, st, h⟩ := grantOp_frame op s
        have hst := grantOp_steady op s
        rw [h] at hst
        exact ⟨ms, ws, st, h, hst⟩
      · exact ⟨s.machines, s.permits.waitingReturns, _, rfl, rfl⟩
    · split
      · exact ⟨s.machines, s.permits.waitingReturns, _, rfl, rfl⟩
      · exact ⟨s.machines, s.permits.waitingReturns, _, rfl, rfl⟩

theorem askTrickle_awake {s : State} (hp : s.power ≠ .parked) :
    ∃ ms ws st, askTrickle s =
        { s with machines := ms, permits := { s.permits with waitingReturns := ws }, store := st } ∧
      st.steady = s.store.steady := by
  unfold askTrickle
  split
  · split
    · exact ask_awake hp
    · exact ⟨s.machines, s.permits.waitingReturns, s.store, rfl, rfl⟩
  · exact ⟨s.machines, s.permits.waitingReturns, s.store, rfl, rfl⟩

theorem endFlush_holdBack (s : State) : ∃ st, endFlush s = { s with store := st } ∧ st.holdBack = s.store.holdBack := by
  unfold endFlush
  split
  · exact ⟨_, rfl, rfl⟩
  · exact ⟨s.store, rfl, rfl⟩

/-- What follows an event in Running changes machines, waiting returns and the store, and leaves the hold-back. -/
theorem settle_awake {s : State} (hp : s.power = .running) :
    ∃ ms ws st, settle s =
        { s with machines := ms, permits := { s.permits with waitingReturns := ws }, store := st } ∧
      st.holdBack = s.store.holdBack := by
  obtain ⟨ms, ws, st, ht, hsteady⟩ := askTrickle_awake (s := s) (by rw [hp]; exact nofun)
  obtain ⟨st', he, hb⟩ := endFlush_holdBack (askTrickle s)
  simp only [StoreControl.steady, Prod.mk.injEq] at hsteady
  refine ⟨ms, ws, st', ?_, ?_⟩
  · rw [settle, he, ht, parkOrRestart, if_neg (by simp [State.restartReady, hp]), if_neg (by simp [State.parkReady, hp])]
  · rw [hb, ht]
    exact hsteady.1

/-! ## The withdrawal -/

/-- The state in which the PD64 runs on: the hold-back has ended (11 R198). -/
def State.runOn (s : State) : State :=
  { s with power := .running, safe := false, linesStopped := false, store := { s.store with holdBack := false } }

theorem resumeRunning_eq (s : State) :
    resumeRunning s = settle (if s.store.holder.isNone then freeArray s.runOn else s.runOn) := rfl

theorem resumeRunning_frame (s : State) :
    (resumeRunning s).power = .running ∧ (resumeRunning s).safe = false ∧ (resumeRunning s).warning = s.warning ∧
      (resumeRunning s).linesStopped = false ∧ (resumeRunning s).store.holdBack = false := by
  rw [resumeRunning_eq]
  obtain ⟨t, ht⟩ : ∃ t, t = if s.store.holder.isNone then freeArray s.runOn else s.runOn := ⟨_, rfl⟩
  have hframe : t.power = .running ∧ t.safe = false ∧ t.warning = s.warning ∧ t.linesStopped = false ∧
      t.store.holdBack = false := by
    rw [ht]
    split
    · obtain ⟨ms, ws, st, h⟩ := freeArray_frame s.runOn
      have hsteady := freeArray_steady s.runOn
      simp only [StoreControl.steady, Prod.mk.injEq] at hsteady
      exact ⟨by rw [h]; rfl, by rw [h]; rfl, by rw [h]; rfl, by rw [h]; rfl, hsteady.1⟩
    · exact ⟨rfl, rfl, rfl, rfl, rfl⟩
  obtain ⟨hp, hsafe, hw, hl, hb⟩ := hframe
  rw [← ht]
  obtain ⟨ms, ws, st, h, hst⟩ := settle_awake hp
  rw [h]
  exact ⟨hp, hsafe, hw, hl, hst.trans hb⟩

/-- With no backlog and no flush the PD64 runs on with what its array then grants. -/
theorem resumeRunning_plain {s : State} (hb : s.store.backlog = 0) (hf : s.store.flush = false) :
    (s.store.holder ≠ none → resumeRunning s = s.runOn) ∧
      (s.store.holder = none → s.permits.hold ≠ .requested → resumeRunning s = s.runOn.arrayFreed) := by
  rw [resumeRunning_eq]
  refine ⟨fun hh => ?_, fun hh hr => ?_⟩
  · obtain ⟨h, hh⟩ := Option.ne_none_iff_exists'.mp hh
    rw [hh, Option.isNone_some, if_neg Bool.false_ne_true]
    exact settle_calm (s := s.runOn) rfl hb hf
  · rw [hh, Option.isNone_none, if_pos rfl, ← arrayFreed_not_requested (.inl (by exact hr))]
    have hsteady := arrayFreed_steady s.runOn
    simp only [StoreControl.steady, Prod.mk.injEq] at hsteady
    exact settle_calm (arrayFreed_power s.runOn) (hsteady.2.2.1.trans hb) (hsteady.2.1.trans hf)

/-! ## Work in Parked and its completion -/

/-- An operation of a flush waiting or in progress keeps the flush from being over. -/
theorem not_flushOver_of_flushOp {c : StoreControl} {g : Nat}
    (h : flushOp g ∈ c.queue ∨ ∃ x, c.holder = some x ∧ x.op = flushOp g) : ¬c.flushOver := by
  rintro ⟨-, hq, hh⟩
  rcases h with h | ⟨x, hx, ho⟩
  · exact hq _ h rfl
  · exact hh x hx (by rw [ho]; rfl)

/-- A group marked dirty in Parked is given its class-1 checkpoint, which returns the PD64 to Flushing (11 R197). -/
theorem markDirty_parked {s : State} {g : Nat} (hp : s.power = .parked) (hf : s.store.freeing = false)
    (hw : s.store.groupWaits g = false) {t : State}
    (ht : t = { s with power := .flushing, safe := false, store := { s.store with dirty := s.store.dirty.set g true } }) :
    (s.store.holder = none → markDirty g s = t.flushGranted g) ∧
      (s.store.holder ≠ none → markDirty g s = t.queued [flushOp g]) := by
  have hcond : ((s.store.flush || s.power == .flushing || s.power == .parked) && !s.store.groupWaits g) = true := by
    simp [hp, hw]
  have hmark : markDirty g s = ask (flushOp g) { s with store := { s.store with dirty := s.store.dirty.set g true } } :=
    if_pos hcond
  have hleave : leaveParked (flushOp g) { s with store := { s.store with dirty := s.store.dirty.set g true } } = t := by
    rw [ht]
    exact if_pos ⟨hp, Nat.le_succ 1⟩
  have htf : t.store.freeing = false := by rw [ht]; exact hf
  have hth : t.store.holder = s.store.holder := by rw [ht]
  have htp : t.power ≠ .parked := by rw [ht]; exact nofun
  have hask : ask (flushOp g) t = askFlushCheckpoint g t := rfl
  have hagain : ask (flushOp g) { s with store := { s.store with dirty := s.store.dirty.set g true } } = ask (flushOp g) t := by
    rw [ask, ask, hleave, leaveParked_of_not (.inl htp)]
  rw [hmark, hagain, hask]
  refine ⟨fun hh => askFlushCheckpoint_free htp htf (hth.trans hh) g, fun hh => ?_⟩
  obtain ⟨h, hh⟩ := Option.ne_none_iff_exists'.mp hh
  exact askFlushCheckpoint_held htp htf (hth.trans hh) g

end Sys2Proof.Machine

/-! PROOFS. Flushing, Parked and the restart in full. -/

namespace Sys2Proof.Machine

/-- An array that frees while nothing may be granted is Free. -/
theorem freeArray_nothing {s : State} (h : ∀ o ∈ s.store.queue, s.store.holdBack = true ∧ 4 ≤ o.cls ∨ o.cls = 0 ∨ 6 < o.cls) :
    freeArray s = s.onStore fun c => { c with freeing := false } := by
  have hpick : pickOp (s.onStore fun c => { c with freeing := false }).store = none := pickOp_eq_none h
  cases hh : s.store.holder with
  | none =>
    have hh' : (s.onStore fun c => { c with freeing := false }).store.holder = none := hh
    simp only [freeArray, grantNext, hh', hpick]
  | some x => exact grantNext_held (s := s.onStore fun c => { c with freeing := false }) hh _

/-- The last checkpoint of a flush completes, and Parked is entered at that event (11 R197). -/
theorem checkpointCompletion_parks {s : State} {h : Holder} {g : Nat} {entries : List ImageEntry}
    (hp : s.power = .flushing) (hs : s.store.serving = none) (hh : s.store.holder = some h)
    (hw : h.op.work = .checkpoint g) (hd : h.data = .image entries) (hfree : s.permits.hold = .free)
    (hclean : ∀ i < 8, s.store.dirty.get i = false)
    (hq : ∀ o ∈ s.store.queue, s.store.holdBack = true ∧ 4 ≤ o.cls) (hflush : ∀ o ∈ s.store.queue, o.requester ≠ .flush)
    (hr : s.restartAsked = false ∨ s.warning = true) {t : State}
    (ht : t = { s with
      nv := NvArray.withImage { s.nv with stamp := s.nv.stamp + 1 } g entries
      store := { s.store with holder := none, freeing := false, backlog := 0, urgent := 0 } }) :
    exec .checkpointCompletion s = .next t.unflushed.parked := by
  have hresumed : s.resumed = s := if_neg (by rw [hfree]; exact fun h => nomatch h.2)
  have hfreed : (checkpointDone g entries { s with store := s.store.ending }).arrayFreed = t := by
    obtain ⟨x, hx⟩ : ∃ x, x = { s with
        nv := NvArray.withImage { s.nv with stamp := s.nv.stamp + 1 } g entries
        store := { s.store.ending with backlog := 0, urgent := 0 } } := ⟨_, rfl⟩
    have hhold : x.permits.hold ≠ .requested := by rw [hx]; exact fun hr => nomatch hfree.symm.trans hr
    have hqueue : ∀ o ∈ x.store.queue, x.store.holdBack = true ∧ 4 ≤ o.cls ∨ o.cls = 0 ∨ 6 < o.cls := by
      rw [hx]; exact fun o ho => .inl (hq o ho)
    rw [checkpointDone_clean_arrayFreed rfl ((anyDirty_eq_false _).mpr hclean), hresumed, ← hx,
      arrayFreed_not_requested (.inl hhold), freeArray_nothing hqueue, ht, hx]
    rfl
  have hover : t.store.flushOver := by
    rw [show t.store = { s.store with holder := none, freeing := false, backlog := 0, urgent := 0 } by rw [ht]]
    exact ⟨hclean, hflush, by simp⟩
  have hwriting : ¬t.store.writing := by
    rw [ht]
    rintro (⟨o, ho, hc⟩ | ⟨x, hx, -⟩)
    · have := (hq o ho).2
      omega
    · cases hx
  have hready : t.unflushed.parkReady = true := by
    refine (parkReady_iff _).mpr ⟨?_, ⟨hover, hwriting⟩, ?_⟩
    · rw [ht]; exact hp
    · rw [ht]; exact hr
  have hdue : t.store.trickleDue = false := by
    rw [ht]
    exact trickleDue_eq_false (.inl rfl)
  rw [exec_checkpointCompletion hs hh hw hd, hfreed, settle_over hdue hover, parkOrRestart_parks hready]

/-- A withdrawal outside a restart lets the PD64 run on (11 R198). -/
theorem withdrawn_resumes {s : State} (hp : s.power = .flushing ∨ s.power = .parked) (hr : s.restartAsked = false) :
    exec .warningWithdrawn s = .next (resumeRunning { s with warning := false }) := by
  have hexec : warningWithdrawn s = resumeRunning { s with warning := false } := by
    unfold warningWithdrawn
    rcases hp with hp | hp <;> rw [hp] <;> exact if_neg (ne_true_of_eq_false hr)
  exact congrArg Host.Outcome.next hexec

/-- An OrderlyRestart taken in Running: answered PENDING, the backlog raised to 3 and a Granted hold interrupted
(11 R201, 04 R78). -/
def restartTaken (s : State) : State :=
  interruptHold
    { s with restartAsked := true, cabinet := s.cabinet.awaiting, store := { s.store with backlog := 3 } }

theorem restartTaken_eq (s : State) :
    ∃ unstated : Byte, restartTaken s =
      { s with
        restartAsked := true
        cabinet := s.cabinet.awaiting
        store := { s.store with backlog := 3 }
        freeCount := if s.permits.hold = .granted then s.freeCount + 1 else s.freeCount
        permits := if s.permits.hold = .granted then { s.permits with hold := .interrupted } else s.permits
        notices := if s.permits.hold = .granted then (notify [7, 3, unstated] s).notices else s.notices } := by
  refine ⟨Config.freeNoticeByte s.freeCount, ?_⟩
  by_cases hg : s.permits.hold = .granted
  · simp only [if_pos hg]
    exact if_pos (show s.permits.hold = _ from hg)
  · simp only [if_neg hg]
    exact if_neg (show ¬s.permits.hold = _ from hg)

theorem Octet.set_set {α : Type} (o : Octet α) (i : Nat) (a b : α) : (o.set i a).set i b = o.set i b := by
  match i with
  | 0 | 1 | 2 | 3 | 4 | 5 | 6 | 7 => rfl
  | _ + 8 => rfl

/-- Settles O60. -/
theorem flushingParkingAndRestart : Obligations.FlushingParkingAndRestart := by
  intro s
  refine ⟨fun hp => ?_, fun u hp hf hr hn hu => ?_, fun hp ho hw hr => ?_, fun h => ?_,
    fun h g entries hp hs hh hw hd hfree hclean hq hflush hr => ?_,
    fun n m cleared hp hready hn hn' hm hf hw hcleared => ?_, fun hp hp' => ?_, fun u hp hr hu => ⟨?_, fun hb hf => ?_⟩,
    fun hp hr => ?_, fun h g hp hr hh hw hq => ?_, fun hp ho hw hr hwarn => ?_, fun h => ?_,
    fun hready => ⟨fun hp => ?_, fun hp hf hwarn hb hn => ?_⟩⟩
  · exact congrArg Host.Outcome.next (if_neg hp)
  · have henter : exec .powerFailWarning s = .next (settle (State.flushAsked { s with warning := true })) :=
      congrArg Host.Outcome.next ((if_pos hp).trans (enterFlushing_eq (s := { s with warning := true }) hf hn (.inl rfl)))
    obtain ⟨hmore, hwrites, hparks, -⟩ := settle_flushAsked { s with warning := true }
    rw [henter, hu]
    exact ⟨fun ho => congrArg Host.Outcome.next (hmore ho), fun ho hw => congrArg Host.Outcome.next (hwrites ho hw),
      fun ho hw => congrArg Host.Outcome.next (hparks ho hw (.inl hr))⟩
  · exact congrArg Host.Outcome.next (if_pos ((parkReady_iff s).mpr ⟨hp, ⟨ho, hw⟩, hr⟩))
  · refine congrArg Host.Outcome.next (if_neg fun hready => ?_)
    obtain ⟨hp, ⟨ho, hw⟩, hr⟩ := (parkReady_iff s).mp hready
    rcases h with h | h | h | ⟨h, h'⟩
    · exact h hp
    · exact h ho
    · exact hw h
    · rw [h, h'] at hr
      rcases hr with hr | hr <;> cases hr
  · exact checkpointCompletion_parks hp hs hh hw hd hfree hclean hq hflush hr rfl
  · have hexec : exec (.clearCardTotals n) s = .next (clearCardTotals n s.atCommand) :=
      congrArg Host.Outcome.next (command_atCommand hready _)
    have hin : ¬machineNumber n = false := by rw [machineNumber_iff.mpr ⟨hn, hn'⟩]; decide
    have hm' : s.atCommand.machine? n = some m := hm
    obtain ⟨x, hx⟩ : ∃ x, x = State.onMachine
        (answer (doneWith (byte4 m.cards.amount ++ byte4 m.cards.sales)) s.atCommand) n fun m => { m with cards := emptyCards } :=
      ⟨_, rfl⟩
    have hclear : clearCardTotals n s.atCommand = settle (markDirty m.group x) := by
      rw [clearCardTotals, if_neg hin, hm', hx]
    have hxs : x.store = s.store := by rw [hx]; rfl
    obtain ⟨hfree, hheld⟩ := markDirty_parked (s := x) (g := m.group) (by rw [hx]; exact hp) (by rw [hxs]; exact hf)
      (by rw [hxs]; exact hw) rfl
    rw [hexec, hclear]
    refine ⟨fun hh => ?_, fun hh => ?_⟩
    · rw [hfree (by rw [hxs]; exact hh), settle_flushing (trickleDue_stands (.inr rfl))
        (not_flushOver_of_flushOp (g := m.group) (.inr ⟨_, rfl, rfl⟩)), hx, hcleared]
      refine congrArg Host.Outcome.next ?_
      simp only [State.flushGranted, Octet.set_set]
      rfl
    · rw [hheld (by rw [hxs]; exact hh), settle_flushing, hx, hcleared]
      · rfl
      · exact trickleDue_stands (.inl (List.any_eq_true.mpr ⟨flushOp m.group, List.mem_append_right _ (by simp), rfl⟩))
      · exact not_flushOver_of_flushOp (g := m.group) (.inl (List.mem_append_right _ (by simp)))
  · have hexec : warningWithdrawn s = { s with warning := false } := by
      simp only [warningWithdrawn]
    exact congrArg Host.Outcome.next hexec
  · rw [withdrawn_resumes hp hr]
    obtain ⟨hpower, hsafe, hw, hl, hback⟩ := resumeRunning_frame { s with warning := false }
    exact ⟨_, rfl, hpower, hsafe, hw, hl, hback⟩
  · rw [withdrawn_resumes hp hr, hu]
    obtain ⟨hheld, hfree⟩ := resumeRunning_plain (s := { s with warning := false }) hb hf
    exact ⟨fun hh => congrArg Host.Outcome.next (hheld hh), fun hh hq => congrArg Host.Outcome.next (hfree hh hq)⟩
  · have hexec : warningWithdrawn s = beginStart .orderlyRestart { s with warning := false } := by
      unfold warningWithdrawn
      rw [hp]
      exact if_pos hr
    exact congrArg Host.Outcome.next hexec
  · have hexec : warningWithdrawn s = settle { s with warning := false, linesStopped := false } := by
      unfold warningWithdrawn
      rw [hp]
      exact if_pos hr
    have hdue : s.store.trickleDue = false :=
      trickleDue_stands (.inr (by rw [StoreControl.checkpointHeld, hh]; show h.op.work.isCheckpoint = true; rw [hw]; rfl))
    have hover : ¬s.store.flushOver := fun ho => ho.2.2 h hh hq
    exact congrArg Host.Outcome.next
      (hexec.trans (settle_flushing (s := { s with warning := false, linesStopped := false }) hdue hover))
  · exact congrArg Host.Outcome.next (if_pos ((restartReady_iff s).mpr ⟨hp, ⟨ho, hw⟩, hr, hwarn⟩))
  · refine congrArg Host.Outcome.next (if_neg fun hready => ?_)
    obtain ⟨hp, ⟨ho, hw⟩, hr, hwarn⟩ := (restartReady_iff s).mp hready
    rcases h with h | h | h | h | h
    · exact h hp
    · exact h ho
    · exact hw h
    · exact nomatch h.symm.trans hr
    · exact nomatch h.symm.trans hwarn
  · exact congrArg Host.Outcome.next ((command_atCommand hready _).trans (if_pos (show s.atCommand.power ≠ _ from hp)))
  · have hexec : exec .orderlyRestart s = .next (enterFlushing (restartTaken s)) :=
      congrArg Host.Outcome.next
        ((command_atCommand hready _).trans ((if_neg (show ¬s.atCommand.power ≠ _ from fun h => h hp)).trans
          (congrArg enterFlushing (if_pos (show _ ∧ _ from ⟨rfl, Nat.lt_succ_of_le hb⟩)))))
    obtain ⟨unstated, htaken⟩ := restartTaken_eq s
    have henter := enterFlushing_eq (s := restartTaken s) (by rw [htaken]; exact hf) (by rw [htaken]; exact hn)
      (.inr (by rw [htaken]))
    obtain ⟨hmore, hwrites, -, hstarts⟩ := settle_flushAsked (restartTaken s)
    refine ⟨unstated, restartTaken s, (restartTaken s).flushAsked, htaken, rfl, ?_⟩
    rw [hexec, henter]
    exact ⟨fun ho => congrArg Host.Outcome.next (hmore ho), fun ho hw => congrArg Host.Outcome.next (hwrites ho hw),
      fun ho hw => congrArg Host.Outcome.next
        (hstarts ho hw (by rw [htaken]) (by rw [htaken]; exact hwarn))⟩
end Sys2Proof.Machine

/-! PROOFS. Start-up completion (11 R200): the class-5 writes that wait in Starting, the held drops once all are asked, and
what a machine takes from the store. -/

namespace Sys2Proof.Machine

/-! ## Class-5 writes while they are held back -/

/-- The array is Free and classes 4 to 6 are held back, as in Starting (11 R195). -/
def State.heldUp (s : State) : Prop :=
  s.power ≠ .parked ∧ s.store.holdBack = true ∧ s.store.freeing = false ∧ s.store.holder = none

theorem askTable_heldUp {s : State} (h : s.heldUp) (w : TableWrite) :
    askTable w .nobody s = s.queued [⟨.table w, 5, .nobody⟩] := by
  obtain ⟨hp, hb, hf, hh⟩ := h
  rw [askTable, ask, leaveParked_of_not (.inl hp)]
  simp [hf, hh, hb, enqueue, State.onStore, State.queued]

/-- The write that records the special days left, where one went (01 R9). -/
def prunedWrites (days listed : List Date) : List StoreOp :=
  if days = listed then [] else [⟨.table (.specialDays days), 5, .nobody⟩]

/-- Pruning while class-5 writes are held back. -/
theorem pruneDays_heldUp {s : State} (h : s.heldUp) {days : List Date}
    (hnone : s.clock.time = none → days = s.tariff.specialDays)
    (hsome : ∀ t, s.clock.time = some t → days = s.tariff.specialDays.filter fun d => decide (t.date.key ≤ d.key)) :
    pruneDays s =
      State.queued { s with tariff := { s.tariff with specialDays := days } } (prunedWrites days s.tariff.specialDays) := by
  rw [pruneDays]
  cases ht : s.clock.time with
  | none => simp [hnone ht, prunedWrites, State.queued_nil]
  | some t =>
    have hlen : days.length = s.tariff.specialDays.length ↔ days = s.tariff.specialDays :=
      ⟨fun hl => by rw [hsome t ht] at hl ⊢; exact List.filter_sublist.eq_of_length hl, fun he => by rw [he]⟩
    simp only [← hsome t ht, hlen]
    by_cases he : days = s.tariff.specialDays
    · simp [he, prunedWrites, State.queued_nil]
    · rw [if_neg he, askTable_heldUp (by exact h), prunedWrites, if_neg he]

/-- The working table once the set due, if there is one, has been activated or abandoned (01 R16, R17). -/
def dueZones (due : Option PendingSet) (base : List ZoneEntry) : List ZoneEntry :=
  match due with
  | some p => if p.isSealed then p.zones.foldl activateZone base else base
  | none => base

/-- The write that the set due asks. -/
def dueWrites (due : Option PendingSet) (zones : List ZoneEntry) : List StoreOp :=
  match due with
  | none => []
  | some p =>
    if p.isSealed then
      [⟨.table (.activation (p.zones.map fun z => (z.zone, (zones.getD z.zone ⟨factoryTariff, 0⟩).tariff))), 5, .nobody⟩]
    else [⟨.table (.pendingSet none), 5, .nobody⟩]

/-- The notice area once the notice of the set due has been written. -/
def dueNoticed (due : Option PendingSet) (zones : List ZoneEntry) (s : State) : State :=
  match due with
  | none => s
  | some p =>
    if p.isSealed then
      notify (tariffActivatedNotice (p.zones.map fun z => (z.zone, (zones.getD z.zone ⟨factoryTariff, 0⟩).generation))) s
    else notify (pendingAbandonedNotice p) s

/-- The activation check while class-5 writes are held back (01 R18). -/
theorem activationCheck_heldUp {s : State} (h : s.heldUp) {due : Option PendingSet} {zones : List ZoneEntry}
    (hnone : s.now = none → due = none)
    (hsome : ∀ t, s.now = some t → due = s.tariff.pendingSet.filter fun p => p.activation.atOrBefore t)
    (hz : zones = dueZones due s.tariff.zones) :
    activationCheck s =
      State.queued
        { s with
          tariff := { s.tariff with zones := zones, pendingSet := if due = none then s.tariff.pendingSet else none }
          notices := (dueNoticed due zones s).notices }
        (dueWrites due zones) := by
  cases hd : due with
  | none =>
    have hstay : activationCheck s = s := by
      unfold activationCheck
      split
      next p t hp ht =>
        have hp' := hsome t ht
        rw [hd, hp] at hp'
        exact if_neg fun ha => nomatch hp'.trans (Option.filter_some_pos ha)
      next => rfl
    rw [hstay, hz, hd, dueWrites, State.queued_nil]
    rfl
  | some p =>
    cases hn : s.now with
    | none => exact nomatch (hnone hn).symm.trans hd
    | some t =>
      obtain ⟨hp, ha⟩ := Option.filter_eq_some_iff.mp ((hsome t hn).symm.trans hd)
      have hcheck : activationCheck s = if p.isSealed then activate p s else abandon p s := by
        simp only [activationCheck, hp, hn]
        exact if_pos ha
      rw [hcheck, if_neg (Option.some_ne_none p), hz, hd]
      by_cases hs : p.isSealed = true
      · simp only [dueWrites, dueNoticed, dueZones, if_pos hs]
        rw [activate, askTable_heldUp (by exact h)]
        rfl
      · simp only [dueWrites, dueNoticed, dueZones, if_neg hs]
        rw [abandon, askTable_heldUp (by exact h)]
        rfl

/-! ## Held drops once all are asked -/

/-- No held drop is left whose write could be asked (05 R96). -/
def State.dropsDone (s : State) : Prop := (∀ m ∈ s.machines, m.unasked? = none) ∨ 256 ≤ s.cash.placesTaken

theorem heldTurns_done {r : Requester} {cls : Nat} (after : List MachineRecord) (before : List MachineRecord) (s : State)
    (hm : s.machines = before ++ after) (hn : (s.machines.map MachineRecord.number).Pairwise (· < ·))
    (hb : ∀ m ∈ before, m.unasked? = none) : (after.foldl (heldTurn cls r) s).dropsDone := by
  induction after generalizing before s with
  | nil => exact .inl (by rw [List.foldl_nil, hm, List.append_nil]; exact hb)
  | cons m rest ih =>
    rw [List.foldl_cons]
    have hgrown (x : MachineRecord) (hx : x.unasked? = none) : ∀ y ∈ before ++ [x], y.unasked? = none := by
      intro y hy
      rcases List.mem_append.mp hy with hy | hy
      · exact hb y hy
      · rw [List.mem_singleton.mp hy, hx]
    cases hu : m.unasked? with
    | none =>
      rw [show heldTurn cls r s m = s by simp only [heldTurn, hu]]
      exact ih (before ++ [m]) s (by simp [hm]) hn (hgrown m hu)
    | some snap =>
      by_cases hfree : s.cash.placesTaken < 256
      · have hms := heldDropAsked_machines (snap := snap) (place := s.dropPlace) (cls := cls) (r := r) hm hn
        rw [show heldTurn cls r s m = s.heldDropAsked m.number snap s.dropPlace cls r by
          simp only [heldTurn, hu]
          exact if_pos hfree]
        refine ih (before ++ [_]) _ (by rw [hms, List.append_assoc]; rfl) ?_ (hgrown _ rfl)
        rw [hms]
        rw [hm] at hn
        simpa using hn
      · have hfull := Nat.not_lt.mp hfree
        have hturns := heldTurns_full (cls := cls) (r := r) hfull (m :: rest)
        rw [List.foldl_cons] at hturns
        rw [hturns]
        exact .inr hfull

theorem heldDropsAsked_dropsDone {s : State} (hn : (s.machines.map MachineRecord.number).Pairwise (· < ·)) (cls : Nat)
    (r : Requester) : (s.heldDropsAsked cls r).dropsDone := by
  rw [heldDropsAsked_eq]
  exact heldTurns_done s.machines [] s rfl hn (by simp)

theorem heldDropsAsked_of_done {s : State} (h : s.dropsDone) (cls : Nat) (r : Requester) : s.heldDropsAsked cls r = s := by
  rw [heldDropsAsked_eq]
  rcases h with h | h
  · have hall : ∀ ms : List MachineRecord, (∀ m ∈ ms, m.unasked? = none) → ms.foldl (heldTurn cls r) s = s := by
      intro ms hms
      induction ms with
      | nil => rfl
      | cons m rest ih =>
        rw [List.foldl_cons, show heldTurn cls r s m = s by simp only [heldTurn, hms m List.mem_cons_self]]
        exact ih fun x hx => hms x (List.mem_cons_of_mem _ hx)
    exact hall _ h
  · exact heldTurns_full h _

/-- What a change of the state that the held drops' writes do not see leaves of them. -/
theorem heldDropsAsked_comm {s : State} {f : State → State} {cls : Nat} {r : Requester}
    (hms : ∀ t, (f t).machines = t.machines) (hcash : ∀ t, (f t).cash = t.cash) (hplace : ∀ t, (f t).dropPlace = t.dropPlace)
    (hstep : ∀ t n snap place, f (t.heldDropAsked n snap place cls r) = (f t).heldDropAsked n snap place cls r) :
    (f s).heldDropsAsked cls r = f (s.heldDropsAsked cls r) := by
  rw [heldDropsAsked_eq, heldDropsAsked_eq, hms]
  generalize s.machines = ms
  induction ms generalizing s with
  | nil => rfl
  | cons m rest ih =>
    rw [List.foldl_cons, List.foldl_cons, ← ih]
    refine congrArg (fun t => rest.foldl (heldTurn cls r) t) ?_
    unfold heldTurn
    split
    · rw [hcash, hplace, apply_ite f, hstep]
    · rfl

/-! ## The store while a start's writes are asked -/

/-- The store controller of a start in which held drops may have been asked: nothing dirty, no backlog and no flush, and the
writes asked are no checkpoints and no flush's. -/
structure StoreControl.startUp (c : StoreControl) : Prop where
  freeing : c.freeing = false
  flush : c.flush = false
  backlog : c.backlog = 0
  dirty : ∀ g < 8, c.dirty.get g = false
  queue : ∀ o ∈ c.queue, o.work.isCheckpoint = false ∧ o.requester = .nobody
  holder : ∀ h, c.holder = some h → h.suspendable = false ∧ h.op.work.isRead = false ∧ h.op.requester = .nobody

theorem StoreControl.startUp.taking {c : StoreControl} (h : c.startUp) {op : StoreOp} (hk : op.work.isCheckpoint = false)
    (hr : op.requester = .nobody) (hread : op.work.isRead = false) (hc : op.cls ≤ 3) :
    (c.taking op).startUp ∧ (c.taking op).holder ≠ none := by
  have hnot : decide (4 ≤ op.cls) = false := decide_eq_false (by omega)
  unfold StoreControl.taking
  split
  next => exact ⟨⟨h.freeing, h.flush, h.backlog, h.dirty, h.queue, by
      rintro x hx
      obtain rfl := Option.some.inj hx
      exact ⟨hnot, hread, hr⟩⟩, by simp⟩
  next hne =>
    refine ⟨⟨h.freeing, h.flush, h.backlog, h.dirty, fun o ho => ?_, h.holder⟩, fun hh => hne h.freeing hh⟩
    rcases List.mem_append.mp ho with ho | ho
    · exact h.queue o ho
    · rw [List.mem_singleton.mp ho]
      exact ⟨hk, hr⟩

theorem startUp_heldDropAsked {t : State} (h : t.store.startUp) (n : Nat) (snap : Snapshot) (place : Nat) {cls : Nat}
    (hc : cls ≤ 3) :
    (t.heldDropAsked n snap place cls .nobody).store.startUp ∧
      (t.heldDropAsked n snap place cls .nobody).store.holder ≠ none := by
  unfold State.heldDropAsked
  simp only
  have hdrop (d : DropRecord) := h.taking (op := ⟨.heldWrite ⟨n, place, d⟩, cls, .nobody⟩) rfl rfl rfl hc
  split
  · exact (hdrop _).1.taking rfl rfl rfl (Nat.le_succ 2)
  · exact hdrop _

/-- The held drops of a start: either none was asked, or a write holds the array. -/
theorem heldDropsAsked_startUp {s : State} (h : s.store.startUp) {cls : Nat} (hc : cls ≤ 3) :
    (s.heldDropsAsked cls .nobody).store.startUp ∧
      ((s.heldDropsAsked cls .nobody).store.holder = none → s.heldDropsAsked cls .nobody = s) := by
  refine heldDropsAsked_induct (P := fun t => t.store.startUp ∧ (t.store.holder = none → t = s)) cls .nobody
    ⟨h, fun _ => rfl⟩ fun t n snap place ⟨ht, _⟩ => ?_
  obtain ⟨hs, hh⟩ := startUp_heldDropAsked ht n snap place hc
  exact ⟨hs, fun hn => absurd hn hh⟩

/-- The array of a start frees: the oldest of its class-5 writes is granted, the others wait. -/
theorem freeArray_later {s : State} {c : StoreControl} {later : List StoreOp} (hh : c.holder = none)
    (hb : c.holdBack = false) (hf : c.freeing = false) (hq : c.queue = [])
    (hl : ∀ o ∈ later, o.cls = 5 ∧ ∃ w, o.work = .table w) :
    freeArray { s with store := { c with queue := later } } = { s with store := later.foldl StoreControl.taking c } := by
  cases later with
  | nil =>
    rw [freeArray_empty rfl, State.onStore, List.foldl_nil]
    have hc : ({ c with queue := [], freeing := false } : StoreControl) = c := by rw [← hq, ← hf]
    exact congrArg (fun k => { s with store := k }) hc
  | cons op rest =>
    obtain ⟨hcls, w, hw⟩ := hl op List.mem_cons_self
    have hfold (rest : List StoreOp) (k : StoreControl) {x : Holder} (hx : k.holder = some x) :
        rest.foldl StoreControl.taking k = { k with queue := k.queue ++ rest } := by
      induction rest generalizing k with
      | nil => simp
      | cons o rest ih =>
        have ho : k.taking o = { k with queue := k.queue ++ [o] } := by
          unfold StoreControl.taking
          split
          next hn => exact nomatch hn.symm.trans hx
          next => rfl
        rw [List.foldl_cons, ho, ih { k with queue := k.queue ++ [o] } hx]
        simp
    have hpick : pickOp { c with queue := op :: rest } = some (op, [] ++ rest) := by
      refine pickOp_lowest (before := []) rfl (by omega) (by omega) (.inr hb) (by simp) fun o ho => ?_
      rw [hcls, (hl o (List.mem_cons_of_mem _ ho)).1]
    have hg (t : State) : grantOp op t = takeArray op .nothing t := by rw [grantOp, hw]
    have hread : op.work.isRead = false := by rw [hw]; rfl
    obtain ⟨t, ht⟩ : ∃ t : State, t = { s with store := { c with queue := op :: rest } } := ⟨_, rfl⟩
    have hpick' : pickOp t.store = some (op, [] ++ rest) := by rw [ht]; exact hpick
    have htaken : c.taking op = { c with holder := some ⟨op, 0, decide (4 ≤ op.cls), .nothing⟩ } := by
      simp only [StoreControl.taking, hf, hh]
    rw [← ht, freeArray_taken (s := t) (before := []) (by rw [ht]; exact hh) (by rw [ht]; rfl) hpick' (hg _), List.foldl_cons,
      hfold rest _ (x := ⟨op, 0, decide (4 ≤ op.cls), .nothing⟩) (by rw [htaken]), htaken, ht, hread, hq]
    simp only [State.picked, Bool.not_false, Bool.true_and, List.nil_append, hf]

end Sys2Proof.Machine

/-! PROOFS. Start-up completion in full. -/

namespace Sys2Proof.Machine

/-! ## What a machine takes from the store (08 R159) -/

theorem restoredMachine_eq (v : NvArray) (e : StoredEntry) :
    restoredMachine v e =
      { number := e.machine
        reg := e.reg
        tokens := 0
        openQuote := none
        commit := none
        tally := (restoredTotals v e).1
        cards := (restoredTotals v e).2.1
        accepted := (restoredTotals v e).2.2
        box := if (v.boxRecord e.machine).recorded = .out then .out else .unknown
        recorded := (v.boxRecord e.machine).recorded
        removal := (v.boxRecord e.machine).removal
        reconcileDue := true
        heldDrop := (v.boxRecord e.machine).held
        heldAsked := none
        faults := freshEntries
        flags := e.flags
        service := deriveService e.reg.fitted freshEntries e.flags
        link := .absent
        request := none } := by
  have hbox (b : RecordedBox) : b.restored = if b = .out then .out else .unknown := by cases b <;> rfl
  rw [← hbox]
  rfl

/-- The entry of a machine in the checkpoint of its group, with the checkpoint's stamp. -/
def NvArray.imageEntry? (v : NvArray) (e : StoredEntry) : Option (Nat × ImageEntry) :=
  match (v.images.get (e.reg.position / 8)).current with
  | none => none
  | some image => (image.entries.find? fun y => y.machine == e.machine).map fun y => (image.stamp, y)

theorem restoredTotals_eq (v : NvArray) (e : StoredEntry) :
    ((v.imageEntry? e = none ∨ ∃ stamp y, v.imageEntry? e = some (stamp, y) ∧ stamp ≤ e.registered) →
        restoredTotals v e = (emptyTally, emptyCards, ⟨none, none⟩)) ∧
      ∀ stamp y, v.imageEntry? e = some (stamp, y) → e.registered < stamp →
        restoredTotals v e =
          (if stamp < (v.boxRecord e.machine).snapshotStamp then emptyTally else y.tally, y.cards, y.accepted) := by
  unfold NvArray.imageEntry? restoredTotals
  cases hc : (v.images.get (e.reg.position / 8)).current with
  | none => exact ⟨fun _ => rfl, nofun⟩
  | some image =>
    cases hf : image.entries.find? fun y => y.machine == e.machine with
    | none => exact ⟨fun _ => by simp [hf], by simp [hf]⟩
    | some x =>
      simp only [hf, Option.map_some, Option.some.injEq, Prod.mk.injEq]
      refine ⟨?_, ?_⟩
      · rintro (h | ⟨stamp, y, ⟨rfl, rfl⟩, hle⟩)
        · cases h
        · exact if_pos hle
      · rintro stamp y ⟨rfl, rfl⟩ hlt
        rw [if_neg (by omega), ← apply_ite (fun t => (t, x.cards, x.accepted))]

/-! ## The states of a start-up completion -/

/-- The working state once every block has loaded its copy and RestartComplete is written (11 R200). -/
def State.startLoaded (s : State) (cause : StartCause) : State :=
  notify
    (restartCompleteNotice cause s.clock.time.isSome s.clock.battery s.frozenLatch (loadAll s).machines.length
      (loadAll s).heldCount s.nv.unfetched)
    ((loadAll s).onStore fun c => { c with holdBack := true })

theorem startUpDone_eq (cause : StartCause) (s : State) {t u : State}
    (ht : t = activationCheck (pruneDays (s.startLoaded cause)))
    (hu : u = askHeldDrops .nobody t.machines.length t) :
    startUpDone cause s =
      (if u.warning then enterFlushing { u with roundPort := { u.roundPort with sent := [.lineEnd, .prompt] } }
      else resumeRunning { u with roundPort := { u.roundPort with sent := [.lineEnd, .prompt] } }) := by
  rw [hu, ht]
  rfl

/-- The store controller with its hold-back ended (08 R165). -/
def StoreControl.released (c : StoreControl) : StoreControl := { c with holdBack := false }

theorem released_taking (c : StoreControl) (op : StoreOp) : c.released.taking op = (c.taking op).released := by
  cases hf : c.freeing <;> cases hh : c.holder <;> simp only [StoreControl.released, StoreControl.taking, hf, hh]

/-- What a start leaves on its way to Running or Flushing: the safe output withdrawn, and the round port's line end and
prompt. -/
def State.woken (s : State) : State :=
  { s with
    safe := false
    roundPort := { s.roundPort with sent := [.lineEnd, .prompt] }
    store := s.store.released }

theorem heldDropsAsked_woken (s : State) (cls : Nat) (r : Requester) :
    s.woken.heldDropsAsked cls r = (s.heldDropsAsked cls r).woken := by
  refine heldDropsAsked_comm (f := State.woken) (fun t => rfl) (fun t => rfl) (fun t => rfl) fun t n snap place => ?_
  simp only [State.heldDropAsked, State.woken, State.onMachine, released_taking, apply_ite StoreControl.released]
  rfl

/-- The PD64 runs on after a start: with a held drop's write the rest waits, and else the first class-5 write is granted
(11 R200). -/
theorem resumeRunning_started {s u : State} {later : List StoreOp} (hu : u.store.startUp)
    (hs : u.store.holder = none → u.woken.store = { s.store with queue := later })
    (hreset : s.store.holder = none ∧ s.store.holdBack = false ∧ s.store.freeing = false ∧ s.store.queue = [])
    (hl : ∀ o ∈ later, o.cls = 5 ∧ ∃ w, o.work = .table w) :
    resumeRunning { u with roundPort := { u.roundPort with sent := [.lineEnd, .prompt] } } =
      { u.woken with
        power := .running
        linesStopped := false
        store := if u.store.holder = none then later.foldl StoreControl.taking s.store else u.woken.store } := by
  obtain ⟨x, hx⟩ : ∃ x : State, x = { u.woken with power := .running, linesStopped := false } := ⟨_, rfl⟩
  have hresume : resumeRunning { u with roundPort := { u.roundPort with sent := [.lineEnd, .prompt] } } =
      settle (if u.store.holder.isNone then freeArray x else x) := by rw [hx]; rfl
  rw [hresume]
  cases hh : u.store.holder with
  | some h =>
    rw [Option.isNone_some, if_neg Bool.false_ne_true, if_neg (by simp), hx]
    exact settle_calm (s := { u.woken with power := .running, linesStopped := false }) rfl hu.backlog hu.flush
  | none =>
    obtain ⟨hnone, hback, hfree, hqueue⟩ := hreset
    have hstore := hs hh
    have hx' : x = { x with store := { s.store with queue := later } } := by rw [← hstore, hx]
    have hfreed := freeArray_later (s := x) (c := s.store) hnone hback hfree hqueue hl
    rw [← hx'] at hfreed
    have hsteady := freeArray_steady x
    simp only [StoreControl.steady, Prod.mk.injEq] at hsteady
    rw [Option.isNone_none, if_pos rfl, if_pos rfl, settle_calm]
    · rw [hfreed, hx]
    · rw [hfreed, hx]
    · rw [hsteady.2.2.1, hx]; exact hu.backlog
    · rw [hsteady.2.1, hx]; exact hu.flush

/-- Under the warning a start enters Flushing, and Parked at once where no held drop is written (11 R196, R197, R200). -/
theorem enterFlushing_started {u : State} (hu : u.store.startUp) (hw : u.warning = true) (hr : u.restartAsked = false)
    (hn : (u.machines.map MachineRecord.number).Pairwise (· < ·)) (hdone : u.dropsDone)
    (hq : u.store.holder = none → ∀ o ∈ u.store.queue, o.cls = 5) {t : State}
    (ht : t = { u.woken with
      power := .flushing, linesStopped := false, store := { u.woken.store with holdBack := true } }) :
    (u.store.holder ≠ none →
        enterFlushing { u with roundPort := { u.roundPort with sent := [.lineEnd, .prompt] } } = t) ∧
      (u.store.holder = none →
        enterFlushing { u with roundPort := { u.roundPort with sent := [.lineEnd, .prompt] } } = t.parked) := by
  obtain ⟨y, hy⟩ : ∃ y : State, y = { u with roundPort := { u.roundPort with sent := [.lineEnd, .prompt] } } := ⟨_, rfl⟩
  have hys : y.store = u.store := by rw [hy]
  have hheld : u.store.heldBack = { u.store with holdBack := true, flush := true } := by
    have hholder : (u.store.holder.map fun h => { h with suspendable := false }) = u.store.holder := by
      cases hh : u.store.holder with
      | none => rfl
      | some h =>
        have hsusp := (hu.holder h hh).1
        rw [Option.map_some, ← hsusp]
    have hqueue : (u.store.queue.filter fun o => !o.isTrickle).map StoreOp.joinFlush = u.store.queue := by
      rw [List.filter_eq_self.mpr fun o ho => by simp [StoreOp.isTrickle, (hu.queue o ho).1]]
      exact (List.map_congr_left fun o ho => if_neg (by simp [(hu.queue o ho).1])).trans (List.map_id _)
    rw [StoreControl.heldBack, hholder, hqueue]
  have hbegun : y.flushBegun = { t with store := { t.store with flush := true } } := by
    rw [State.flushBegun, State.onStore, hys, hheld, hy, ht]
    rfl
  have hwants : [0, 1, 2, 3, 4, 5, 6, 7].filter y.flushBegun.store.wants = [] := by
    refine List.filter_eq_nil_iff.mpr fun g hg => ?_
    have hdirty : u.store.dirty.get g = false := hu.dirty g (by simp at hg; omega)
    have hyd : y.flushBegun.store.dirty = u.store.dirty := by rw [hbegun, ht]; rfl
    simp [StoreControl.wants, hyd, hdirty]
  have hasked : y.flushAsked = { t with store := { t.store with flush := true } } := by
    have hnone : y.flushBegun.checkpointsAsked [] = y.flushBegun := by
      unfold State.checkpointsAsked
      split
      next h => cases h
      next => exact State.queued_nil _
    rw [flushAsked_eq, hwants, hnone, heldDropsAsked_of_done, hbegun]
    have hms : y.flushBegun.machines = u.machines := by rw [hbegun, ht]; rfl
    have hcash : y.flushBegun.cash = u.cash := by rw [hbegun, ht]; rfl
    rw [State.dropsDone, hms, hcash]
    exact hdone
  have hstore : y.flushAsked.store = { u.store with holdBack := true, flush := true } := by rw [hasked, ht]; rfl
  have hover : y.flushAsked.store.flushOver := by
    rw [hstore]
    exact ⟨hu.dirty, fun o ho => by rw [(hu.queue o ho).2]; exact nofun,
      fun h hh => by rw [(hu.holder h hh).2.2]; exact nofun⟩
  have hdue : y.flushAsked.store.trickleDue = false := by
    rw [hstore]
    exact trickleDue_eq_false (.inl hu.backlog)
  have hunflushed : y.flushAsked.unflushed = t := by
    have hts : t.store.flush = false := by rw [ht]; exact hu.flush
    rw [hasked, State.unflushed, ← hts]
  have hts : t.store = { u.store with holdBack := true } := by rw [ht]; rfl
  rw [← hy, enterFlushing_eq (by rw [hys]; exact hu.freeing) (by rw [hy]; exact hn) (.inl (by rw [hy]; exact hw)),
    settle_over hdue hover, hunflushed]
  refine ⟨fun hh => parkOrRestart_waits fun h => h.2 ?_, fun hh => parkOrRestart_parks ((parkReady_iff t).mpr ⟨?_, ⟨?_, ?_⟩, ?_⟩)⟩
  · obtain ⟨h, hh⟩ := Option.ne_none_iff_exists'.mp hh
    exact .inr ⟨h, by rw [hts]; exact hh, (hu.holder h hh).2.1⟩
  · rw [ht]
  · rw [← hunflushed]
    exact hover
  · rintro (⟨o, ho, hc⟩ | ⟨h, hx, -⟩)
    · rw [hts] at ho
      have := hq hh o ho
      omega
    · rw [hts] at hx
      exact nomatch hx.symm.trans hh
  · rw [ht]
    exact .inl hr


end Sys2Proof.Machine

/-! PROOFS. Start-up completion: the working state once the sets due and the days past are dealt with, and what it comes
to. -/

namespace Sys2Proof.Machine

/-- The working state of a start once pruning and the activation check have been made, its class-5 writes waiting
(11 R200). -/
def State.startPrepared (s : State) (zones : List ZoneEntry) (days : List Date) (due : Option PendingSet)
    (later : List StoreOp) (notices : NoticeArea) : State :=
  { loadAll s with
    tariff :=
      { zones := zones
        specialDays := days
        pendingSet := if due = none then s.nv.pendingSet else none
        guardWord := s.nv.guardWord.getD factoryGuard }
    notices := notices
    store := { s.store with holdBack := true, queue := later } }

theorem startPrepared_eq {s : State} {cause : StartCause} (hp : s.power = .starting cause)
    (hs : s.store = State.reset.store) {days : List Date} {due : Option PendingSet} {zones : List ZoneEntry}
    (hdnone : s.clock.time = none → days = s.nv.specialDays)
    (hdsome : ∀ t, s.clock.time = some t → days = s.nv.specialDays.filter fun d => decide (t.date.key ≤ d.key))
    (hnone : s.now = none → due = none)
    (hsome : ∀ t, s.now = some t → due = s.nv.pendingSet.filter fun p => p.activation.atOrBefore t)
    (hz : zones = dueZones due ((List.range 16).map (restoredZone s.nv))) :
    activationCheck (pruneDays (s.startLoaded cause)) =
      s.startPrepared zones days due (prunedWrites days s.nv.specialDays ++ dueWrites due zones)
        (dueNoticed due zones (s.startLoaded cause)).notices := by
  have hfree : s.store.freeing = false ∧ s.store.holder = none ∧ s.store.queue = [] := by rw [hs]; exact ⟨rfl, rfl, rfl⟩
  obtain ⟨hf, hh, hq⟩ := hfree
  have hpower : s.power ≠ .parked := by rw [hp]; exact nofun
  have hup : (s.startLoaded cause).heldUp := ⟨hpower, rfl, hf, hh⟩
  have hpruned := pruneDays_heldUp hup (days := days) hdnone hdsome
  obtain ⟨t, ht⟩ : ∃ t, t = pruneDays (s.startLoaded cause) := ⟨_, rfl⟩
  rw [hpruned] at ht
  have hupt : t.heldUp := by rw [ht]; exact ⟨hpower, rfl, hf, hh⟩
  have hcheck := activationCheck_heldUp hupt (due := due) (zones := zones) (by rw [ht]; exact hnone)
    (by rw [ht]; exact hsome) (by rw [ht]; exact hz)
  have hnotices : (dueNoticed due zones t).notices = (dueNoticed due zones (s.startLoaded cause)).notices := by
    rw [ht]
    unfold dueNoticed
    split
    · rfl
    · split <;> rfl
  rw [hpruned, ← ht, hcheck, hnotices, ht]
  simp only [State.queued, State.startPrepared, State.startLoaded, notify, decideOutput, State.onStore, loadAll, hq,
    List.nil_append]

theorem restoredZone_eq (v : NvArray) (z : Nat) :
    restoredZone v z =
      match v.tariffs.find? fun x => x.1 == z with
      | some x => ⟨x.2, 0⟩
      | none => ⟨factoryTariff, 0⟩ := by
  rw [restoredZone]
  cases v.tariffs.find? fun x => x.1 == z <;> rfl

theorem loadAll_length (s : State) : (loadAll s).machines.length = s.nv.directory.length := List.length_map _

theorem loadAll_heldCount (s : State) :
    (loadAll s).heldCount = (s.nv.directory.filter fun e => (s.nv.boxRecord e.machine).held.isSome).length := by
  have hfilter : (loadAll s).machines.filter (fun m => m.heldDrop.isSome) =
      (s.nv.directory.filter fun e => (s.nv.boxRecord e.machine).held.isSome).map (restoredMachine s.nv) :=
    List.filter_map
  rw [State.heldCount, hfilter, List.length_map]

/-- The notice of the set due depends on the notice area, the timers and the seconds counter alone. -/
theorem dueNoticed_congr (due : Option PendingSet) (zones : List ZoneEntry) {s t : State} (hn : s.notices = t.notices)
    (ht : s.timers = t.timers) (hc : s.clock.counter = t.clock.counter) :
    (dueNoticed due zones s).notices = (dueNoticed due zones t).notices := by
  have hnotify (bytes : List Byte) : (notify bytes s).notices = (notify bytes t).notices := by
    simp only [notify, decideOutput, hn, ht, hc]
  unfold dueNoticed
  split
  · exact hn
  · split <;> exact hnotify _

/-- Settles O59. -/
theorem startUpLoadsTheStore : Obligations.StartUpLoadsTheStore := by
  intro s cause hp hs hrestart hdir days due base zones later timers hdays hdue hbase hzones hlater htimers
  obtain ⟨noticesNow, hnotices⟩ : ∃ a, a = (dueNoticed due zones (s.startLoaded cause)).notices := ⟨_, rfl⟩
  have hbase' : base = (List.range 16).map (restoredZone s.nv) :=
    hbase.trans (List.map_congr_left fun z _ => (restoredZone_eq s.nv z).symm)
  have hzones' : zones = dueZones due ((List.range 16).map (restoredZone s.nv)) := by
    rw [hzones, hbase']
    cases due <;> rfl
  have hlater' : later = prunedWrites days s.nv.specialDays ++ dueWrites due zones := by
    rw [hlater]
    cases due <;> rfl
  have hprepared := startPrepared_eq (cause := cause) hp hs (days := days) (due := due) (zones := zones)
    (fun h => by rw [hdays, h]) (fun t h => by rw [hdays, h]) (fun h => by rw [hdue, h]) (fun t h => by rw [hdue, h]) hzones'
  rw [← hlater', ← hnotices] at hprepared
  obtain ⟨t, ht⟩ : ∃ t, t = s.startPrepared zones days due later noticesNow := ⟨_, rfl⟩
  rw [← ht] at hprepared
  have hl : ∀ o ∈ later, o.cls = 5 ∧ (∃ w, o.work = .table w) ∧ o.requester = .nobody := by
    intro o ho
    rw [hlater', List.mem_append] at ho
    rcases ho with ho | ho
    · unfold prunedWrites at ho
      split at ho
      · cases ho
      · rw [List.mem_singleton.mp ho]
        exact ⟨rfl, ⟨_, rfl⟩, rfl⟩
    · unfold dueWrites at ho
      split at ho
      · cases ho
      · split at ho <;>
        · rw [List.mem_singleton.mp ho]
          exact ⟨rfl, ⟨_, rfl⟩, rfl⟩
  have hstart : t.store.startUp := by
    have hts : t.store = { State.reset.store with holdBack := true, queue := later } := by rw [ht, ← hs]; rfl
    rw [hts]
    refine ⟨rfl, rfl, rfl, fun g hg => by interval_cases g <;> rfl, fun o ho => ?_, fun h hh => nomatch hh⟩
    obtain ⟨-, ⟨w, hw⟩, hr⟩ := hl o ho
    exact ⟨by rw [hw]; rfl, hr⟩
  have hms : t.machines = s.nv.directory.map (restoredMachine s.nv) := by rw [ht]; rfl
  have hnumbers : t.machines.map MachineRecord.number = s.nv.directory.map StoredEntry.machine := by
    rw [hms, List.map_map]
    rfl
  have hn : (t.machines.map MachineRecord.number).Pairwise (· < ·) := by rw [hnumbers]; exact hdir
  have htp : t.power ≠ .parked := by rw [ht]; exact fun h => nomatch hp.symm.trans h
  have hclass : t.heldClass = if s.warning then 1 else 2 := by
    have : t.warning = s.warning ∧ t.restartAsked = false := by rw [ht]; exact ⟨rfl, hrestart⟩
    rw [State.heldClass, this.1, this.2, Bool.or_false]
  have hcls3 : (if s.warning then 1 else 2) ≤ 3 := by split <;> decide
  obtain ⟨u, hu⟩ : ∃ u, u = t.heldDropsAsked (if s.warning then 1 else 2) .nobody := ⟨_, rfl⟩
  have hasked : askHeldDrops .nobody t.machines.length t = u := by rw [askHeldDrops_eq hn htp, hclass, hu]
  have hexec : exec .startUpCompletion s = .next
      (if u.warning then enterFlushing { u with roundPort := { u.roundPort with sent := [.lineEnd, .prompt] } }
      else resumeRunning { u with roundPort := { u.roundPort with sent := [.lineEnd, .prompt] } }) := by
    refine congrArg Host.Outcome.next ?_
    rw [startUpCompletion, hp]
    exact startUpDone_eq cause s hprepared.symm hasked.symm
  obtain ⟨hustart, hufree⟩ := heldDropsAsked_startUp hstart (cls := if s.warning then 1 else 2) hcls3
  rw [← hu] at hustart hufree
  have hframe : u.warning = s.warning ∧ u.restartAsked = false ∧
      u.machines.map MachineRecord.number = s.nv.directory.map StoredEntry.machine := by
    rw [hu]
    refine heldDropsAsked_induct (P := fun x => x.warning = s.warning ∧ x.restartAsked = false ∧
      x.machines.map MachineRecord.number = s.nv.directory.map StoredEntry.machine) _ _
      ⟨by rw [ht]; rfl, by rw [ht]; exact hrestart, hnumbers⟩ fun x n snap place ⟨h1, h2, h3⟩ => ⟨h1, h2, ?_⟩
    rw [← h3]
    show (x.machines.map _).map _ = _
    rw [List.map_map]
    exact List.map_congr_left fun m _ => by
      show MachineRecord.number (if m.number = n then _ else m) = _
      split <;> rfl
  obtain ⟨huw, hur, hun⟩ := hframe
  have hreset : s.store.holder = none ∧ s.store.holdBack = false ∧ s.store.freeing = false ∧ s.store.queue = [] := by
    rw [hs]; exact ⟨rfl, rfl, rfl, rfl⟩
  have hwoken : t.woken.store = { s.store with queue := later } := by
    have hsame : ({ s.store with holdBack := false, queue := later } : StoreControl) = { s.store with queue := later } := by
      rw [← hreset.2.1]
    rw [ht, ← hsame]
    rfl
  obtain ⟨told, htold⟩ : ∃ told, told = notify
      (restartCompleteNotice cause s.clock.time.isSome s.clock.battery s.frozenLatch s.nv.directory.length
        (s.nv.directory.filter fun e => (s.nv.boxRecord e.machine).held.isSome).length
        (s.nv.places.filter fun p => !p.fetched).length)
      { s with timers := timers } := ⟨_, rfl⟩
  have hnoticed : noticesNow = (dueNoticed due zones told).notices := by
    rw [hnotices]
    refine dueNoticed_congr due zones ?_ ?_ ?_
    · rw [State.startLoaded, loadAll_length, loadAll_heldCount, htold, htimers]
      rfl
    · rw [htold, htimers]
      rfl
    · rw [htold]
      rfl
  refine ⟨restoredMachine s.nv, told, dueNoticed due zones told, t.woken, u.woken, htold, ?_, ?_, ?_, fun hw => ?_,
    fun hw => ?_, fun e he => ?_⟩
  · cases due <;> rfl
  · rw [← hnoticed]
    have hrecord : t.woken = { t.woken with store := { s.store with queue := later } } := by rw [← hwoken]
    rw [hrecord, ht, htimers]
    rfl
  · rw [hu, heldDropsAsked_woken]
  · have hrun := resumeRunning_started (s := s) (later := later) hustart (fun hh => by rw [hufree hh, hwoken]) hreset
      fun o ho => ⟨(hl o ho).1, (hl o ho).2.1⟩
    rw [hexec, if_neg (by rw [huw, hw]; exact Bool.false_ne_true)]
    exact congrArg Host.Outcome.next hrun
  · obtain ⟨hheld, hnone⟩ := enterFlushing_started hustart (huw.trans hw) hur (by rw [hun]; exact hdir)
      (by rw [hu]; exact heldDropsAsked_dropsDone hn _ _)
      (fun hh o ho => by
        rw [hufree hh, ht] at ho
        exact (hl o ho).1) rfl
    rw [hexec, if_pos (huw.trans hw)]
    exact ⟨fun hh => congrArg Host.Outcome.next (hheld hh), fun hh => congrArg Host.Outcome.next (hnone hh)⟩
  · refine ⟨restoredMachine_eq s.nv e, fun x hx => ?_⟩
    have hx' : x = s.nv.imageEntry? e := hx
    rw [hx']
    obtain ⟨hempty, himage⟩ := restoredTotals_eq s.nv e
    rw [restoredMachine_eq]
    refine ⟨fun h => ?_, fun stamp y h hlt => ?_⟩
    · simp only [hempty h]
      exact ⟨trivial, rfl, trivial⟩
    · simp only [himage stamp y h hlt]
      exact ⟨trivial, trivial, trivial⟩

end Sys2Proof.Machine

/-! PROOFS. FetchDrop: the oldest record, its reading and its marking, and the held drop that takes the place freed. -/

namespace Sys2Proof.Machine

/-! ## The oldest record (05 R94) -/

/-- How long ago the number of a record was given (05 R93; log entry 12). -/
def State.dropAge (s : State) (p : DropPlace) : Nat := numbersAhead s.cash.dropCounter p.record.number

/-- The older of a record and the oldest so far. -/
def olderDrop (age : DropPlace → Nat) (best : Option DropPlace) (p : DropPlace) : Option DropPlace :=
  match best with
  | none => some p
  | some b => if age b < age p then some p else some b

theorem oldestDrop?_eq (s : State) :
    s.oldestDrop? = (s.nv.places.filter fun p => !p.fetched).foldl (olderDrop s.dropAge) none := rfl

/-- The only oldest of some records is found among them. -/
theorem foldl_olderDrop {age : DropPlace → Nat} {p : DropPlace} (l : List DropPlace) (best : Option DropPlace)
    (hl : ∀ q ∈ l, q ≠ p → age q < age p) (hb : ∀ b, best = some b → b ≠ p → age b < age p)
    (hp : best = some p ∨ p ∈ l) : l.foldl (olderDrop age) best = some p := by
  induction l generalizing best with
  | nil => exact hp.resolve_right List.not_mem_nil
  | cons q rest ih =>
    have hrest : ∀ x ∈ rest, x ≠ p → age x < age p := fun x hx => hl x (List.mem_cons_of_mem _ hx)
    have hq := hl q List.mem_cons_self
    rw [List.foldl_cons]
    cases best with
    | none =>
      refine ih (some q) hrest (fun b hb' => by rw [← Option.some.inj hb']; exact hq) ?_
      exact (List.mem_cons.mp (hp.resolve_left nofun)).imp_left fun h => by rw [h]
    | some b =>
      have hb' := hb b rfl
      by_cases hlt : age b < age q
      · rw [show olderDrop age (some b) q = some q from if_pos hlt]
        refine ih (some q) hrest (fun x hx => by rw [← Option.some.inj hx]; exact hq) ?_
        rcases hp with hp | hp
        · obtain rfl := Option.some.inj hp
          by_cases hqb : q = b
          · rw [hqb]; exact .inl rfl
          · have := hq hqb
            omega
        · exact (List.mem_cons.mp hp).imp_left fun h => by rw [h]
      · rw [show olderDrop age (some b) q = some b from if_neg hlt]
        refine ih (some b) hrest (fun x hx => by rw [← Option.some.inj hx]; exact hb') ?_
        rcases hp with hp | hp
        · exact .inl hp
        · rcases List.mem_cons.mp hp with rfl | hp
          · by_cases hbp : b = p
            · rw [hbp]; exact .inl rfl
            · exact absurd (hb' hbp) hlt
          · exact .inr hp

theorem oldestDrop?_none {s : State} (h : ∀ p ∈ s.nv.places, p.fetched = true) : s.oldestDrop? = none := by
  rw [oldestDrop?_eq, List.filter_eq_nil_iff.mpr fun p hp => by simp [h p hp]]
  rfl

theorem oldestDrop?_some {s : State} {p : DropPlace} (hp : p ∈ s.nv.places) (hf : p.fetched = false)
    (hold : ∀ q ∈ s.nv.places, q.fetched = false → q ≠ p → s.dropAge q < s.dropAge p) : s.oldestDrop? = some p := by
  rw [oldestDrop?_eq]
  refine foldl_olderDrop _ none (fun q hq => ?_) nofun (.inr (List.mem_filter.mpr ⟨hp, by simp [hf]⟩))
  obtain ⟨hq, hqf⟩ := List.mem_filter.mp hq
  exact hold q hq (by simpa using hqf)

/-! ## The next held drop (05 R96) -/

theorem unasked?_eq_some {m : MachineRecord} {snap : Snapshot} :
    m.unasked? = some snap ↔ m.heldDrop = some snap ∧ m.heldAsked = none := by
  cases ha : m.heldAsked <;> simp [MachineRecord.unasked?, ha]

theorem unasked?_eq_none {m : MachineRecord} : m.unasked? = none ↔ m.heldDrop = none ∨ m.heldAsked ≠ none := by
  cases ha : m.heldAsked <;> simp [MachineRecord.unasked?, ha]

theorem nextHeld?_none {s : State} (h : ∀ m ∈ s.machines, m.heldDrop = none ∨ m.heldAsked ≠ none) : s.nextHeld? = none := by
  rw [nextHeld?_eq, List.findSome?_eq_none_iff]
  exact fun m hm => by rw [unasked?_eq_none.mpr (h m hm)]; rfl

/-- The held drop written next is that of the lowest-numbered machine that has one not asked. -/
theorem nextHeld?_some {s : State} {m : MachineRecord} {snap : Snapshot}
    (hn : (s.machines.map MachineRecord.number).Pairwise (· < ·)) (hm : m ∈ s.machines) (hd : m.heldDrop = some snap)
    (ha : m.heldAsked = none)
    (hlow : ∀ x ∈ s.machines, x.heldDrop ≠ none → x.heldAsked = none → m.number ≤ x.number) :
    s.nextHeld? = some (m, snap) := by
  obtain ⟨before, after, hsplit⟩ := List.append_of_mem hm
  rw [hsplit, List.map_append, List.map_cons, List.pairwise_append] at hn
  have hnone : before.findSome? (fun m => m.unasked?.map fun snap => (m, snap)) = none := by
    rw [List.findSome?_eq_none_iff]
    intro x hx
    have hlt : x.number < m.number := hn.2.2 _ (List.mem_map_of_mem hx) _ List.mem_cons_self
    have hnot : x.unasked? = none := by
      rw [unasked?_eq_none]
      by_contra hc
      push Not at hc
      have := hlow x (by rw [hsplit]; exact List.mem_append_left _ hx) hc.1 hc.2
      omega
    rw [hnot]
    rfl
  rw [nextHeld?_eq, hsplit, List.findSome?_append, hnone, List.findSome?_cons, unasked?_eq_some.mpr ⟨hd, ha⟩]
  rfl

/-- A held drop asked while a completion is taken waits, and no other part of the store's state changes. -/
theorem heldDropAsked_store_frame (s : State) (n : Nat) (snap : Snapshot) (place cls : Nat) (r : Requester) :
    ∃ h q, (s.heldDropAsked n snap place cls r).store = { s.store with holder := h, queue := q } := by
  unfold State.heldDropAsked
  simp only
  split
  · obtain ⟨h, q, he⟩ := StoreControl.taking_frame s.store _
    rw [he]
    obtain ⟨h', q', he'⟩ := StoreControl.taking_frame { s.store with holder := h, queue := q } _
    rw [he']
    exact ⟨h', q', rfl⟩
  · exact StoreControl.taking_frame s.store _

/-- The marking of a FetchDrop completes: its place is free and its record the Result, then a held drop is written
(05 R95, R96). -/
theorem exec_fetchMark {s t u : State} {h : Holder} {p : DropPlace} (hc : s.completing h)
    (ho : h.op = ⟨.fetchMark p.place, 2, .cabinet⟩) (hp : s.nv.placeAt? p.place = some p)
    (hu : u = { s with
        store := s.store.ending
        cash := { s.cash with fetching := none, placesTaken := s.cash.placesTaken - 1 }
        nv := { s.nv with
          places := s.nv.places.map fun x => if x.place = p.place then { x with fetched := true } else x
          stamp := s.nv.stamp + 1 }
        cabinet := { s.cabinet with result := .final ⟨Code.done.byte, p.record.bytes⟩ } })
    (ht : askHeldDrop .nobody u = t) (hpow : t.power = s.power) (hback : t.store.backlog = s.store.backlog)
    (hfl : t.store.flush = s.store.flush) : exec .fetchDropMarkingCompletion s = .next t.arrayFreed := by
  obtain ⟨hp', hb', hf', -, -⟩ := s.calm_iff.mp hc.1
  have heffect : fetchMarkEffect h { s with store := s.store.ending } = t := by
    simp only [fetchMarkEffect, ho, dropFetched]
    have hp'' : ({ s with store := s.store.ending } : State).nv.placeAt? p.place = some p := hp
    rw [hp'', ← ht, hu]
    rfl
  have hdone := onCompletion_whenDone (awaited := StoreWork.isFetchMark) (effect := fetchMarkEffect) (body := fun _ => t) hc
    (by rw [ho]; rfl) heffect (hpow.trans hp') (hback.trans hb') (hfl.trans hf')
  refine congrArg Host.Outcome.next (hdone.trans ?_)
  simp only [State.whenDone, hc.2.1]

/-- Settles O40. -/
theorem fetchDropReadsMarksAndFrees : Obligations.FetchDropReadsMarksAndFrees := by
  intro s hc
  have hfetch (hready : s.cabinetReady = true) : exec .fetchDrop s = .next (fetchDrop s.atCommand) :=
    congrArg Host.Outcome.next (command_atCommand hready _)
  refine ⟨fun hready hall => ?_, fun p hp hready hf hold => ?_, fun place hr hh => ?_,
    fun h p u record x hcomp ho hp hx hrecord hu => ?_⟩
  · have hnone : s.atCommand.oldestDrop? = none := oldestDrop?_none hall
    rw [hfetch hready, fetchDrop, hnone, refuse_atCommand]
  · have hsome : s.atCommand.oldestDrop? = some p := oldestDrop?_some hp hf hold
    rw [hfetch hready, fetchDrop, hsome]
    have hsteady : ({ s with cash := { s.cash with fetching := some p.place } } : State).steady :=
      steady_congr (State.steady_of_calm hc) rfl rfl
    exact congrArg Host.Outcome.next (askForCabinet_steady_read hsteady (work := .fetchRead p.place) rfl rfl)
  · obtain ⟨hp, hb, hf, -, hfr⟩ := s.calm_iff.mp hc
    refine congrArg Host.Outcome.next (onCompletion_performing hr rfl (fun x t hx ht => ?_) fun t ht => ?_)
    · simp only [fetchReadEffect, hx]
      have hpt : t.power ≠ .parked := by
        obtain ⟨c, rfl, -⟩ := performing_frame hr ht
        exact fun h => nomatch hp.symm.trans h
      rw [ask, leaveParked_of_not (.inl hpt)]
      rcases ht with rfl | rfl
      · obtain ⟨sv, q, he⟩ := endServing_frame s
        obtain ⟨k, hk⟩ := Option.ne_none_iff_exists'.mp hh
        simp [he, hfr, hk, StoreWork.isRead, enqueue, State.onStore]
      · simp [StoreControl.ending, enqueue, State.onStore]
    · obtain ⟨c, rfl, hb', hf'⟩ := performing_frame hr ht
      exact ⟨hp, hb', hf'⟩
  · have hbytes : record = p.record.bytes := by
      rw [hrecord, hx]
      rfl
    rw [hbytes] at hu ⊢
    refine ⟨?_, fun hnone => ?_, fun m snap place hn hm hd ha hlow htaken hw hrs hplace => ?_⟩
    · have hcounts := length_flatMap_const byte2_length p.record.snapshot.counts.toList
      simp only [DropRecord.bytes, List.length_append, hcounts]
      simp [Octet.toList]
    · refine exec_fetchMark hcomp ho hp hu (askHeldDrop_none (nextHeld?_none ?_)) ?_ ?_ ?_ <;> rw [hu]
      · exact hnone
      all_goals rfl
    · have hclass : u.heldClass = 2 := by
        rw [hu]
        simp [State.heldClass, hw, hrs]
      have hpow : u.power ≠ .parked := by
        rw [hu]
        exact fun h => nomatch (running_of_calm hc).symm.trans h
      have hask := askHeldDrop_asked (r := .nobody) (s := u) (m := m) (snap := snap)
        (nextHeld?_some (by rw [hu]; exact hn) (by rw [hu]; exact hm) hd ha (by rw [hu]; exact hlow))
        (by rw [hu]; show s.cash.placesTaken - 1 < 256; omega) hpow (by rw [hclass]; decide)
      rw [hclass, takes_dropPlace hplace] at hask
      obtain ⟨k, q, hstore⟩ := heldDropAsked_store_frame u m.number snap place 2 .nobody
      refine exec_fetchMark hcomp ho hp hu hask ?_ ?_ ?_
      · rw [hu]; rfl
      · rw [hstore, hu]; rfl
      · rw [hstore, hu]; rfl

end Sys2Proof.Machine

/-! PROOFS. The completions of box writes and of held drops' writes. -/

namespace Sys2Proof.Machine

theorem withDrop_eq (v : NvArray) (place : Nat) (record : DropRecord) :
    v.withDrop (place, record) =
      { v with
        places := ⟨place, record, false⟩ :: v.places.filter fun x => x.place != place
        nextPlace := if (record.number + 65535 - v.dropCounter) % 65535 < 32768 then (place + 1) % 256 else v.nextPlace
        dropCounter := if (record.number + 65535 - v.dropCounter) % 65535 < 32768 then record.number else v.dropCounter } := by
  by_cases h : (record.number + 65535 - v.dropCounter) % 65535 < 32768
  · rw [if_pos h, if_pos h]
    exact if_pos h
  · rw [if_neg h, if_neg h]
    exact if_neg h

/-- The machine of a box event once its write has completed: its box recorded, and its request answered where the write
carries an answer (05 R87). -/
def MachineRecord.boxWritten (m : MachineRecord) (w : BoxWork) : MachineRecord :=
  { m with
    recorded := w.recorded
    request := m.request.map fun r => if r.id = w.id ∧ w.answer ≠ none then { r with reply := w.answer } else r }

/-- The array once a box event's write has completed, but for its drop (05 R87; 08 R149, R159). -/
def boxStored (w : BoxWork) (s : State) : NvArray :=
  { s.nv with
    stamp := s.nv.stamp + 1
    boxes :=
      ⟨w.machine, w.recorded, w.removal,
          if w.heldMade ≠ none ∧ (s.machine? w.machine).bind MachineRecord.heldDrop = w.heldMade then w.heldMade
          else (s.nv.boxRecord w.machine).held,
          if w.snapshot then s.nv.stamp + 1 else (s.nv.boxRecord w.machine).snapshotStamp, s.nv.stamp + 1⟩ ::
        s.nv.boxes.filter fun b => b.machine != w.machine
    round := if w.round = none then s.nv.round else w.round }

theorem recordDrop_onMachine (drop : Option (Nat × DropRecord)) (n : Nat) (f : MachineRecord → MachineRecord) (s : State) :
    recordDrop drop (s.onMachine n f) = (recordDrop drop s).onMachine n f := by
  cases drop <;> rfl

/-- The request of a box event is answered where its write carries an answer (05 R87). -/
def answerBox (w : BoxWork) (s : State) : State :=
  match w.answer with
  | some a => giveReply w.machine w.id a s
  | none => s

theorem answerBox_recorded (w : BoxWork) (s : State) :
    answerBox w (s.onMachine w.machine fun m => { m with recorded := w.recorded }) =
      s.onMachine w.machine fun m => m.boxWritten w := by
  unfold answerBox
  cases ha : w.answer with
  | none =>
    refine onMachine_congr fun m _ _ => ?_
    cases hr : m.request <;> simp [MachineRecord.boxWritten, ha, hr]
  | some a =>
    simp only
    rw [giveReply_eq, onMachine_onMachine (by intro; rfl)]
    refine onMachine_congr fun m _ _ => ?_
    cases hr : m.request with
    | none => simp [MachineRecord.boxWritten, MachineRecord.withReply, hr]
    | some r => by_cases hid : r.id = w.id <;> simp [MachineRecord.boxWritten, MachineRecord.withReply, ha, hr, hid]

theorem boxWritten_eq (w : BoxWork) (s : State) :
    boxWritten w s = (recordDrop w.drop { s with nv := boxStored w s }).onMachine w.machine fun x => x.boxWritten w := by
  have hheld (x y : Option Snapshot) :
      (if w.heldMade.isSome && (x == w.heldMade) then w.heldMade else y) =
        if w.heldMade ≠ none ∧ x = w.heldMade then w.heldMade else y :=
    if_congr (by simp [Option.isSome_iff_ne_none]) rfl rfl
  have hround : (if w.round.isSome then w.round else s.nv.round) = if w.round = none then s.nv.round else w.round := by
    cases w.round <;> rfl
  have hstored : ((stampWrite s).onArray fun v =>
      { v.withBox
          { machine := w.machine
            recorded := w.recorded
            removal := w.removal
            held := if w.heldMade.isSome && (((s.machine? w.machine).bind MachineRecord.heldDrop) == w.heldMade) then
                w.heldMade else (s.nv.boxRecord w.machine).held
            snapshotStamp := if w.snapshot then s.nv.stamp + 1 else (s.nv.boxRecord w.machine).snapshotStamp
            stamp := s.nv.stamp + 1 } with
        round := if w.round.isSome then w.round else v.round }) = { s with nv := boxStored w s } := by
    rw [hheld]
    simp only [State.onArray, stampWrite, NvArray.withBox, hround, boxStored]
  have hrecord : boxWritten w s =
      answerBox w (recordDrop w.drop (({ s with nv := boxStored w s } : State).onMachine w.machine fun m =>
        { m with recorded := w.recorded })) := by
    rw [← hstored]
    rfl
  rw [hrecord, recordDrop_onMachine, answerBox_recorded]

/-- The array once a held drop's write has completed (05 R96; 08 R149, R159). -/
def heldStored (w : HeldWork) (v : NvArray) : NvArray :=
  NvArray.withDrop
    { v with
      stamp := v.stamp + 1
      boxes :=
        { v.boxRecord w.machine with held := none, stamp := v.stamp + 1 } ::
          v.boxes.filter fun b => b.machine != (v.boxRecord w.machine).machine }
    (w.place, w.record)

theorem heldWritten_eq (w : HeldWork) (s : State) :
    heldWritten w s =
      clearFault w.machine .dropHeld .dropWritten
        (notify (dropRecordedNotice w.record)
          { s.onMachine w.machine fun m => { m with heldDrop := none, heldAsked := none } with
            nv := heldStored w s.nv }) := rfl

theorem heldWritten_frame (w : HeldWork) (s : State) :
    (heldWritten w s).power = s.power ∧ (heldWritten w s).store = s.store := by
  rw [heldWritten_eq]
  generalize heldStored w s.nv = v
  obtain ⟨ms, na, hclear⟩ := clearFault_frame w.machine .dropHeld .dropWritten
    (notify (dropRecordedNotice w.record)
      { s.onMachine w.machine fun m => { m with heldDrop := none, heldAsked := none } with nv := v })
  rw [hclear]
  exact ⟨rfl, rfl⟩

/-- Settles O39. -/
theorem boxAndHeldDropWritesComplete : Obligations.BoxAndHeldDropWritesComplete := by
  intro s h hc withDrop hwith old hold
  have hold' : old = s.nv.boxRecord := funext hold
  have hwith' : withDrop = fun place record v => v.withDrop (place, record) := by
    rw [hwith]
    funext place record v
    exact (withDrop_eq v place record).symm
  refine ⟨fun w hw => ⟨_, _, rfl, rfl, ?_⟩, fun w hw => ⟨_, rfl, ?_⟩⟩
  · have heffect : boxWriteEffect h { s with store := s.store.ending } = boxWritten w { s with store := s.store.ending } := by
      simp only [boxWriteEffect, hw]
    have hdone := onCompletion_held (awaited := StoreWork.isBoxWrite) (effect := boxWriteEffect) (body := boxWritten w) hc
      (by rw [hw]; rfl) heffect (by rw [boxWritten_eq]; cases w.drop <;> rfl) (by rw [boxWritten_eq]; cases w.drop <;> rfl)
    refine congrArg Host.Outcome.next (hdone.trans ?_)
    simp only [State.whenDone, hc.2.1]
    rw [boxWritten_eq, hold', hwith']
    cases w.drop <;> rfl
  · have heffect : heldWriteEffect h { s with store := s.store.ending } = heldWritten w { s with store := s.store.ending } := by
      simp only [heldWriteEffect, hw]
    have hframe := heldWritten_frame w { s with store := s.store.ending }
    have hdone := onCompletion_held (awaited := StoreWork.isHeldWrite) (effect := heldWriteEffect) (body := heldWritten w) hc
      (by rw [hw]; rfl) heffect hframe.1 hframe.2
    refine congrArg Host.Outcome.next (hdone.trans ?_)
    simp only [State.whenDone, hc.2.1]
    rw [hold', hwith', heldWritten_eq]
    rfl

end Sys2Proof.Machine

/-! PROOFS. The removal and the insertion of a box (05, section 5.3): the faults and notices of the steps, and apart from
them what becomes of the machine, the ring and the round. -/

namespace Sys2Proof.Machine

/-! ## Changes apart from the faults -/

/-- A change of a machine apart from its number, its faults and its service state. -/
structure Apart (f : MachineRecord → MachineRecord) : Prop where
  number : ∀ m, (f m).number = m.number
  faults : ∀ m, (f m).faults = m.faults
  entry : ∀ m k e, (f m).withEntry k e = f (m.withEntry k e)

/-- The state once a machine has been changed and the cash unit's state set. -/
def State.changed (s : State) (n : Nat) (f : MachineRecord → MachineRecord) (c : CashUnit) : State :=
  { s.onMachine n f with cash := c }

theorem onMachine_eq_changed (s : State) (n : Nat) (f : MachineRecord → MachineRecord) :
    s.onMachine n f = s.changed n f s.cash := rfl

theorem changed_changed {f : MachineRecord → MachineRecord} (hf : Apart f) (s : State) (n : Nat)
    (g : MachineRecord → MachineRecord) (c d : CashUnit) :
    (s.changed n f c).changed n g d = s.changed n (fun m => g (f m)) d :=
  congrArg (fun t : State => { t with cash := d }) (onMachine_onMachine (s := s) hf.number)

theorem changed_congr {s : State} {n : Nat} {f g : MachineRecord → MachineRecord} {c d : CashUnit}
    (hfg : ∀ m ∈ s.machines, m.number = n → f m = g m) (hcd : c = d) : s.changed n f c = s.changed n g d := by
  rw [State.changed, State.changed, onMachine_congr hfg, hcd]

theorem machine?_changed {f : MachineRecord → MachineRecord} (hf : Apart f) {s : State} {n : Nat} {c : CashUnit} :
    (s.changed n f c).machine? n = (s.machine? n).map f := machine?_onMachine_same hf.number

theorem notify_changed (bytes : List Byte) (s : State) (n : Nat) (f : MachineRecord → MachineRecord) (c : CashUnit) :
    notify bytes (s.changed n f c) = (notify bytes s).changed n f c := rfl

section
variable {f : MachineRecord → MachineRecord} {s : State} {n : Nat}

theorem onMachine_withEntry (hf : Apart f) (k : FaultKind) (e : FaultEntry) :
    (s.onMachine n f).onMachine n (fun m => m.withEntry k e) = (s.onMachine n fun m => m.withEntry k e).onMachine n f := by
  rw [onMachine_onMachine hf.number, onMachine_onMachine (by intro; rfl)]
  exact onMachine_congr fun m _ _ => hf.entry m k e

theorem raiseFault_changed (hf : Apart f) (k : FaultKind) (c : CashUnit) :
    raiseFault n k (s.changed n f c) = (raiseFault n k s).changed n f c := by
  have hm := machine?_changed hf (s := s) (n := n) (c := c)
  cases h : s.machine? n with
  | none =>
    rw [h] at hm
    simp only [raiseFault, h, hm, Option.map_none]
  | some m =>
    rw [h] at hm
    rw [raiseFault_eq hm, raiseFault_eq h, hf.faults, ← notify_changed]
    refine congrArg (notify _) ?_
    have hcomm := onMachine_withEntry hf (s := s) (n := n) k ((m.faults.get k).raised s.now)
    exact congrArg (fun t : State => { t with summary := s.summary.add n k, cash := c }) hcomm

theorem clearFault_changed (hf : Apart f) (k : FaultKind) (cause : ClearCause) (c : CashUnit) :
    clearFault n k cause (s.changed n f c) = (clearFault n k cause s).changed n f c := by
  have hm := machine?_changed hf (s := s) (n := n) (c := c)
  cases h : s.machine? n with
  | none =>
    rw [h] at hm
    simp only [clearFault, h, hm, Option.map_none]
  | some m =>
    rw [h] at hm
    cases ha : m.faults.active k with
    | false =>
      rw [clearFault_inactive h ha, clearFault_inactive hm (by rw [hf.faults]; exact ha)]
    | true =>
      rw [clearFault_active h ha, clearFault_active hm (by rw [hf.faults]; exact ha), hf.faults, ← notify_changed]
      refine congrArg (notify _) ?_
      have hcomm := onMachine_withEntry hf (s := s) (n := n) k ((m.faults.get k).cleared s.now)
      exact congrArg (fun t : State => { t with cash := c }) hcomm

end

/-! ## The faults of the steps -/

/-- Raise a kind where a condition holds. -/
def raiseIf (b : Bool) (n : Nat) (k : FaultKind) (s : State) : State := if b then raiseFault n k s else s

theorem raiseIf_changed {f : MachineRecord → MachineRecord} (hf : Apart f) (b : Bool) (s : State) (n : Nat) (k : FaultKind)
    (c : CashUnit) : raiseIf b n k (s.changed n f c) = (raiseIf b n k s).changed n f c := by
  cases b
  · rfl
  · exact raiseFault_changed hf k c

/-- The faults of a removal: CASH_TAMPER where it is unscheduled, BOX_OUT raised, BOX_NEAR_FULL and BOX_FULL cleared, and
DROP_HELD for a held drop (05 R89, R90). -/
def removalFaults (n : Nat) (scheduled holds : Bool) (s : State) : State :=
  raiseIf holds n .dropHeld
    (clearFault n .boxFull .removed
      (clearFault n .boxNearFull .removed (raiseFault n .boxOut (raiseIf (!scheduled) n .cashTamper s))))

theorem removalFaults_changed {f : MachineRecord → MachineRecord} (hf : Apart f) (s : State) (n : Nat)
    (scheduled holds : Bool) (c : CashUnit) :
    removalFaults n scheduled holds (s.changed n f c) = (removalFaults n scheduled holds s).changed n f c := by
  simp only [removalFaults, raiseIf_changed hf, raiseFault_changed hf, clearFault_changed hf]

/-- The faults of an insertion: BOX_OUT cleared, and BOX_CONFLICT for a box that cannot be told apart (05 R91). -/
def insertionFaults (n : Nat) (conflict : Bool) (s : State) : State :=
  raiseIf conflict n .boxConflict (clearFault n .boxOut .inserted s)

theorem insertionFaults_changed {f : MachineRecord → MachineRecord} (hf : Apart f) (s : State) (n : Nat) (conflict : Bool)
    (c : CashUnit) : insertionFaults n conflict (s.changed n f c) = (insertionFaults n conflict s).changed n f c := by
  simp only [insertionFaults, raiseIf_changed hf, clearFault_changed hf]

/-- The notice of the round that an insertion closes (05 R101). -/
def closingNoticed (closes : Bool) (round : Option Round) (s : State) : State :=
  round.elim s fun r => if closes then notify (roundClosedNotice r) s else s

theorem closingNoticed_changed (closes : Bool) (round : Option Round) (s : State) (n : Nat)
    (f : MachineRecord → MachineRecord) (c : CashUnit) :
    closingNoticed closes round (s.changed n f c) = (closingNoticed closes round s).changed n f c := by
  cases round with
  | none => rfl
  | some r => cases closes <;> rfl

/-! ## What the steps leave -/

/-- What the faults and notices of a box event leave: all but the machines, the district summary and the notice area. -/
def State.sameBut (s t : State) : Prop := ∃ ms sm na, t = { s with machines := ms, summary := sm, notices := na }

theorem sameBut_refl (s : State) : s.sameBut s := ⟨_, _, _, rfl⟩

theorem State.sameBut.trans {s t u : State} (h : s.sameBut t) (h' : t.sameBut u) : s.sameBut u := by
  obtain ⟨_, _, _, rfl⟩ := h
  obtain ⟨_, _, _, rfl⟩ := h'
  exact ⟨_, _, _, rfl⟩

theorem sameBut_raiseFault (n : Nat) (k : FaultKind) (s : State) : s.sameBut (raiseFault n k s) := raiseFault_frame n k s

theorem sameBut_raiseIf (b : Bool) (n : Nat) (k : FaultKind) (s : State) : s.sameBut (raiseIf b n k s) := by
  cases b
  · exact sameBut_refl s
  · exact sameBut_raiseFault n k s

theorem sameBut_clearFault (n : Nat) (k : FaultKind) (c : ClearCause) (s : State) : s.sameBut (clearFault n k c s) := by
  obtain ⟨ms, na, h⟩ := clearFault_frame n k c s
  exact ⟨ms, s.summary, na, h⟩

theorem sameBut_notify (bytes : List Byte) (s : State) : s.sameBut (notify bytes s) := ⟨s.machines, s.summary, _, rfl⟩

theorem sameBut_removalFaults (n : Nat) (scheduled holds : Bool) (s : State) :
    s.sameBut (removalFaults n scheduled holds s) :=
  (sameBut_raiseIf _ _ _ _).trans <| (sameBut_raiseFault _ _ _).trans <| (sameBut_clearFault _ _ _ _).trans <|
    (sameBut_clearFault _ _ _ _).trans (sameBut_raiseIf _ _ _ _)

theorem sameBut_insertionFaults (n : Nat) (conflict : Bool) (s : State) : s.sameBut (insertionFaults n conflict s) :=
  (sameBut_clearFault _ _ _ _).trans (sameBut_raiseIf _ _ _ _)

theorem sameBut_closingNoticed (closes : Bool) (round : Option Round) (s : State) :
    s.sameBut (closingNoticed closes round s) := by
  cases round with
  | none => exact sameBut_refl s
  | some r =>
    cases closes
    · exact sameBut_refl s
    · exact sameBut_notify _ s

/-- A change of a machine's faults and service state. -/
def MachineRecord.sameButFaults (m x : MachineRecord) : Prop := ∃ fs sv, x = { m with faults := fs, service := sv }

theorem MachineRecord.sameButFaults.trans {m x y : MachineRecord} (h : m.sameButFaults x) (h' : x.sameButFaults y) :
    m.sameButFaults y := by
  obtain ⟨_, _, rfl⟩ := h
  obtain ⟨_, _, rfl⟩ := h'
  exact ⟨_, _, rfl⟩

/-- Every machine stays but for its faults and service state. -/
def State.faultsOnly (s t : State) : Prop := ∀ n m, s.machine? n = some m → ∃ x, t.machine? n = some x ∧ m.sameButFaults x

theorem faultsOnly_refl (s : State) : s.faultsOnly s := fun _ m h => ⟨m, h, m.faults, m.service, rfl⟩

theorem State.faultsOnly.trans {s t u : State} (h : s.faultsOnly t) (h' : t.faultsOnly u) : s.faultsOnly u := by
  intro n m hm
  obtain ⟨x, hx, hmx⟩ := h n m hm
  obtain ⟨y, hy, hxy⟩ := h' n x hx
  exact ⟨y, hy, hmx.trans hxy⟩

theorem faultsOnly_withEntry (s : State) (n : Nat) (k : FaultKind) (e : FaultEntry) {t : State}
    (ht : t.machines = (s.onMachine n fun m => m.withEntry k e).machines) : s.faultsOnly t := by
  intro j m hm
  have hsame : t.machine? j = (s.onMachine n fun m => m.withEntry k e).machine? j := by
    rw [State.machine?, State.machine?, ht]
  by_cases hj : j = n
  · subst hj
    exact ⟨m.withEntry k e, by rw [hsame, machine?_onMachine_same (by intro; rfl), hm]; rfl, _, _, rfl⟩
  · exact ⟨m, by rw [hsame, machine?_onMachine_other (by intro; rfl) hj, hm], m.faults, m.service, rfl⟩

theorem faultsOnly_raiseFault (n : Nat) (k : FaultKind) (s : State) : s.faultsOnly (raiseFault n k s) := by
  cases h : s.machine? n with
  | none => simp only [raiseFault, h]; exact faultsOnly_refl s
  | some m => exact faultsOnly_withEntry s n k _ (by rw [raiseFault_eq h]; rfl)

theorem faultsOnly_clearFault (n : Nat) (k : FaultKind) (c : ClearCause) (s : State) :
    s.faultsOnly (clearFault n k c s) := by
  cases h : s.machine? n with
  | none => simp only [clearFault, h]; exact faultsOnly_refl s
  | some m =>
    cases ha : m.faults.active k with
    | false => rw [clearFault_inactive h ha]; exact faultsOnly_refl s
    | true => exact faultsOnly_withEntry s n k _ (by rw [clearFault_active h ha]; rfl)

theorem faultsOnly_raiseIf (b : Bool) (n : Nat) (k : FaultKind) (s : State) : s.faultsOnly (raiseIf b n k s) := by
  cases b
  · exact faultsOnly_refl s
  · exact faultsOnly_raiseFault n k s

theorem faultsOnly_removalFaults (n : Nat) (scheduled holds : Bool) (s : State) :
    s.faultsOnly (removalFaults n scheduled holds s) :=
  (faultsOnly_raiseIf _ _ _ _).trans <| (faultsOnly_raiseFault _ _ _).trans <| (faultsOnly_clearFault _ _ _ _).trans <|
    (faultsOnly_clearFault _ _ _ _).trans (faultsOnly_raiseIf _ _ _ _)

theorem faultsOnly_insertionFaults (n : Nat) (conflict : Bool) (s : State) :
    s.faultsOnly (insertionFaults n conflict s) :=
  (faultsOnly_clearFault _ _ _ _).trans (faultsOnly_raiseIf _ _ _ _)

theorem faultsOnly_closingNoticed (closes : Bool) (round : Option Round) (s : State) :
    s.faultsOnly (closingNoticed closes round s) := by
  cases round with
  | none => exact faultsOnly_refl s
  | some r => cases closes <;> exact faultsOnly_refl s

end Sys2Proof.Machine

/-! PROOFS. The removal and the insertion of a box as one change of the machine and the cash unit behind the faults of their
steps (05 R89 to R91). -/

namespace Sys2Proof.Machine

/-! ## Entries of the open round -/

theorem openEntry?_eq_some {s : State} {n : Nat} {st : EntryState} (h : s.openEntry? n = some st) :
    ∃ r, s.cash.round = some r ∧ r.isOpen = true ∧ s.openRound? = some r ∧ ∃ e ∈ r.entries, e.machine = n ∧ e.state = st := by
  obtain ⟨e, he, hst⟩ := Option.map_eq_some_iff.mp h
  obtain ⟨r, hr, he⟩ := Option.bind_eq_some_iff.mp he
  have hround : s.cash.round = some r ∧ r.isOpen = true := by
    unfold State.openRound? at hr
    split at hr
    next x hx =>
      split at hr
      next ho => exact Option.some.inj hr ▸ ⟨hx, ho⟩
      next => cases hr
    next => cases hr
  exact ⟨r, hround.1, hround.2, hr, e, List.mem_of_find?_eq_some he, by simpa using List.find?_some he, hst⟩

/-- What is open of the round depends on the round held alone. -/
theorem openRound?_congr {s t : State} (h : t.cash.round = s.cash.round) : t.openRound? = s.openRound? := by
  rw [State.openRound?, State.openRound?, h]

theorem openEntry?_congr {s t : State} (h : t.cash.round = s.cash.round) (n : Nat) : t.openEntry? n = s.openEntry? n := by
  rw [State.openEntry?, State.openEntry?, openRound?_congr h]

/-! ## Removal -/

/-- A machine whose box has been removed. -/
def MachineRecord.emptied (takes holds : Bool) (snap : Snapshot) (removal : Removal) (m : MachineRecord) : MachineRecord :=
  { m with
    box := .out
    tally := if takes then emptyTally else m.tally
    heldDrop := if holds then some snap else m.heldDrop
    removal := removal }

theorem apart_emptied (takes holds : Bool) (snap : Snapshot) (removal : Removal) :
    Apart fun m => m.emptied takes holds snap removal := ⟨fun _ => rfl, fun _ => rfl, fun _ _ _ => rfl⟩

/-- A round whose entry of a machine has been changed by a removal, where it was Pending (05 R99). -/
def removedRound (n : Nat) (scheduled stored : Bool) (cash number : Nat) (round : Option Round) : Option Round :=
  if scheduled then
    round.map fun r =>
      { r with
        cash := r.cash + cash
        entries := r.entries.map fun e =>
          if e.machine = n then { e with state := .boxOut, drop := if stored then some number else e.drop } else e }
  else round

/-- The cash unit once a removal has put its drop in a place of the ring, or has not. -/
def CashUnit.removed (c : CashUnit) (stored : Bool) (place number : Nat) (round : Option Round) : CashUnit :=
  { c with
    nextPlace := if stored then (place + 1) % 256 else c.nextPlace
    placesTaken := if stored then c.placesTaken + 1 else c.placesTaken
    dropCounter := if stored then number else c.dropCounter
    round := round }

theorem removalRound_changed {f : MachineRecord → MachineRecord} (hf : Apart f) (s : State) (n cash : Nat) (c : CashUnit)
    (hc : c.round = s.cash.round) {scheduled : Bool} (hs : scheduled = decide (s.openEntry? n = some .pending)) :
    removalRound n cash (s.changed n f c) =
      (raiseIf (!scheduled) n .cashTamper s).changed n f { c with round := removedRound n scheduled false cash 0 c.round } := by
  have hopen : (s.changed n f c).openRound? = s.openRound? := openRound?_congr hc
  have hentry : (s.changed n f c).openEntry? n = s.openEntry? n := openEntry?_congr hc n
  unfold removalRound
  rw [hopen, hentry]
  by_cases hp : s.openEntry? n = some .pending
  · obtain ⟨r, hr, -, ho, -⟩ := openEntry?_eq_some hp
    rw [decide_eq_true hp] at hs
    rw [ho, hc, hr, hs, removedRound, if_pos rfl]
    exact if_pos hp
  · rw [decide_eq_false hp] at hs
    have hraise : (raiseIf (!false) n .cashTamper s).changed n f { c with round := removedRound n false false cash 0 c.round } =
        raiseFault n .cashTamper (s.changed n f c) := (raiseFault_changed hf .cashTamper c).symm
    rw [hs, hraise]
    split
    · exact if_neg hp
    · rfl

theorem removalBox_changed {f : MachineRecord → MachineRecord} (hf : Apart f) (s : State) (n : Nat) (c : CashUnit) :
    removalBox n (s.changed n f c) =
      (clearFault n .boxFull .removed (clearFault n .boxNearFull .removed (raiseFault n .boxOut s))).changed n
        (fun m => { f m with box := .out }) c := by
  have hout : Apart fun m : MachineRecord => { f m with box := .out } :=
    ⟨hf.number, hf.faults, fun m k e => by rw [← hf.entry m k e]; rfl⟩
  have hbox : (s.changed n f c).onMachine n (fun m => { m with box := .out }) = s.changed n (fun m => { f m with box := .out }) c := by
    rw [onMachine_eq_changed, changed_changed hf]
    rfl
  rw [removalBox, hbox, raiseFault_changed hout, clearFault_changed hout, clearFault_changed hout]

/-- The entry of an open round takes the number of a drop that was scheduled (05 R99). -/
def numberOpen (n : Nat) (snap : Snapshot) (number : Nat) (s : State) : State :=
  match s.openRound? with
  | some r => if snap.round.isSome then putRound (r.onEntry n fun e => { e with drop := some number }) s else s
  | none => s

/-- A snapshot held back while the ring is full (05 R90). -/
theorem dropOrHold_full {f : MachineRecord → MachineRecord} (hf : Apart f) {s : State} {n : Nat} {c : CashUnit}
    {snap : Snapshot} (hfull : ¬c.placesTaken < 256) :
    dropOrHold n snap (s.changed n f c) =
      (⟨none, true⟩, (raiseFault n .dropHeld s).changed n (fun m => { f m with heldDrop := some snap, removal := .held }) c) := by
  have hheld : Apart fun m : MachineRecord => { f m with heldDrop := some snap, removal := .held } :=
    ⟨hf.number, hf.faults, fun m k e => by rw [← hf.entry m k e]; rfl⟩
  have hno : ¬(s.changed n f c).cash.freePlace = true := fun h => hfull (of_decide_eq_true h)
  have hchange : (s.changed n f c).onMachine n (fun m => { m with heldDrop := some snap, removal := .held }) =
      s.changed n (fun m => { f m with heldDrop := some snap, removal := .held }) c := by
    rw [onMachine_eq_changed, changed_changed hf]
    rfl
  rw [dropOrHold, if_neg hno, hchange, raiseFault_changed hheld]

/-- A snapshot put in a place of the ring (05 R93, R94, R99). -/
theorem dropOrHold_stored {f : MachineRecord → MachineRecord} (hf : Apart f) {s : State} {n place number : Nat}
    {c : CashUnit} {snap : Snapshot} (hfree : c.placesTaken < 256) (hplace : (s.changed n f c).dropPlace = place)
    (hnumber : number = if 65535 ≤ c.dropCounter then 1 else c.dropCounter + 1)
    (hopen : snap.round.isSome = true → ∃ r, c.round = some r ∧ r.isOpen = true) :
    dropOrHold n snap (s.changed n f c) =
      (⟨some (place, ⟨number, snap⟩), true⟩,
        s.changed n (fun m => { f m with removal := .recorded number })
          (c.removed true place number
            (if snap.round.isSome then c.round.map fun r => r.onEntry n fun e => { e with drop := some number }
            else c.round))) := by
  subst hplace hnumber
  have hyes : (s.changed n f c).cash.freePlace = true := decide_eq_true hfree
  have hchange (d : CashUnit) : (s.changed n f d).onMachine n
      (fun m => { m with removal := .recorded (nextNumber c.dropCounter) }) =
        s.changed n (fun m => { f m with removal := .recorded (nextNumber c.dropCounter) }) d := by
    rw [onMachine_eq_changed, changed_changed hf]
    rfl
  obtain ⟨t, ht⟩ : ∃ t, t = s.changed n (fun m => { f m with removal := .recorded (nextNumber c.dropCounter) })
      (c.removed true (s.changed n f c).dropPlace (nextNumber c.dropCounter) c.round) := ⟨_, rfl⟩
  have htaken : State.onMachine (takePlace snap (s.changed n f c)).2 n
      (fun m => { m with removal := .recorded (nextNumber c.dropCounter) }) = t :=
    (hchange (c.removed true (s.changed n f c).dropPlace (nextNumber c.dropCounter) c.round)).trans ht.symm
  have hround : t.cash.round = c.round := by rw [ht]; rfl
  have hdrop : dropOrHold n snap (s.changed n f c) =
      (⟨some ((s.changed n f c).dropPlace, ⟨nextNumber c.dropCounter, snap⟩), true⟩,
        numberOpen n snap (nextNumber c.dropCounter) t) := by
    rw [dropOrHold, if_pos hyes, ← htaken]
    rfl
  rw [hdrop]
  refine congrArg (Prod.mk _) ?_
  unfold numberOpen
  cases hs : snap.round.isSome with
  | false =>
    rw [if_neg Bool.false_ne_true, ht]
    split
    · exact if_neg (by decide)
    · rfl
  | true =>
    obtain ⟨r, hr, ho⟩ := hopen hs
    rw [openRound?_eq_some (hround.trans hr) ho, if_pos rfl, hr, ht]
    rfl

theorem removedRound_numbered (r : Round) (n cash number : Nat) :
    ({ r with
        cash := r.cash + cash
        entries := r.entries.map fun e => if e.machine = n then { e with state := .boxOut, drop := e.drop } else e } : Round).onEntry
          n (fun e => { e with drop := some number }) =
      { r with
        cash := r.cash + cash
        entries := r.entries.map fun e =>
          if e.machine = n then { e with state := .boxOut, drop := some number } else e } := by
  simp only [Round.onEntry, List.map_map]
  refine congrArg (fun es => ({ r with cash := r.cash + cash, entries := es } : Round)) (List.map_congr_left fun e _ => ?_)
  by_cases he : e.machine = n <;> simp [he]

/-- A removal of a machine's box (05 R89, R90, R93, R99). -/
theorem removeBox_eq {s : State} {n box : Nat} {m : MachineRecord} (hm : s.machine? n = some m)
    {takes stored scheduled : Bool} {number place : Nat} {snap : Snapshot} {removal : Removal}
    (htakes : takes = (decide (0 < m.tally.cash) && m.heldDrop.isNone))
    (hstored : stored = (takes && decide (s.cash.placesTaken < 256)))
    (hscheduled : scheduled = decide (s.openEntry? n = some .pending))
    (hnumber : number = if 65535 ≤ s.cash.dropCounter then 1 else s.cash.dropCounter + 1)
    (hplace : stored = true → s.dropPlace = place)
    (hsnap : snap = ⟨n, if scheduled then s.cash.round.map Round.number else none, box, s.now, m.tally.counts,
      m.tally.cash, m.tally.unitemised, m.tally.sales, m.tally.first, m.tally.last⟩)
    (hremoval : removal = if stored then .recorded number else if 0 < m.tally.cash then .held else .noDrop) :
    removeBox n box s =
      (⟨if stored then some (place, ⟨number, snap⟩) else none, takes⟩,
        (removalFaults n scheduled (takes && !stored) s).changed n
          (fun x => x.emptied takes (takes && !stored) snap removal)
          (s.cash.removed stored place number
            (removedRound n scheduled stored (if takes then m.tally.cash else 0) number s.cash.round))) := by
  subst hsnap
  have hsnapshot : m.tally.snapshot n box (if s.openEntry? n = some .pending then s.openRound?.map Round.number else none)
      s.now = ⟨n, if scheduled then s.cash.round.map Round.number else none, box, s.now, m.tally.counts,
        m.tally.cash, m.tally.unitemised, m.tally.sales, m.tally.first, m.tally.last⟩ := by
    by_cases hp : s.openEntry? n = some .pending
    · obtain ⟨r, hr, -, ho, -⟩ := openEntry?_eq_some hp
      rw [hscheduled, decide_eq_true hp, if_pos hp, if_pos rfl, ho, hr]
      rfl
    · rw [hscheduled, decide_eq_false hp, if_neg hp, if_neg Bool.false_ne_true]
      rfl
  obtain ⟨snap, hsnap⟩ : ∃ snap, snap = (⟨n, if scheduled then s.cash.round.map Round.number else none, box, s.now,
    m.tally.counts, m.tally.cash, m.tally.unitemised, m.tally.sales, m.tally.first, m.tally.last⟩ : Snapshot) := ⟨_, rfl⟩
  rw [← hsnap] at hsnapshot ⊢
  have hcash : snap.cash = m.tally.cash := by rw [hsnap]
  have hemptied : Apart fun x : MachineRecord => { x with tally := if takes then emptyTally else x.tally } :=
    ⟨fun _ => rfl, fun _ => rfl, fun _ _ _ => rfl⟩
  have hout : Apart fun x : MachineRecord => { x with tally := if takes then emptyTally else x.tally, box := .out } :=
    ⟨fun _ => rfl, fun _ => rfl, fun _ _ _ => rfl⟩
  have htake : (if takes then s.onMachine n fun x => { x with tally := emptyTally } else s) =
      s.changed n (fun x => { x with tally := if takes then emptyTally else x.tally }) s.cash := by
    cases takes with
    | true => rfl
    | false => exact (onMachine_eq_self fun _ _ _ => rfl).symm
  obtain ⟨t, ht⟩ : ∃ t, t = clearFault n .boxFull .removed
    (clearFault n .boxNearFull .removed (raiseFault n .boxOut (raiseIf (!scheduled) n .cashTamper s))) := ⟨_, rfl⟩
  obtain ⟨c, hc⟩ : ∃ c : CashUnit, c = { s.cash with
    round := removedRound n scheduled false (if takes then m.tally.cash else 0) 0 s.cash.round } := ⟨_, rfl⟩
  have hstep : removalBox n (removalRound n (if takes then snap.cash else 0)
      (if takes then s.onMachine n fun x => { x with tally := emptyTally } else s)) =
        t.changed n (fun x => { x with tally := if takes then emptyTally else x.tally, box := .out }) c := by
    rw [htake, removalRound_changed hemptied s n _ s.cash rfl hscheduled, removalBox_changed hemptied, hcash, ← ht, hc]
  have hremove : removeBox n box s =
      if takes then dropOrHold n snap (t.changed n (fun x => { x with tally := if takes then emptyTally else x.tally, box := .out }) c)
      else (⟨none, false⟩,
        (t.changed n (fun x => { x with tally := if takes then emptyTally else x.tally, box := .out }) c).onMachine n fun x =>
          { x with removal := if 0 < m.tally.cash then .held else .noDrop }) := by
    rw [← hstep, ← hsnapshot, htakes]
    simp only [removeBox, hm]
  rw [hremove]
  cases takes with
  | false =>
    have hno : stored = false := hstored
    subst hno hremoval hc
    have hfaults : removalFaults n scheduled (false && !false) s = t := ht.symm
    rw [if_neg Bool.false_ne_true, hfaults, onMachine_eq_changed, changed_changed hout]
    refine congrArg (Prod.mk _) (changed_congr (fun x _ _ => ?_) ?_)
    · rfl
    · cases scheduled <;> rfl
  | true =>
    by_cases hfree : s.cash.placesTaken < 256
    · have hyes : stored = true := by rw [hstored, decide_eq_true hfree]; rfl
      subst hyes hremoval
      have hsame : s.sameBut t := by
        rw [ht]
        exact sameBut_removalFaults n scheduled false s
      have hfaults : removalFaults n scheduled (true && !true) s = t := ht.symm
      rw [if_pos rfl, hfaults, dropOrHold_stored hout (number := number) (place := place)]
      · refine congrArg (Prod.mk _) (changed_congr (fun x _ _ => ?_) ?_)
        · rfl
        · rw [hc, hsnap]
          refine congrArg (s.cash.removed true place number) ?_
          cases scheduled with
          | false => rfl
          | true =>
            obtain ⟨r, hr, -⟩ := openEntry?_eq_some (of_decide_eq_true hscheduled.symm)
            rw [hr]
            exact congrArg some (removedRound_numbered r n _ number)
      · rw [hc]; exact hfree
      · rw [← hplace rfl, hc]
        obtain ⟨ms, sm, na, he⟩ := hsame
        rw [he]
        rfl
      · rw [hnumber, hc]
      · intro hs
        cases scheduled with
        | false => rw [hsnap] at hs; cases hs
        | true =>
          obtain ⟨r, hr, ho, -⟩ := openEntry?_eq_some (of_decide_eq_true hscheduled.symm)
          rw [hc, hr]
          exact ⟨_, rfl, ho⟩
    · have hno : stored = false := by rw [hstored, decide_eq_false hfree]; rfl
      have hpos : 0 < m.tally.cash := by
        by_contra h
        simp [h] at htakes
      subst hno
      rw [if_neg Bool.false_ne_true, if_pos hpos] at hremoval
      subst hremoval
      have hfaults : removalFaults n scheduled (true && !false) s = raiseFault n .dropHeld t := by rw [ht]; rfl
      rw [if_pos rfl, hfaults, dropOrHold_full hout (by rw [hc]; exact hfree), hc]
      refine congrArg (Prod.mk _) (changed_congr (fun x _ _ => ?_) ?_)
      · rfl
      · cases scheduled <;> rfl

end Sys2Proof.Machine

/-! PROOFS. The insertion of a box, and the write that ends a box event (05 R87, R91). -/

namespace Sys2Proof.Machine

/-! ## Insertion -/

/-- A round whose entry of a machine has been collected, where it was BoxOut: it closes once every entry has ended (05 R91,
R101). -/
def collectedRound (n : Nat) (joins closes : Bool) (round : Option Round) : Option Round :=
  if joins then
    round.map fun r =>
      { r with
        isOpen := !closes
        entries := r.entries.map fun e => if e.machine = n then { e with state := .collected } else e }
  else round

theorem ended_collected (r : Round) (n : Nat) :
    (r.onEntry n fun e => { e with state := .collected }).ended =
      r.entries.all fun e => decide (e.machine = n ∨ e.state ≠ .pending ∧ e.state ≠ .boxOut) := by
  simp only [Round.ended, Round.onEntry, List.all_map]
  refine congrArg (fun p => r.entries.all p) (funext fun e => ?_)
  by_cases he : e.machine = n
  · simp [he]
  · cases hst : e.state <;> simp [he, hst]

theorem insertionRound_changed {f : MachineRecord → MachineRecord} (s : State) {n : Nat} {c : CashUnit}
    {joins closes : Bool} (hj : joins = decide ((s.changed n f c).openEntry? n = some .boxOut))
    (hc : closes = (joins && c.round.any fun r => r.entries.all fun e =>
      decide (e.machine = n ∨ e.state ≠ .pending ∧ e.state ≠ .boxOut))) :
    insertionRound n (s.changed n f c) =
      (closingNoticed closes (collectedRound n joins closes c.round) s).changed n f
        { c with round := collectedRound n joins closes c.round } := by
  unfold insertionRound
  by_cases hout : (s.changed n f c).openEntry? n = some .boxOut
  · obtain ⟨r, hr, hopen, ho, -⟩ := openEntry?_eq_some hout
    have hr' : c.round = some r := hr
    rw [decide_eq_true hout] at hj
    subst hj
    rw [hr', Bool.true_and, Option.any_some, ← ended_collected] at hc
    rw [ho, hr']
    refine (if_pos hout).trans ?_
    rw [putChangedRound, ← hc, closingNoticed, collectedRound, if_pos rfl, Option.map_some, Option.elim_some]
    cases closes with
    | true => rfl
    | false =>
      obtain ⟨number, isOpen, openedBy, openedAt, cash, entries⟩ := r
      obtain rfl : isOpen = true := hopen
      rfl
  · rw [decide_eq_false hout] at hj
    subst hj
    rw [Bool.false_and] at hc
    subst hc
    have hstay : (closingNoticed false (collectedRound n false false c.round) s).changed n f
        { c with round := collectedRound n false false c.round } = s.changed n f c := by
      have hquiet : closingNoticed false c.round s = s := by cases c.round <;> rfl
      rw [collectedRound, if_neg Bool.false_ne_true, hquiet]
    rw [hstay]
    split
    · exact if_neg hout
    · rfl

theorem conflicts_changed {f : MachineRecord → MachineRecord} (hf : Apart f) (s : State) (n box : Nat) (c : CashUnit) :
    (s.changed n f c).conflicts n box = s.conflicts n box := by
  have hany : ((s.changed n f c).machines.any fun m => m.number != n && m.box == .installed box) =
      s.machines.any fun m => m.number != n && m.box == .installed box := by
    show (s.machines.map fun m => if m.number = n then f m else m).any _ = _
    rw [List.any_map]
    refine congrArg (fun p => s.machines.any p) (funext fun m => ?_)
    by_cases hm : m.number = n
    · simp [hm, hf.number]
    · simp [hm]
  rw [State.conflicts, State.conflicts, hany]

theorem apart_installed {f : MachineRecord → MachineRecord} (hf : Apart f) (box : Nat) :
    Apart fun m => { f m with box := .installed box } :=
  ⟨hf.number, hf.faults, fun m k e => by rw [← hf.entry m k e]; rfl⟩

theorem installBox_changed {f : MachineRecord → MachineRecord} (hf : Apart f) (s : State) (n box : Nat) (c : CashUnit)
    {conflict : Bool} (hconflict : conflict = s.conflicts n box) :
    installBox n box (s.changed n f c) =
      (insertionFaults n conflict s).changed n (fun m => { f m with box := .installed box }) c := by
  have hchange : (s.changed n f c).onMachine n (fun m => { m with box := .installed box }) =
      s.changed n (fun m => { f m with box := .installed box }) c := by
    rw [onMachine_eq_changed, changed_changed hf]
    rfl
  rw [installBox, hchange, conflicts_changed hf, ← hconflict, ← insertionFaults_changed (apart_installed hf box)]
  rfl

/-- An insertion of a box in a machine's box that is Out (05 R91, R99, R101). -/
theorem insertBox_changed {f : MachineRecord → MachineRecord} (hf : Apart f) (s : State) {n box : Nat} {c : CashUnit}
    {conflict joins closes : Bool} (hconflict : conflict = s.conflicts n box)
    (hj : joins = decide ((s.changed n f c).openEntry? n = some .boxOut))
    (hc : closes = (joins && c.round.any fun r => r.entries.all fun e =>
      decide (e.machine = n ∨ e.state ≠ .pending ∧ e.state ≠ .boxOut))) :
    insertBox n box (s.changed n f c) =
      (closingNoticed closes (collectedRound n joins closes c.round) (insertionFaults n conflict s)).changed n
        (fun m => { f m with box := .installed box }) { c with round := collectedRound n joins closes c.round } := by
  rw [insertBox, installBox_changed hf s n box c hconflict]
  exact insertionRound_changed _ hj hc

theorem conflicts_iff (s : State) (n box : Nat) :
    s.conflicts n box = true ↔ box = 0 ∨ ∃ x ∈ s.machines, x.number ≠ n ∧ x.box = .installed box := by
  simp [State.conflicts]

/-! ## The end of a box event -/

/-- The write of a box event (05 R87). -/
def boxWork (n id : Nat) (e : BoxEffect) (answer : Option Answer) (before s : State) (held : Option Snapshot)
    (m : MachineRecord) : BoxWork :=
  { machine := n
    id := id
    drop := e.drop
    snapshot := e.snapshot
    heldMade := if held = m.heldDrop then none else m.heldDrop
    round := if before.cash.round = s.cash.round then none else s.cash.round
    recorded := m.box.recordedForm
    removal := m.removal
    answer := answer }

theorem taking_keeps_dirty (c : StoreControl) (op : StoreOp) : (c.taking op).dirty = c.dirty := by
  obtain ⟨h, q, he⟩ := c.taking_frame op
  rw [he]

theorem askBoxWrite_eq {n id : Nat} {e : BoxEffect} {answer : Option Answer} {before s : State} {b m : MachineRecord}
    (hb : before.machine? n = some b) (hm : s.machine? n = some m) :
    askBoxWrite n id e answer before s =
      ask ⟨.boxWrite (boxWork n id e answer before s b.heldDrop m), 2, .nobody⟩ s := by
  simp only [askBoxWrite, hm, hb]
  rfl

/-- A box event ends, in calm: its write is asked, and a snapshot marks the machine's group dirty (05 R83, R87). -/
theorem endBoxEvent_calm {n id : Nat} {e : BoxEffect} {answer : Option Answer} {before s : State} {b m : MachineRecord}
    (hc : s.calm = true) (hb : before.machine? n = some b) (hm : s.machine? n = some m) :
    settle (endBoxEvent n id e answer before s) =
      { s with
        store :=
          { s.store.taking ⟨.boxWrite (boxWork n id e answer before s b.heldDrop m), 2, .nobody⟩ with
            dirty := if e.snapshot then s.store.dirty.set m.group true else s.store.dirty } } := by
  obtain ⟨t, ht⟩ : ∃ t : State, t =
      { s with store := s.store.taking ⟨.boxWrite (boxWork n id e answer before s b.heldDrop m), 2, .nobody⟩ } := ⟨_, rfl⟩
  have hask : askBoxWrite n id e answer before s = t := by
    rw [askBoxWrite_eq hb hm, ht]
    exact ask_calm hc rfl fun _ => rfl
  have hct : t.calm = true := by rw [ht]; exact calm_taking hc rfl rfl
  have hdirty : t.store.dirty = s.store.dirty := by rw [ht]; exact taking_keeps_dirty _ _
  have hend : endBoxEvent n id e answer before s = if e.snapshot then markMachineDirty n t else t := by rw [← hask]; rfl
  rw [hend]
  cases e.snapshot with
  | true =>
    have hmt : t.machine? n = some m := by rw [ht]; exact hm
    rw [if_pos rfl, if_pos rfl, markMachineDirty_calm hct hmt, hdirty, ht]
  | false =>
    rw [if_neg Bool.false_ne_true, if_neg Bool.false_ne_true, settle_of_calm hct, ht,
      ← taking_keeps_dirty s.store]

end Sys2Proof.Machine

/-! PROOFS. BoxRemoved in full (05 R86 to R90, R93, R94, R99). -/

namespace Sys2Proof.Machine

section
variable (s : State) (line : LineId) (n : Nat) (fl : LinkFields) (kind : RequestKind) (reply : Option Answer)

theorem requested_dropPlace : (s.requested line n fl kind reply).dropPlace = s.dropPlace := by cases line <;> rfl

theorem requested_openEntry? : (s.requested line n fl kind reply).openEntry? n = s.openEntry? n :=
  openEntry?_congr (by rw [requested_cash]) n

theorem requested_now : (s.requested line n fl kind reply).now = s.now := by cases line <;> rfl

end

/-- What is recorded of a box event's machine, round and held drop, by what the machine was before it. -/
theorem boxWork_eq {n id : Nat} {e : BoxEffect} {answer : Option Answer} {before s : State} {held : Option Snapshot}
    {m : MachineRecord} {recorded : RecordedBox} {removal : Removal} {heldMade : Option Snapshot} {round : Option Round}
    (hrec : m.box.recordedForm = recorded) (hrem : m.removal = removal)
    (hheld : (if held = m.heldDrop then none else m.heldDrop) = heldMade)
    (hround : (if before.cash.round = s.cash.round then none else s.cash.round) = round) :
    boxWork n id e answer before s held m =
      { machine := n
        id := id
        drop := e.drop
        snapshot := e.snapshot
        heldMade := heldMade
        round := round
        recorded := recorded
        removal := removal
        answer := answer } := by
  rw [boxWork, hrec, hrem, hheld, hround]

/-- The held drop that a removal makes, as its write records it. -/
theorem heldMade_eq {held : Option Snapshot} {takes stored : Bool} {snap : Snapshot} (h : takes = true → held = none) :
    (if held = (if takes && !stored then some snap else held) then none else if takes && !stored then some snap else held) =
      if takes && !stored then some snap else none := by
  cases takes with
  | false => simp
  | true => cases stored <;> simp [h rfl]

/-- The faults of a removal, raised and cleared on the machine as the box event leaves it. -/
theorem removalFaults_onMachine {f : MachineRecord → MachineRecord} (hf : Apart f) {s u v w : State} {n : Nat}
    {scheduled holds : Bool} (hu : u = s.onMachine n f) (hv : v = if scheduled then u else raiseFault n .cashTamper u)
    (hw : w = clearFault n .boxFull .removed (clearFault n .boxNearFull .removed (raiseFault n .boxOut v))) :
    (if holds then raiseFault n .dropHeld w else w) = (removalFaults n scheduled holds s).changed n f s.cash := by
  rw [← removalFaults_changed hf, ← onMachine_eq_changed, removalFaults, hw, hv, hu]
  cases scheduled <;> rfl

/-- Settles O37. -/
theorem boxRemovalEmptiesTheTally : Obligations.BoxRemovalEmptiesTheTally := by
  intro s line slot m fl hc hh hreq
  have hnotFlushing : ¬(s.power = .flushing ∧ RequestKind.boxRemoved.waits = true) :=
    fun h => nomatch (running_of_calm hc).symm.trans h.1
  have hexec : exec (.boxRemoved line slot m.number) s =
      .next (settle (boxRemovedArrival { m with link := .active { fl with silence := 0 } } s.nextId
        (s.requested line m.number fl .boxRemoved none))) :=
    congrArg Host.Outcome.next (request_hears hh hreq hnotFlushing _)
  have hm := machine?_requested (line := line) (fl := fl) hh.2.2.1 .boxRemoved none
  refine ⟨fun box place takes stored scheduled snap number hbox htakes hstored hplace hscheduled hnumber hsnap => ?_,
    fun hbox => ?_⟩
  · obtain ⟨r, hr⟩ : ∃ r, r = s.requested line m.number fl .boxRemoved none := ⟨_, rfl⟩
    have hrcash : r.cash = s.cash := by rw [hr, requested_cash]
    rw [← hr] at hexec hm
    obtain ⟨b, hb⟩ : ∃ b, b = { m with
      link := .active { fl with silence := 0 }, request := some ⟨.boxRemoved, s.nextId, none, false⟩ } := ⟨_, rfl⟩
    rw [← hb] at hm
    have htally : b.tally = m.tally := by rw [hb]
    have hdrop : b.heldDrop = m.heldDrop := by rw [hb]
    obtain ⟨removal, hremoval⟩ : ∃ removal : Removal,
      removal = if stored then .recorded number else if 0 < m.tally.cash then .held else .noDrop := ⟨_, rfl⟩
    obtain ⟨u, hu⟩ : ∃ u, u = r.onMachine m.number fun x => x.emptied takes (takes && !stored) snap removal := ⟨_, rfl⟩
    obtain ⟨v, hv⟩ : ∃ v, v = if scheduled then u else raiseFault m.number .cashTamper u := ⟨_, rfl⟩
    obtain ⟨w, hw⟩ : ∃ w, w = clearFault m.number .boxFull .removed
      (clearFault m.number .boxNearFull .removed (raiseFault m.number .boxOut v)) := ⟨_, rfl⟩
    obtain ⟨round, hround⟩ : ∃ round,
      round = removedRound m.number scheduled stored (if takes then m.tally.cash else 0) number s.cash.round := ⟨_, rfl⟩
    refine ⟨removal, round, u, v, w, hremoval, ?_, by rw [hu, hr]; rfl, hv, hw, ?_⟩
    · rw [hround]
      rfl
    · have hchain := removalFaults_onMachine (holds := takes && !stored) (apart_emptied takes (takes && !stored) snap removal) hu hv hw
      have hremove := removeBox_eq (s := r) (box := box) hm (htakes.trans (by rw [htally, hdrop])) (hstored.trans (by rw [hrcash]))
        (hscheduled.trans (by rw [hr, requested_openEntry?])) (hnumber.trans (by rw [hrcash]))
        (fun h => by rw [hr, requested_dropPlace, takes_dropPlace (hplace h)])
        (hsnap.trans (by rw [hrcash, htally, hr, requested_now])) (hremoval.trans (by rw [htally]))
      rw [htally, hrcash, ← hround] at hremove
      have hplain : exec (.boxRemoved line slot m.number) s = .next (settle (endBoxEvent m.number s.nextId
          (removeBox m.number box r).1
          (some (boxAnswer 0 ((removeBox m.number box r).2.removalOf m.number) none)) r (removeBox m.number box r).2)) := by
        rw [hexec]
        simp only [boxRemovedArrival, hbox]
      obtain ⟨t, ht⟩ : ∃ t, t = (removeBox m.number box r).2 := ⟨_, rfl⟩
      obtain ⟨e, he⟩ : ∃ e, e = (removeBox m.number box r).1 := ⟨_, rfl⟩
      rw [← ht, ← he] at hplain
      rw [hremove] at ht he
      obtain ⟨x, hx, fs, sv, hxb⟩ := faultsOnly_removalFaults m.number scheduled (takes && !stored) r _ _ hm
      have hmt : t.machine? m.number = some (x.emptied takes (takes && !stored) snap removal) := by
        rw [ht, machine?_changed (apart_emptied ..), hx]
        rfl
      have hcalm : t.calm = true := by
        obtain ⟨ms, sm, na, hsame⟩ := sameBut_removalFaults m.number scheduled (takes && !stored) r
        rw [ht, hsame]
        exact calm_of_store hc (by rw [hr]; exact requested_power s line m.number fl .boxRemoved none)
          (by rw [hr]; exact requested_store s line m.number fl .boxRemoved none)
      have hstore : t.store = s.store := by
        obtain ⟨ms, sm, na, hsame⟩ := sameBut_removalFaults m.number scheduled (takes && !stored) r
        rw [ht, hsame, hr]
        exact requested_store s line m.number fl .boxRemoved none
      have htround : t.cash.round = round := by rw [ht]; rfl
      have hremoved : t.removalOf m.number = removal := by rw [State.removalOf, hmt]; rfl
      have hheld : b.heldDrop = x.heldDrop := by rw [hxb]
      have hnone : takes = true → x.heldDrop = none := fun h => by
        rw [htakes, Bool.and_eq_true] at h
        rw [← hheld, hdrop]
        exact Option.isNone_iff_eq_none.mp h.2
      have hwork := boxWork_eq (n := m.number) (id := s.nextId) (e := e) (before := r) (s := t) (held := b.heldDrop)
        (m := x.emptied takes (takes && !stored) snap removal) (answer := some (boxAnswer 0 removal none))
        (recorded := .out) (removal := removal) (heldMade := if takes && !stored then some snap else none)
        (round := if round = s.cash.round then none else round) rfl rfl
        ((congrArg (fun d => if d = _ then none else _) hheld).trans (heldMade_eq hnone)) (by rw [htround, hrcash]; exact if_congr eq_comm rfl rfl)
      have hgroup : (x.emptied takes (takes && !stored) snap removal).group = m.group := by
        rw [MachineRecord.group, MachineRecord.group, MachineRecord.emptied, hxb, hb]
      rw [hplain, hremoved, endBoxEvent_calm hcalm hm hmt, hwork, hgroup, hstore, he]
      rw [hchain, ht]
      rfl
  · have hrepeat (t : State) : boxRemovedArrival { m with link := .active { fl with silence := 0 } } s.nextId t =
        repeatRemoval { m with link := .active { fl with silence := 0 } } s.nextId t := by
      simp only [boxRemovedArrival]
    have hcalm (reply : Option Answer) (k : Nat) :
        ({ s.requested line m.number fl .boxRemoved reply with freeCount := k } : State).calm = true :=
      calm_of_store hc (requested_power s line m.number fl .boxRemoved reply)
        (requested_store s line m.number fl .boxRemoved reply)
    rw [hexec, hrepeat, repeatRemoval]
    refine ⟨fun hr => ?_, fun hr => ⟨Config.freeAnswerCode (s.requested line m.number fl .boxRemoved none).freeCount, ?_⟩⟩
    · have hanswer (x : Byte) : boxAnswer x m.removal none = boxAnswer 0 m.removal none := by
        cases hm' : m.removal with
        | nothing => exact absurd hm' hr
        | recorded n => rfl
        | noDrop => rfl
        | held => rfl
      simp only [if_neg hr, hanswer, giveReply_requested]
      rw [settle_of_calm (hcalm _ _)]
    · have hfree : giveReply m.number s.nextId ⟨Config.freeAnswerCode
          (s.requested line m.number fl .boxRemoved none).freeCount, [0, 0, 0, 0]⟩
          { s.requested line m.number fl .boxRemoved none with
            freeCount := (s.requested line m.number fl .boxRemoved none).freeCount + 1 } =
          { s.requested line m.number fl .boxRemoved (some ⟨Config.freeAnswerCode
            (s.requested line m.number fl .boxRemoved none).freeCount, [0, 0, 0, 0]⟩) with freeCount := s.freeCount + 1 } := by
        rw [← giveReply_requested]
        cases line <;> rfl
      simp only [hr]
      refine congrArg Host.Outcome.next ((congrArg settle hfree).trans (settle_of_calm (hcalm _ _)))

end Sys2Proof.Machine

/-! PROOFS. The round and the conflict of a box that is removed and another put in (05 R91, R99, R101). -/

namespace Sys2Proof.Machine

/-! ## The round of a removal and an insertion -/

/-- Every entry but a machine's has ended. -/
def Round.endedBut (r : Round) (n : Nat) : Bool :=
  r.entries.all fun e => decide (e.machine = n ∨ e.state ≠ .pending ∧ e.state ≠ .boxOut)

/-- A round whose entry of a machine was Pending at a removal and BoxOut at an insertion, as far as they come to it
(05 R99, R101). -/
def exchangedRound (n : Nat) (scheduled joins closes stored : Bool) (cash number : Nat) (round : Option Round) :
    Option Round :=
  if scheduled || joins then
    round.map fun r =>
      { r with
        isOpen := !closes
        cash := r.cash + (if scheduled then cash else 0)
        entries := r.entries.map fun e =>
          if e.machine = n then
            { e with
              state := if joins then .collected else .boxOut
              drop := if scheduled && stored then some number else e.drop }
          else e }
  else round

theorem exchangedRound_eq {s : State} {n : Nat} {scheduled joins closes stored : Bool} {cash number : Nat}
    (hopen : scheduled = true ∨ joins = true → ∃ r, s.cash.round = some r ∧ r.isOpen = true)
    (hcloses : closes = true → joins = true) :
    collectedRound n joins closes (removedRound n scheduled stored cash number s.cash.round) =
      exchangedRound n scheduled joins closes stored cash number s.cash.round := by
  cases scheduled with
  | false =>
    cases joins with
    | false => rfl
    | true => rfl
  | true =>
    obtain ⟨r, hr, ho⟩ := hopen (.inl rfl)
    rw [hr]
    cases joins with
    | false =>
      have hno : closes = false := Bool.eq_false_iff.mpr fun h => nomatch hcloses h
      obtain ⟨number, isOpen, openedBy, openedAt, cash, entries⟩ := r
      obtain rfl : isOpen = true := ho
      rw [hno]
      rfl
    | true =>
      refine congrArg some ?_
      show ({ r with isOpen := !closes, cash := r.cash + cash, entries := (List.map _ r.entries).map _ } : Round) = _
      rw [List.map_map]
      refine congrArg (fun es => ({ r with isOpen := !closes, cash := r.cash + cash, entries := es } : Round))
        (List.map_congr_left fun e _ => ?_)
      by_cases he : e.machine = n <;> simp [he]

theorem entry?_map {r : Round} {n : Nat} {f : RoundEntry → RoundEntry} (hf : ∀ e, (f e).machine = e.machine)
    (es : List RoundEntry) (hes : es = r.entries.map f) :
    (({ r with entries := es } : Round).entry? n) = (r.entry? n).map f := by
  rw [hes, Round.entry?, Round.entry?, List.find?_map]
  exact congrArg (fun p => (r.entries.find? p).map f) (funext fun e => by simp [hf])

/-- After a removal a machine's entry is BoxOut where it was so or was Pending (05 R99). -/
theorem openEntry?_removed {s t : State} {n : Nat} {scheduled stored : Bool} {cash number : Nat}
    (hs : scheduled = decide (s.openEntry? n = some .pending))
    (ht : t.cash.round = removedRound n scheduled stored cash number s.cash.round) :
    decide (t.openEntry? n = some .boxOut) = (scheduled || decide (s.openEntry? n = some .boxOut)) := by
  cases scheduled with
  | false => rw [openEntry?_congr (t := t) (s := s) ht, Bool.false_or]
  | true =>
    have hpending := of_decide_eq_true hs.symm
    obtain ⟨r, hr, ho, hround, -⟩ := openEntry?_eq_some hpending
    obtain ⟨e, he, hst⟩ : ∃ e, r.entry? n = some e ∧ e.state = .pending := by
      rw [State.openEntry?, hround] at hpending
      exact Option.map_eq_some_iff.mp hpending
    have hmachine : e.machine = n := by simpa using List.find?_some he
    rw [Bool.true_or, decide_eq_true_iff, State.openEntry?]
    rw [hr] at ht
    rw [openRound?_eq_some ht ho]
    show ((Round.entry? _ n).map RoundEntry.state) = _
    have hentry := entry?_map (r := { r with cash := r.cash + cash }) (n := n)
      (f := fun e => if e.machine = n then { e with state := .boxOut, drop := if stored then some number else e.drop } else e)
      (fun e => by split <;> rfl) _ rfl
    have he' : ({ r with cash := r.cash + cash } : Round).entry? n = some e := he
    rw [he', Option.map_some, if_pos hmachine] at hentry
    exact congrArg (Option.map RoundEntry.state) hentry

theorem endedBut_removed (n : Nat) (scheduled stored : Bool) (cash number : Nat) (round : Option Round) :
    (removedRound n scheduled stored cash number round).any (fun r => r.endedBut n) = round.any fun r => r.endedBut n := by
  cases scheduled with
  | false => rfl
  | true =>
    cases round with
    | none => rfl
    | some r =>
      show List.all (r.entries.map _) _ = r.entries.all _
      rw [List.all_map]
      refine congrArg (fun p => r.entries.all p) (funext fun e => ?_)
      by_cases he : e.machine = n <;> simp [he]

/-- A round that a removal or an insertion has changed differs from what it was. -/
theorem exchangedRound_ne {s : State} {n : Nat} {scheduled joins closes stored : Bool} {cash number : Nat}
    (hs : scheduled = true → s.openEntry? n = some .pending)
    (hj : scheduled = false → joins = true → s.openEntry? n = some .boxOut) (h : (scheduled || joins) = true) :
    exchangedRound n scheduled joins closes stored cash number s.cash.round ≠ s.cash.round := by
  obtain ⟨st, hst, hne⟩ : ∃ st, s.openEntry? n = some st ∧ st ≠ if joins then .collected else .boxOut := by
    cases scheduled with
    | true => exact ⟨_, hs rfl, by cases joins <;> decide⟩
    | false =>
      rw [Bool.false_or] at h
      subst h
      exact ⟨_, hj rfl rfl, by decide⟩
  obtain ⟨r, hr, -, -, e, hmem, hmachine, rfl⟩ := openEntry?_eq_some hst
  rw [hr, exchangedRound, if_pos h]
  intro hsame
  have hentries := congrArg Round.entries (Option.some.inj hsame)
  have hfixed := List.map_inj_left.mp (hentries.trans (List.map_id _).symm) e hmem
  rw [if_pos hmachine] at hfixed
  exact hne (congrArg RoundEntry.state hfixed).symm

/-- The round as the write of a box event records it. -/
theorem roundRecorded_eq {s : State} {n : Nat} {scheduled joins closes stored : Bool} {cash number : Nat}
    (hs : scheduled = true → s.openEntry? n = some .pending)
    (hj : scheduled = false → joins = true → s.openEntry? n = some .boxOut) :
    (if s.cash.round = exchangedRound n scheduled joins closes stored cash number s.cash.round then none
      else exchangedRound n scheduled joins closes stored cash number s.cash.round) =
      if scheduled || joins then exchangedRound n scheduled joins closes stored cash number s.cash.round else none := by
  cases h : scheduled || joins with
  | true => exact if_neg (exchangedRound_ne hs hj h).symm
  | false =>
    have hstay : exchangedRound n scheduled joins closes stored cash number s.cash.round = s.cash.round :=
      if_neg (ne_true_of_eq_false h)
    exact if_pos hstay.symm

/-! ## Conflicts -/

theorem conflicts_of_machines {s t : State} {n : Nat} {f : MachineRecord → MachineRecord} (hf : ∀ m, (f m).number = m.number)
    (ht : t.machines = (s.onMachine n f).machines) (box : Nat) : t.conflicts n box = s.conflicts n box := by
  have hany : (t.machines.any fun m => m.number != n && m.box == .installed box) =
      s.machines.any fun m => m.number != n && m.box == .installed box := by
    rw [ht]
    show (s.machines.map fun m => if m.number = n then f m else m).any _ = _
    rw [List.any_map]
    refine congrArg (fun p => s.machines.any p) (funext fun m => ?_)
    by_cases hm : m.number = n
    · simp [hm, hf]
    · simp [hm]
  rw [State.conflicts, State.conflicts, hany]

theorem raiseFault_conflicts (n : Nat) (k : FaultKind) (s : State) (box : Nat) :
    (raiseFault n k s).conflicts n box = s.conflicts n box := by
  cases h : s.machine? n with
  | none => simp only [raiseFault, h]
  | some m =>
    exact conflicts_of_machines (f := fun x => x.withEntry k ((m.faults.get k).raised s.now)) (by intro; rfl)
      (by rw [raiseFault_eq h]; rfl) box

theorem clearFault_conflicts (n : Nat) (k : FaultKind) (c : ClearCause) (s : State) (box : Nat) :
    (clearFault n k c s).conflicts n box = s.conflicts n box := by
  cases h : s.machine? n with
  | none => simp only [clearFault, h]
  | some m =>
    cases ha : m.faults.active k with
    | false => rw [clearFault_inactive h ha]
    | true =>
      exact conflicts_of_machines (f := fun x => x.withEntry k ((m.faults.get k).cleared s.now)) (by intro; rfl)
        (by rw [clearFault_active h ha]; rfl) box

theorem raiseIf_conflicts (b : Bool) (n : Nat) (k : FaultKind) (s : State) (box : Nat) :
    (raiseIf b n k s).conflicts n box = s.conflicts n box := by
  cases b
  · rfl
  · exact raiseFault_conflicts n k s box

theorem removalFaults_conflicts (n : Nat) (scheduled holds : Bool) (s : State) (box : Nat) :
    (removalFaults n scheduled holds s).conflicts n box = s.conflicts n box := by
  rw [removalFaults, raiseIf_conflicts, clearFault_conflicts, clearFault_conflicts, raiseFault_conflicts, raiseIf_conflicts]

end Sys2Proof.Machine

/-! PROOFS. BoxInserted in full (05 R91, R92, R99, R101). -/

namespace Sys2Proof.Machine

theorem apart_box (box : Nat) : Apart fun m : MachineRecord => { m with box := .installed box } :=
  ⟨fun _ => rfl, fun _ => rfl, fun _ _ _ => rfl⟩

/-- The faults and the notice of an insertion, on the machine as it leaves it. -/
theorem insertionNoticed_changed {f : MachineRecord → MachineRecord} (hf : Apart f) {s v w : State} {n : Nat}
    {conflict closes : Bool} {round : Option Round} {c : CashUnit}
    (hv : v = clearFault n .boxOut .inserted (s.changed n f c))
    (hw : w = if conflict then raiseFault n .boxConflict v else v) :
    (round.elim w fun r => if closes then notify (roundClosedNotice r) w else w) =
      (closingNoticed closes round (insertionFaults n conflict s)).changed n f c := by
  rw [← closingNoticed_changed, ← insertionFaults_changed hf, hw, hv]
  rfl

/-- A box event that only inserts a box, in calm: what its write records (05 R87, R91). -/
theorem insertBox_out {s : State} {n box : Nat} {conflict joins closes : Bool} (hconflict : conflict = s.conflicts n box)
    (hj : joins = decide (s.openEntry? n = some .boxOut))
    (hc : closes = (joins && s.cash.round.any fun r => r.endedBut n)) :
    insertBox n box s =
      (closingNoticed closes (collectedRound n joins closes s.cash.round) (insertionFaults n conflict s)).changed n
        (fun m => { m with box := .installed box })
        { s.cash with round := collectedRound n joins closes s.cash.round } := by
  have hid : s = s.changed n (fun m => m) s.cash := (onMachine_eq_self fun _ _ _ => rfl).symm
  have happly := insertBox_changed (f := fun m => m) ⟨fun _ => rfl, fun _ => rfl, fun _ _ _ => rfl⟩ s (box := box)
    (c := s.cash) hconflict (by rw [← hid]; exact hj) hc
  rw [← hid] at happly
  exact happly

theorem boxInsertedArrival_out (s : State) {m : MachineRecord} (hm : ∀ old, m.box ≠ .installed old) (box id : Nat) :
    boxInsertedArrival box m id s =
      endBoxEvent m.number id ⟨none, false⟩ (some (boxAnswer 0 .nothing (some (s.conflicts m.number box)))) s
        (insertBox m.number box s) := by
  simp only [boxInsertedArrival, insertionPart]

theorem boxInsertedArrival_exchange (s : State) {m : MachineRecord} {old box : Nat} (hm : m.box = .installed old)
    (hne : old ≠ box) (id : Nat) :
    boxInsertedArrival box m id s =
      endBoxEvent m.number id (removeBox m.number old s).1
        (some (boxAnswer 0 ((removeBox m.number old s).2.removalOf m.number) (some (s.conflicts m.number box)))) s
        (insertBox m.number box (removeBox m.number old s).2) := by
  simp only [boxInsertedArrival, hm, if_neg hne, insertionPart]

theorem requested_conflicts (s : State) (line : LineId) (n : Nat) (fl : LinkFields) (kind : RequestKind)
    (reply : Option Answer) (box : Nat) : (s.requested line n fl kind reply).conflicts n box = s.conflicts n box :=
  conflicts_of_machines (f := fun x => { x with link := .active { fl with silence := 0 }, request := some ⟨kind, s.nextId, reply, false⟩ })
    (fun _ => rfl) (by cases line <;> rfl) box

/-- An insertion alone is the exchange of a box with no removal in it. -/
theorem collectedRound_eq (n : Nat) (joins closes : Bool) (round : Option Round) :
    collectedRound n joins closes round = exchangedRound n false joins closes false 0 0 round := by
  cases joins <;> cases round <;> rfl

theorem taking_same_dirty (c : StoreControl) (op : StoreOp) : { c.taking op with dirty := c.dirty } = c.taking op := by
  rw [← taking_keeps_dirty c op]

/-- The machine and the store of a box event's outcome. -/
theorem calm_sameBut {s t u : State} (hc : s.calm = true) (hp : t.power = s.power) (hs : t.store = s.store)
    (h : t.sameBut u) (n : Nat) (f : MachineRecord → MachineRecord) (c : CashUnit) :
    (u.changed n f c).calm = true ∧ (u.changed n f c).store = s.store := by
  obtain ⟨ms, sm, na, rfl⟩ := h
  exact ⟨calm_of_store hc hp hs, hs⟩

/-- A machine whose box has been exchanged for another. -/
def MachineRecord.exchanged (takes holds : Bool) (snap : Snapshot) (removal : Removal) (box : Nat) (m : MachineRecord) :
    MachineRecord := { m.emptied takes holds snap removal with box := .installed box }

theorem apart_exchanged (takes holds : Bool) (snap : Snapshot) (removal : Removal) (box : Nat) :
    Apart fun m => m.exchanged takes holds snap removal box := apart_installed (apart_emptied takes holds snap removal) box

/-- Settles O38. -/
theorem boxInsertionInstallsTheBox : Obligations.BoxInsertionInstallsTheBox := by
  intro s line slot m fl box hc hh hreq
  have hnotFlushing : ¬(s.power = .flushing ∧ RequestKind.boxInserted.waits = true) :=
    fun h => nomatch (running_of_calm hc).symm.trans h.1
  have hexec : exec (.boxInserted line slot m.number box) s =
      .next (settle (boxInsertedArrival box { m with link := .active { fl with silence := 0 } } s.nextId
        (s.requested line m.number fl .boxInserted none))) :=
    congrArg Host.Outcome.next (request_hears hh hreq hnotFlushing _)
  have hm := machine?_requested (line := line) (fl := fl) hh.2.2.1 .boxInserted none
  obtain ⟨b, hb⟩ : ∃ b, b = { m with
    link := .active { fl with silence := 0 }, request := some ⟨.boxInserted, s.nextId, none, false⟩ } := ⟨_, rfl⟩
  rw [← hb] at hm
  have htally : b.tally = m.tally := by rw [hb]
  have hdrop : b.heldDrop = m.heldDrop := by rw [hb]
  have hrconflicts := requested_conflicts s line m.number fl .boxInserted none box
  have hrentry := requested_openEntry? s line m.number fl .boxInserted none
  have hrpower := requested_power s line m.number fl .boxInserted none
  have hrstore := requested_store s line m.number fl .boxInserted none
  have hrcash := requested_cash s line m.number fl .boxInserted none
  refine ⟨fun hbox => ?_, fun conflict hconflict => ⟨fun hbox joins closes hjoins hcloses => ?_,
    fun old place takes stored scheduled closes snap number hbox hne hentry htakes hstored hplace hscheduled hcloses hnumber
      hsnap => ?_⟩⟩
  · have hsame : boxInsertedArrival box { m with link := .active { fl with silence := 0 } } s.nextId
        (s.requested line m.number fl .boxInserted none) =
          s.requested line m.number fl .boxInserted (some (boxAnswer 0 .nothing (some (m.faults.active .boxConflict)))) := by
      simp only [boxInsertedArrival, hbox, if_true]
      exact giveReply_requested s line m.number fl .boxInserted _
    rw [hexec, hsame, settle_of_calm (calm_of_store hc (requested_power s line m.number fl .boxInserted _)
      (requested_store s line m.number fl .boxInserted _))]
  · obtain ⟨r, hr⟩ : ∃ r, r = s.requested line m.number fl .boxInserted none := ⟨_, rfl⟩
    have hconf : conflict = s.conflicts m.number box := by rw [Bool.eq_iff_iff, hconflict, conflicts_iff]
    rw [← hr] at hexec hm hrconflicts hrentry hrpower hrstore hrcash
    obtain ⟨round, hround⟩ : ∃ round, round = collectedRound m.number joins closes s.cash.round := ⟨_, rfl⟩
    obtain ⟨v, hv⟩ : ∃ v, v = clearFault m.number .boxOut .inserted
      (r.changed m.number (fun x => { x with box := .installed box }) r.cash) := ⟨_, rfl⟩
    obtain ⟨w, hw⟩ : ∃ w, w = if conflict then raiseFault m.number .boxConflict v else v := ⟨_, rfl⟩
    have hinsert := insertBox_out (s := r) (n := m.number) (box := box) (joins := joins) (closes := closes)
      (hconf.trans hrconflicts.symm) (by rw [hrentry]; exact hjoins) (by rw [hrcash]; exact hcloses)
    rw [hrcash, ← hround] at hinsert
    obtain ⟨x, hx, fs, sv, hxb⟩ := ((faultsOnly_insertionFaults m.number conflict r).trans
      (faultsOnly_closingNoticed closes round _)) _ _ hm
    obtain ⟨t, ht⟩ : ∃ t, t = insertBox m.number box r := ⟨_, rfl⟩
    have hmt : t.machine? m.number = some { x with box := .installed box } := by
      rw [ht, hinsert, machine?_changed (apart_box box), hx]
      rfl
    obtain ⟨hcalm, hstore⟩ := calm_sameBut hc hrpower hrstore
      ((sameBut_insertionFaults m.number conflict r).trans (sameBut_closingNoticed closes round _)) m.number
      (fun x => { x with box := .installed box }) { s.cash with round := round }
    rw [← hinsert, ← ht] at hcalm hstore
    have htround : t.cash.round = round := by rw [ht, hinsert]; rfl
    have hwork := boxWork_eq (n := m.number) (id := s.nextId) (e := ⟨none, false⟩) (before := r) (s := t)
      (held := b.heldDrop) (m := { x with box := .installed box }) (answer := some (boxAnswer 0 .nothing (some conflict)))
      (recorded := .installed box) (removal := m.removal) (heldMade := none) (round := if joins then round else none)
      rfl (by rw [hxb, hb]) (if_pos (by rw [hxb]))
      (by
        rw [htround, hrcash, hround, collectedRound_eq, ← Bool.false_or joins]
        exact roundRecorded_eq (scheduled := false) (stored := false) (cash := 0) (number := 0) nofun
          fun _ h => of_decide_eq_true (hjoins.symm.trans h))
    refine ⟨round, r.changed m.number (fun x => { x with box := .installed box }) r.cash, v, w, hround, by rw [hr]; rfl, hv, hw, ?_⟩
    rw [insertionNoticed_changed (apart_box box) hv hw, hexec, boxInsertedArrival_out r (m := { m with link := _ })
      (by simp [hbox]), hrconflicts, ← hconf, ← ht, endBoxEvent_calm hcalm hm hmt, hwork, hstore]
    rw [if_neg Bool.false_ne_true, taking_same_dirty, ht, hinsert]
    rfl
  · obtain ⟨r, hr⟩ : ∃ r, r = s.requested line m.number fl .boxInserted none := ⟨_, rfl⟩
    have hrplace := requested_dropPlace s line m.number fl .boxInserted none
    have hrnow := requested_now s line m.number fl .boxInserted none
    have hconf : conflict = s.conflicts m.number box := by rw [Bool.eq_iff_iff, hconflict, conflicts_iff]
    rw [← hr] at hexec hm hrconflicts hrentry hrpower hrstore hrcash hrplace hrnow
    obtain ⟨removal, hremoval⟩ : ∃ removal : Removal,
      removal = if stored then .recorded number else if 0 < m.tally.cash then .held else .noDrop := ⟨_, rfl⟩
    obtain ⟨emptied, hemptied⟩ : ∃ round,
      round = removedRound m.number scheduled stored (if takes then m.tally.cash else 0) number s.cash.round := ⟨_, rfl⟩
    obtain ⟨round, hround⟩ : ∃ round, round = exchangedRound m.number scheduled scheduled closes stored
      (if takes then m.tally.cash else 0) number s.cash.round := ⟨_, rfl⟩
    have hpending : scheduled = true → s.openEntry? m.number = some .pending := fun h => of_decide_eq_true (hscheduled.symm.trans h)
    have hremove := removeBox_eq (s := r) (box := old) hm (htakes.trans (by rw [htally, hdrop])) (hstored.trans (by rw [hrcash]))
      (hscheduled.trans (by rw [hrentry])) (hnumber.trans (by rw [hrcash]))
      (fun h => by rw [hrplace, takes_dropPlace (hplace h)])
      (hsnap.trans (by rw [hrcash, htally, hrnow])) (hremoval.trans (by rw [htally]))
    rw [htally, hrcash, ← hemptied] at hremove
    obtain ⟨t, ht⟩ : ∃ t, t = (removeBox m.number old r).2 := ⟨_, rfl⟩
    obtain ⟨e, he⟩ : ∃ e, e = (removeBox m.number old r).1 := ⟨_, rfl⟩
    obtain ⟨z, hz⟩ : ∃ z, z = insertBox m.number box t := ⟨_, rfl⟩
    have hplain := hexec.trans (congrArg (fun a => Host.Outcome.next (settle a)) (boxInsertedArrival_exchange r
      (m := { m with link := .active { fl with silence := 0 } }) hbox hne s.nextId))
    rw [← ht, ← he, ← hz, hrconflicts, ← hconf] at hplain
    rw [hremove] at ht he
    obtain ⟨x, hx, fs, sv, hxb⟩ := faultsOnly_removalFaults m.number scheduled (takes && !stored) r _ _ hm
    have hmt : t.machine? m.number = some (x.emptied takes (takes && !stored) snap removal) := by
      rw [ht, machine?_changed (apart_emptied ..), hx]
      rfl
    have hremoved : t.removalOf m.number = removal := by rw [State.removalOf, hmt]; rfl
    have htround : t.cash.round = removedRound m.number scheduled stored (if takes then m.tally.cash else 0) number
        r.cash.round := by rw [ht, hrcash, ← hemptied]; rfl
    have hjoins : scheduled = decide (t.openEntry? m.number = some .boxOut) := by
      rw [openEntry?_removed (hscheduled.trans (by rw [hrentry])) htround, hrentry, decide_eq_false hentry, Bool.or_false]
    have hcloses' : closes = (scheduled && t.cash.round.any fun r => r.endedBut m.number) := by
      rw [htround, endedBut_removed, hrcash]
      exact hcloses
    have hcollected : collectedRound m.number scheduled closes t.cash.round = round := by
      rw [htround, hrcash, hround]
      refine exchangedRound_eq (fun h => ?_) fun h => ?_
      · obtain ⟨x, hx, ho, -⟩ := openEntry?_eq_some (hpending (h.elim id id))
        exact ⟨x, hx, ho⟩
      · rw [hcloses, Bool.and_eq_true] at h
        exact h.1
    obtain ⟨y, hy⟩ : ∃ y, y = removalFaults m.number scheduled (takes && !stored) r := ⟨_, rfl⟩
    rw [← hy] at ht hx
    obtain ⟨c, hcash⟩ : ∃ c, c = s.cash.removed stored place number emptied := ⟨_, rfl⟩
    rw [← hcash] at ht
    have htc : t.cash = c := by rw [ht]; rfl
    rw [htc] at hcollected hcloses'
    have hinsert := insertBox_changed (apart_emptied takes (takes && !stored) snap removal) y (n := m.number) (box := box)
      (c := c) (conflict := conflict) (by rw [hy, removalFaults_conflicts, hrconflicts, hconf])
      (hjoins.trans (by rw [ht])) hcloses'
    have ht' : t = y.changed m.number (fun x => x.emptied takes (takes && !stored) snap removal) c := ht
    rw [hcollected, ← ht', ← hz] at hinsert
    have hinsert' : z = (closingNoticed closes round (insertionFaults m.number conflict y)).changed m.number
      (fun x => x.exchanged takes (takes && !stored) snap removal box) { c with round := round } := hinsert
    have hexchanged := apart_exchanged takes (takes && !stored) snap removal box
    obtain ⟨q, hq, fs', sv', hqx⟩ := ((faultsOnly_insertionFaults m.number conflict y).trans
      (faultsOnly_closingNoticed closes round _)) _ _ hx
    have hmz : z.machine? m.number = some (q.exchanged takes (takes && !stored) snap removal box) := by
      rw [hinsert', machine?_changed hexchanged, hq]
      rfl
    have hry : r.sameBut y := by
      rw [hy]
      exact sameBut_removalFaults m.number scheduled (takes && !stored) r
    obtain ⟨hcalm, hstore⟩ := calm_sameBut hc hrpower hrstore
      (hry.trans ((sameBut_insertionFaults m.number conflict y).trans (sameBut_closingNoticed closes round _))) m.number
      (fun x => x.exchanged takes (takes && !stored) snap removal box) { c with round := round }
    rw [← hinsert'] at hcalm hstore
    have hzround : z.cash.round = round := by rw [hinsert']; rfl
    have hheld : b.heldDrop = q.heldDrop := by rw [hqx, hxb]
    have hnone : takes = true → q.heldDrop = none := fun h => by
      rw [htakes, Bool.and_eq_true] at h
      rw [← hheld, hdrop]
      exact Option.isNone_iff_eq_none.mp h.2
    have hwork := boxWork_eq (n := m.number) (id := s.nextId) (e := e) (before := r) (s := z) (held := b.heldDrop)
      (m := q.exchanged takes (takes && !stored) snap removal box) (answer := some (boxAnswer 0 removal (some conflict)))
      (recorded := .installed box) (removal := removal)
      (heldMade := if takes && !stored then some snap else none) (round := if scheduled then round else none) rfl rfl
      ((congrArg (fun d => if d = _ then none else _) hheld).trans (heldMade_eq hnone))
      (by
        rw [hzround, hrcash, hround]
        exact (roundRecorded_eq (fun h => hpending h) fun h h' => nomatch h.symm.trans h').trans
          (by rw [Bool.or_self]))
    have hgroup : (q.exchanged takes (takes && !stored) snap removal box).group = m.group := by
      rw [MachineRecord.group, MachineRecord.group, MachineRecord.exchanged, MachineRecord.emptied, hqx, hxb, hb]
    obtain ⟨u, hu⟩ : ∃ u, u = r.onMachine m.number fun x => x.exchanged takes (takes && !stored) snap removal box := ⟨_, rfl⟩
    obtain ⟨v, hv⟩ : ∃ v, v = if scheduled then u else raiseFault m.number .cashTamper u := ⟨_, rfl⟩
    obtain ⟨w, hw⟩ : ∃ w, w = clearFault m.number .boxFull .removed
      (clearFault m.number .boxNearFull .removed (raiseFault m.number .boxOut v)) := ⟨_, rfl⟩
    have hchain := removalFaults_onMachine (holds := takes && !stored) hexchanged hu hv hw
    rw [← hy] at hchain
    obtain ⟨x', hx'⟩ : ∃ x', x' = clearFault m.number .boxOut .inserted
      (if takes && !stored then raiseFault m.number .dropHeld w else w) := ⟨_, rfl⟩
    obtain ⟨y', hy'⟩ : ∃ y', y' = if conflict then raiseFault m.number .boxConflict x' else x' := ⟨_, rfl⟩
    have hnoticed := insertionNoticed_changed hexchanged (closes := closes) (round := round)
      (hx'.trans (congrArg _ hchain)) hy'
    refine ⟨removal, round, u, v, w, x', y', hremoval, ?_, by rw [hu, hr]; rfl, hv, hw, hx', hy', ?_⟩
    · rw [hround]
      cases scheduled <;> rfl
    · rw [hnoticed, hplain, hremoved, endBoxEvent_calm hcalm hm hmz, hwork, hgroup, hstore, he, hinsert', hcash]
      rfl

end Sys2Proof.Machine

/-! PROOFS. Whether a kind is active on a machine, through the raises and clears of a reconciliation's steps (05 R105 to
R107). -/

namespace Sys2Proof.Machine

/-- A kind is active on a machine registered. -/
def State.faultActive (s : State) (n : Nat) (k : FaultKind) : Bool := (s.machine? n).any fun m => m.faults.active k

theorem faultActive_eq {s : State} {n : Nat} {m : MachineRecord} (h : s.machine? n = some m) (k : FaultKind) :
    s.faultActive n k = m.faults.active k := by
  rw [State.faultActive, h]
  rfl

theorem faultActive_raiseFault_same {s : State} {n : Nat} (h : s.machine? n ≠ none) (k : FaultKind) :
    (raiseFault n k s).faultActive n k = true := by
  obtain ⟨m, hm⟩ := Option.ne_none_iff_exists'.mp h
  rw [faultActive_eq (machine?_raiseFault hm k), MachineRecord.raised]
  exact FaultEntries.active_set_same m.faults k _

theorem faultActive_raiseFault_other (s : State) (n : Nat) {k k' : FaultKind} (h : k' ≠ k) :
    (raiseFault n k s).faultActive n k' = s.faultActive n k' := by
  cases hm : s.machine? n with
  | none => simp only [raiseFault, hm]
  | some m =>
    rw [faultActive_eq (machine?_raiseFault hm k), faultActive_eq hm, MachineRecord.raised]
    exact FaultEntries.active_set_other m.faults _ h

theorem faultActive_clearFault_same (s : State) (n : Nat) (k : FaultKind) (c : ClearCause) :
    (clearFault n k c s).faultActive n k = false := by
  cases hm : s.machine? n with
  | none => simp only [clearFault, hm, State.faultActive, Option.any_none]
  | some m =>
    cases ha : m.faults.active k with
    | false => rw [clearFault_inactive hm ha, faultActive_eq hm, ha]
    | true =>
      rw [faultActive_eq (machine?_clearFault hm ha c), MachineRecord.cleared]
      exact FaultEntries.active_set_same m.faults k _

theorem faultActive_clearFault_other (s : State) (n : Nat) {k k' : FaultKind} (h : k' ≠ k) (c : ClearCause) :
    (clearFault n k c s).faultActive n k' = s.faultActive n k' := by
  cases hm : s.machine? n with
  | none => simp only [clearFault, hm]
  | some m =>
    cases ha : m.faults.active k with
    | false => rw [clearFault_inactive hm ha]
    | true =>
      rw [faultActive_eq (machine?_clearFault hm ha c), faultActive_eq hm, MachineRecord.cleared]
      exact FaultEntries.active_set_other m.faults _ h

theorem faultActive_raiseIf_other (b : Bool) (s : State) (n : Nat) {k k' : FaultKind} (h : k' ≠ k) :
    (raiseIf b n k s).faultActive n k' = s.faultActive n k' := by
  cases b
  · rfl
  · exact faultActive_raiseFault_other s n h

theorem faultActive_raiseIf_same (b : Bool) {s : State} {n : Nat} (h : s.machine? n ≠ none) (k : FaultKind) :
    (raiseIf b n k s).faultActive n k = (b || s.faultActive n k) := by
  cases b
  · rfl
  · exact faultActive_raiseFault_same h k

theorem faultActive_changed {f : MachineRecord → MachineRecord} (hf : Apart f) (s : State) (n : Nat) (c : CashUnit)
    (k : FaultKind) : (s.changed n f c).faultActive n k = s.faultActive n k := by
  rw [State.faultActive, State.faultActive, machine?_changed hf, Option.any_map]
  exact congrArg (fun p => (s.machine? n).any p) (funext fun m => congrArg (fun fs => fs.active k) (hf.faults m))

theorem faultActive_closingNoticed (closes : Bool) (round : Option Round) (s : State) (n : Nat) (k : FaultKind) :
    (closingNoticed closes round s).faultActive n k = s.faultActive n k := by
  cases round with
  | none => rfl
  | some r => cases closes <;> rfl

/-- A raise of a kind not active yet. -/
theorem raiseInactive_eq_raiseIf (s : State) (n : Nat) (k : FaultKind) :
    raiseInactive n k s = raiseIf (!s.faultActive n k) n k s := by
  cases h : s.machine? n with
  | none =>
    have hraise : raiseFault n k s = s := by simp only [raiseFault, h]
    simp only [raiseInactive, h, raiseIf, hraise, ite_self]
  | some m =>
    rw [raiseInactive_eq h, faultActive_eq h, raiseIf]
    cases m.faults.active k <;> rfl

theorem faultsOnly_registered {s t : State} (h : s.faultsOnly t) {n : Nat} (hn : s.machine? n ≠ none) :
    t.machine? n ≠ none := by
  obtain ⟨m, hm⟩ := Option.ne_none_iff_exists'.mp hn
  obtain ⟨x, hx, -⟩ := h n m hm
  rw [hx]
  exact Option.some_ne_none x

/-! ## The faults of the box part -/

/-- The faults and the notice of the box part of a reconciliation: a recorded box that is not the one reported is removed,
a box reported put in, and BOX_OUT raised where none is (05 R105). -/
def reconcileFaults (n : Nat) (removed reported scheduled holds conflict closes : Bool) (round : Option Round) (s : State) :
    State :=
  closingNoticed closes round
    (if reported then insertionFaults n conflict (if removed then removalFaults n scheduled holds s else s)
    else if removed then removalFaults n scheduled holds s
    else raiseFault n .boxOut s)

section
variable (n : Nat) (removed reported scheduled holds conflict closes : Bool) (round : Option Round) (s : State)

theorem reconcileFaults_changed {f : MachineRecord → MachineRecord} (hf : Apart f) (c : CashUnit) :
    reconcileFaults n removed reported scheduled holds conflict closes round (s.changed n f c) =
      (reconcileFaults n removed reported scheduled holds conflict closes round s).changed n f c := by
  cases removed <;> cases reported <;>
    simp only [reconcileFaults, Bool.false_eq_true, if_false, if_true, insertionFaults_changed hf, removalFaults_changed hf,
      raiseFault_changed hf, closingNoticed_changed]

theorem sameBut_reconcileFaults :
    s.sameBut (reconcileFaults n removed reported scheduled holds conflict closes round s) := by
  have hremoved : s.sameBut (if removed then removalFaults n scheduled holds s else s) := by
    cases removed
    · exact sameBut_refl s
    · exact sameBut_removalFaults n scheduled holds s
  refine State.sameBut.trans ?_ (sameBut_closingNoticed closes round _)
  cases reported with
  | true => exact hremoved.trans (sameBut_insertionFaults n conflict _)
  | false =>
    cases removed
    · exact sameBut_raiseFault n .boxOut s
    · exact hremoved

theorem faultsOnly_reconcileFaults :
    s.faultsOnly (reconcileFaults n removed reported scheduled holds conflict closes round s) := by
  have hremoved : s.faultsOnly (if removed then removalFaults n scheduled holds s else s) := by
    cases removed
    · exact faultsOnly_refl s
    · exact faultsOnly_removalFaults n scheduled holds s
  refine State.faultsOnly.trans ?_ (faultsOnly_closingNoticed closes round _)
  cases reported with
  | true => exact hremoved.trans (faultsOnly_insertionFaults n conflict _)
  | false =>
    cases removed
    · exact faultsOnly_raiseFault n .boxOut s
    · exact hremoved

end

section
variable (n : Nat) (scheduled holds conflict : Bool) (s : State)

theorem faultActive_insertionFaults_other {k : FaultKind} (hout : k ≠ .boxOut) (hconf : k ≠ .boxConflict) :
    (insertionFaults n conflict s).faultActive n k = s.faultActive n k := by
  rw [insertionFaults, faultActive_raiseIf_other _ _ _ hconf, faultActive_clearFault_other _ _ hout]

theorem faultActive_removalFaults_boxOut (hs : s.machine? n ≠ none) :
    (removalFaults n scheduled holds s).faultActive n .boxOut = true := by
  rw [removalFaults, faultActive_raiseIf_other _ _ _ (by decide), faultActive_clearFault_other _ _ (by decide),
    faultActive_clearFault_other _ _ (by decide),
    faultActive_raiseFault_same (faultsOnly_registered (faultsOnly_raiseIf _ _ _ _) hs)]

theorem faultActive_removalFaults_dropHeld (hs : s.machine? n ≠ none) :
    (removalFaults n scheduled holds s).faultActive n .dropHeld = (holds || s.faultActive n .dropHeld) := by
  have hregistered := faultsOnly_registered (faultsOnly_removalFaults n scheduled false s) hs
  refine (faultActive_raiseIf_same holds hregistered .dropHeld).trans (congrArg (holds || ·) ?_)
  refine Eq.trans (b := (clearFault n .boxFull .removed (clearFault n .boxNearFull .removed (raiseFault n .boxOut
    (raiseIf (!scheduled) n .cashTamper s)))).faultActive n .dropHeld) rfl ?_
  rw [faultActive_clearFault_other _ _ (by decide),
    faultActive_clearFault_other _ _ (by decide), faultActive_raiseFault_other _ _ (by decide),
    faultActive_raiseIf_other _ _ _ (by decide)]

theorem faultActive_removalFaults_boxNearFull : (removalFaults n scheduled holds s).faultActive n .boxNearFull = false := by
  rw [removalFaults, faultActive_raiseIf_other _ _ _ (by decide), faultActive_clearFault_other _ _ (by decide),
    faultActive_clearFault_same]

theorem faultActive_removalFaults_boxFull : (removalFaults n scheduled holds s).faultActive n .boxFull = false := by
  rw [removalFaults, faultActive_raiseIf_other _ _ _ (by decide), faultActive_clearFault_same]

end

section
variable (n : Nat) (removed reported scheduled holds conflict closes : Bool) (round : Option Round) (s : State)

/-- BOX_OUT is active after the box part wherever no box was reported. -/
theorem faultActive_reconcileFaults_boxOut (hs : s.machine? n ≠ none) :
    (reconcileFaults n removed false scheduled holds conflict closes round s).faultActive n .boxOut = true := by
  rw [reconcileFaults, faultActive_closingNoticed, if_neg Bool.false_ne_true]
  cases removed with
  | true => exact faultActive_removalFaults_boxOut n scheduled holds s hs
  | false => exact faultActive_raiseFault_same hs .boxOut

theorem faultActive_reconcileFaults_dropHeld (hs : s.machine? n ≠ none) (hholds : holds = true → removed = true) :
    (reconcileFaults n removed reported scheduled holds conflict closes round s).faultActive n .dropHeld =
      (holds || s.faultActive n .dropHeld) := by
  have hdrop := faultActive_removalFaults_dropHeld n scheduled holds s hs
  have hno : removed = false → holds = false := fun h => Bool.eq_false_iff.mpr fun h' => nomatch h.symm.trans (hholds h')
  rw [reconcileFaults, faultActive_closingNoticed]
  cases removed with
  | true =>
    cases reported with
    | true => exact (faultActive_insertionFaults_other n conflict _ (by decide) (by decide)).trans hdrop
    | false => exact hdrop
  | false =>
    rw [hno rfl, Bool.false_or]
    cases reported with
    | true => exact faultActive_insertionFaults_other n conflict s (by decide) (by decide)
    | false => exact faultActive_raiseFault_other s n (by decide)

/-- A level of the tally is inactive after a removal, and else as it was. -/
theorem faultActive_reconcileFaults_level {k : FaultKind} (hk : k = .boxNearFull ∨ k = .boxFull) :
    (reconcileFaults n removed reported scheduled holds conflict closes round s).faultActive n k =
      (!removed && s.faultActive n k) := by
  have hcleared : (removalFaults n scheduled holds s).faultActive n k = false := by
    rcases hk with rfl | rfl
    · exact faultActive_removalFaults_boxNearFull n scheduled holds s
    · exact faultActive_removalFaults_boxFull n scheduled holds s
  have hother : k ≠ .boxOut ∧ k ≠ .boxConflict := by rcases hk with rfl | rfl <;> exact ⟨by decide, by decide⟩
  rw [reconcileFaults, faultActive_closingNoticed]
  cases removed with
  | true =>
    cases reported with
    | true => exact (faultActive_insertionFaults_other n conflict _ hother.1 hother.2).trans hcleared
    | false => exact hcleared
  | false =>
    cases reported with
    | true => exact faultActive_insertionFaults_other n conflict s hother.1 hother.2
    | false => exact faultActive_raiseFault_other s n hother.1

end

end Sys2Proof.Machine

/-! PROOFS. The box part of a reconciliation (05 R105). -/

namespace Sys2Proof.Machine

/-- The box that a reconciliation removes: the one recorded, where it is not the one reported (05 R105). -/
def removedBox (recorded : RecordedBox) (report : Option Nat) : Option Nat :=
  match recorded with
  | .installed old => if report = some old then none else some old
  | _ => none

/-- What the box part of a reconciliation comes to. -/
structure BoxFigures where
  report : Option Nat
  removed : Option Nat
  place : Nat
  number : Nat
  snap : Snapshot
  takes : Bool
  stored : Bool
  scheduled : Bool
  joins : Bool
  closes : Bool
  conflict : Bool
  removal : Removal
  round : Option Round

/-- A snapshot is held back. -/
def BoxFigures.holds (d : BoxFigures) : Bool := d.takes && !d.stored

/-- The box that a reconciliation leaves. -/
def BoxFigures.box (d : BoxFigures) : BoxState := d.report.elim .out .installed

/-- The machine as the box part of a reconciliation leaves it, apart from its faults. -/
def MachineRecord.boxed (d : BoxFigures) (left : Tally) (m x : MachineRecord) : MachineRecord :=
  { x with
    box := d.box
    tally := left
    removal := d.removal
    heldDrop := if d.holds then some d.snap else m.heldDrop }

/-- What the figures of the box part are for a machine with its box recorded. -/
structure BoxFigures.Fit (d : BoxFigures) (s : State) (n : Nat) (m : MachineRecord) (recorded : RecordedBox) : Prop where
  removed : d.removed = removedBox recorded d.report
  takes : d.takes = (d.removed.isSome && decide (0 < m.tally.cash) && m.heldDrop.isNone)
  stored : d.stored = (d.takes && decide (s.cash.placesTaken < 256))
  place : d.stored = true → s.dropPlace = d.place
  number : d.number = if 65535 ≤ s.cash.dropCounter then 1 else s.cash.dropCounter + 1
  scheduled : d.scheduled = (d.removed.isSome && decide (s.openEntry? n = some .pending))
  joins : d.joins = (d.report.isSome && (d.removed.isSome || decide (recorded = .out)) &&
    (d.scheduled || decide (s.openEntry? n = some .boxOut)))
  closes : d.closes = (d.joins && s.cash.round.any fun r => r.endedBut n)
  conflict : d.conflict = d.report.any fun box => s.conflicts n box
  snap : d.snap = ⟨n, if d.scheduled then s.cash.round.map Round.number else none, d.removed.getD 0, s.now, m.tally.counts,
    m.tally.cash, m.tally.unitemised, m.tally.sales, m.tally.first, m.tally.last⟩
  removal : d.removal =
    if d.removed = none then m.removal else if d.stored then .recorded d.number else if 0 < m.tally.cash then .held else .noDrop
  round : d.round = exchangedRound n d.scheduled d.joins d.closes d.stored (if d.takes then m.tally.cash else 0) d.number
    s.cash.round

theorem apart_boxed (d : BoxFigures) (left : Tally) (m : MachineRecord) : Apart fun x => m.boxed d left x :=
  ⟨fun _ => rfl, fun _ => rfl, fun _ _ _ => rfl⟩

/-- The faults of the box part, by its figures. -/
def BoxFigures.faults (d : BoxFigures) (n : Nat) (s : State) : State :=
  reconcileFaults n d.removed.isSome d.report.isSome d.scheduled d.holds d.conflict d.closes d.round s

section
variable {d : BoxFigures} {s : State} {n : Nat} {m : MachineRecord} {recorded : RecordedBox}

/-- The outcome of the box part, by its figures. -/
def BoxFigures.outcome (d : BoxFigures) (s : State) (n : Nat) (m : MachineRecord) : BoxEffect × State :=
  (⟨if d.stored then some (d.place, ⟨d.number, d.snap⟩) else none, d.takes⟩,
    (d.faults n s).changed n (m.boxed d (if d.takes then emptyTally else m.tally))
      (s.cash.removed d.stored d.place d.number d.round))

theorem removedBox_none (h : ∀ old, recorded = .installed old → d.report = some old) : removedBox recorded d.report = none := by
  unfold removedBox
  split
  next old => exact if_pos (h old rfl)
  next => rfl

/-- The figures where no box is removed. -/
theorem BoxFigures.Fit.kept (h : d.Fit s n m recorded) (hkept : ∀ old, recorded = .installed old → d.report = some old) :
    d.removed = none ∧ d.takes = false ∧ d.stored = false ∧ d.scheduled = false ∧ d.removal = m.removal ∧
      d.round = collectedRound n d.joins d.closes s.cash.round := by
  have hremoved : d.removed = none := h.removed.trans (removedBox_none hkept)
  have htakes : d.takes = false := by rw [h.takes, hremoved]; rfl
  have hstored : d.stored = false := by rw [h.stored, htakes]; rfl
  have hscheduled : d.scheduled = false := by rw [h.scheduled, hremoved]; rfl
  refine ⟨hremoved, htakes, hstored, hscheduled, h.removal.trans (if_pos hremoved), ?_⟩
  rw [h.round, hscheduled, hstored, htakes, collectedRound_eq]
  cases d.joins <;> rfl

theorem apart_out : Apart fun m : MachineRecord => { m with box := .out } :=
  ⟨fun _ => rfl, fun _ => rfl, fun _ _ _ => rfl⟩

/-- The outcome of the box part where no box is removed. -/
theorem BoxFigures.Fit.outcome_kept (h : d.Fit s n m recorded) (honly : ∀ x ∈ s.machines, x.number = n → x = m)
    (hkept : ∀ old, recorded = .installed old → d.report = some old) :
    d.outcome s n m =
      (⟨none, false⟩, (reconcileFaults n false d.report.isSome false false d.conflict d.closes d.round s).changed n
        (fun x => { x with box := d.box }) { s.cash with round := d.round }) := by
  obtain ⟨hremoved, htakes, hstored, hscheduled, hremoval, -⟩ := h.kept hkept
  have hholds : d.holds = false := by rw [BoxFigures.holds, htakes]; rfl
  have hf : Apart fun x : MachineRecord => { x with box := d.box } := ⟨fun _ => rfl, fun _ => rfl, fun _ _ _ => rfl⟩
  have hsame : s.changed n (m.boxed d m.tally) (s.cash.removed false d.place d.number d.round) =
      s.changed n (fun x => { x with box := d.box }) { s.cash with round := d.round } :=
    changed_congr (fun x hx hnumber => by
      rw [honly x hx hnumber, MachineRecord.boxed, hremoval, hholds]
      rfl) rfl
  rw [BoxFigures.outcome, BoxFigures.faults, hstored, htakes, hremoved, hscheduled, hholds,
    ← reconcileFaults_changed _ _ _ _ _ _ _ _ _ (apart_boxed d _ m), ← reconcileFaults_changed _ _ _ _ _ _ _ _ _ hf]
  exact congrArg (fun t => (_, reconcileFaults n false d.report.isSome false false d.conflict d.closes d.round t)) hsame

/-- A box put in without a round's entry that it ends. -/
theorem installBox_kept (s : State) (n box : Nat) {conflict : Bool} (hconflict : conflict = s.conflicts n box) :
    installBox n box s =
      (insertionFaults n conflict s).changed n (fun m => { m with box := .installed box }) s.cash := by
  have hself : s = s.changed n (fun x => x) s.cash := (onMachine_eq_self fun _ _ _ => rfl).symm
  have happly := installBox_changed (f := fun x => x) ⟨fun _ => rfl, fun _ => rfl, fun _ _ _ => rfl⟩ s n box s.cash hconflict
  rw [← hself] at happly
  exact happly

/-- The box part where no box is removed (05 R105). -/
theorem reconcileBox_kept (h : d.Fit s n m recorded) (honly : ∀ x ∈ s.machines, x.number = n → x = m)
    (hkept : ∀ old, recorded = .installed old → d.report = some old) (hout : recorded = .out → m.box = .out) :
    reconcileBox n recorded d.report s = d.outcome s n m := by
  obtain ⟨hremoved, -, -, hscheduled, -, hround⟩ := h.kept hkept
  have hquiet (hj : d.joins = false) : d.closes = false ∧ d.round = s.cash.round :=
    ⟨by rw [h.closes, hj]; rfl, by rw [hround, hj]; rfl⟩
  have hsilent (t : State) : closingNoticed false s.cash.round t = t := by cases s.cash.round <;> rfl
  rw [h.outcome_kept honly hkept]
  cases hreport : d.report with
  | none =>
    obtain ⟨hcloses, hsame⟩ := hquiet (by rw [h.joins, hreport]; rfl)
    have hbox : d.box = .out := by rw [BoxFigures.box, hreport]; rfl
    have hfaults : reconcileFaults n false (none : Option Nat).isSome false false d.conflict d.closes d.round s =
        raiseFault n .boxOut s := by
      rw [hcloses, hsame, reconcileFaults, hsilent]
      rfl
    rw [hfaults, hsame, hbox, ← raiseFault_changed apart_out]
    cases recorded with
    | installed old => cases (hkept old rfl).symm.trans hreport
    | out =>
      have hself : s.changed n (fun x => { x with box := .out }) s.cash = s :=
        onMachine_eq_self (s := s) (n := n) (f := fun x => { x with box := .out }) fun x hx hnumber => by rw [honly x hx hnumber, ← hout rfl]
      rw [hself]
      rfl
    | nothing => rfl
  | some box =>
    have hconflict : d.conflict = s.conflicts n box := by rw [h.conflict, hreport]; rfl
    have hbox : d.box = .installed box := by rw [BoxFigures.box, hreport]; rfl
    have hinstall (hj : d.joins = false) : installBox n box s =
        (reconcileFaults n false (some box).isSome false false d.conflict d.closes d.round s).changed n
          (fun x => { x with box := d.box }) { s.cash with round := d.round } := by
      obtain ⟨hcloses, hsame⟩ := hquiet hj
      rw [installBox_kept s n box hconflict, hcloses, hsame, hbox, reconcileFaults, hsilent]
      rfl
    cases recorded with
    | installed old =>
      obtain rfl : old = box := Option.some.inj ((hkept old rfl).symm.trans hreport)
      simp only [reconcileBox, if_true]
      rw [hinstall (by rw [h.joins, hremoved]; simp)]
    | out =>
      have hjoins : d.joins = decide (s.openEntry? n = some .boxOut) := by
        rw [h.joins, hreport, hscheduled]
        simp
      rw [hround, hbox]
      exact congrArg (Prod.mk _) (insertBox_out hconflict hjoins h.closes)
    | nothing =>
      simp only [reconcileBox]
      rw [hinstall (by rw [h.joins, hremoved]; simp)]

end

end Sys2Proof.Machine

/-! PROOFS. The box part of a reconciliation that removes a box (05 R105). -/

namespace Sys2Proof.Machine

section
variable {d : BoxFigures} {s : State} {n : Nat} {m : MachineRecord} {old : Nat}

theorem BoxFigures.Fit.removed_of_ne (h : d.Fit s n m (.installed old)) (hne : d.report ≠ some old) : d.removed = some old :=
  h.removed.trans (if_neg hne)

/-- The removal in the box part. -/
theorem BoxFigures.Fit.removeBox (h : d.Fit s n m (.installed old)) (hne : d.report ≠ some old)
    (hm : s.machine? n = some m) :
    Machine.removeBox n old s =
      (⟨if d.stored then some (d.place, ⟨d.number, d.snap⟩) else none, d.takes⟩,
        (removalFaults n d.scheduled d.holds s).changed n (fun x => x.emptied d.takes d.holds d.snap d.removal)
          (s.cash.removed d.stored d.place d.number
            (removedRound n d.scheduled d.stored (if d.takes then m.tally.cash else 0) d.number s.cash.round))) := by
  have hremoved := h.removed_of_ne hne
  have hsome : d.removed.isSome = true := by rw [hremoved]; rfl
  refine removeBox_eq hm ?_ h.stored ?_ h.number h.place ?_ ?_
  · rw [h.takes, hsome, Bool.true_and]
  · rw [h.scheduled, hsome, Bool.true_and]
  · rw [h.snap, hremoved]
    rfl
  · rw [h.removal, if_neg (by rw [hremoved]; exact Option.some_ne_none old)]

/-- The machine that the box part leaves, where it empties the tally into a drop. -/
theorem boxed_eq_emptied (d : BoxFigures) (honly : ∀ x ∈ s.machines, x.number = n → x = m)
    (c : CashUnit) :
    s.changed n (m.boxed d (if d.takes then emptyTally else m.tally)) c =
      s.changed n (fun x => { x.emptied d.takes d.holds d.snap d.removal with box := d.box }) c :=
  changed_congr (fun x hx hnumber => by rw [honly x hx hnumber]; rfl) rfl

theorem BoxFigures.Fit.outcome_exchanged (h : d.Fit s n m (.installed old)) (hne : d.report ≠ some old)
    (honly : ∀ x ∈ s.machines, x.number = n → x = m) :
    d.outcome s n m =
      (⟨if d.stored then some (d.place, ⟨d.number, d.snap⟩) else none, d.takes⟩,
        (reconcileFaults n true d.report.isSome d.scheduled d.holds d.conflict d.closes d.round s).changed n
          (fun x => { x.emptied d.takes d.holds d.snap d.removal with box := d.box })
          (s.cash.removed d.stored d.place d.number d.round)) := by
  have hf : Apart fun x : MachineRecord => { x.emptied d.takes d.holds d.snap d.removal with box := d.box } :=
    ⟨fun _ => rfl, fun _ => rfl, fun _ _ _ => rfl⟩
  have hfaults : d.faults n s =
      reconcileFaults n true d.report.isSome d.scheduled d.holds d.conflict d.closes d.round s := by
    rw [BoxFigures.faults, h.removed_of_ne hne]
    rfl
  rw [BoxFigures.outcome, hfaults, ← reconcileFaults_changed _ _ _ _ _ _ _ _ _ (apart_boxed d _ m),
    ← reconcileFaults_changed _ _ _ _ _ _ _ _ _ hf, boxed_eq_emptied d honly]

/-- The box part where a box is removed (05 R105). -/
theorem reconcileBox_exchanged (h : d.Fit s n m (.installed old)) (hne : d.report ≠ some old)
    (hm : s.machine? n = some m) (honly : ∀ x ∈ s.machines, x.number = n → x = m) :
    reconcileBox n (.installed old) d.report s = d.outcome s n m := by
  have hremoved := h.removed_of_ne hne
  have hremove := h.removeBox hne hm
  have hscheduled : d.scheduled = decide (s.openEntry? n = some .pending) := by rw [h.scheduled, hremoved]; rfl
  have hopen : d.scheduled = true → ∃ r, s.cash.round = some r ∧ r.isOpen = true := fun hs => by
    obtain ⟨r, hr, ho, -⟩ := openEntry?_eq_some (of_decide_eq_true (hscheduled.symm.trans hs))
    exact ⟨r, hr, ho⟩
  rw [h.outcome_exchanged hne honly]
  cases hreport : d.report with
  | none =>
    have hbox : d.box = .out := by rw [BoxFigures.box, hreport]; rfl
    have hjoins : d.joins = false := by rw [h.joins, hreport]; rfl
    have hcloses : d.closes = false := by rw [h.closes, hjoins]; rfl
    have hround : removedRound n d.scheduled d.stored (if d.takes then m.tally.cash else 0) d.number s.cash.round = d.round := by
      rw [h.round, hjoins, hcloses]
      exact exchangedRound_eq (joins := false) (closes := false) (fun hs => hopen (hs.resolve_right Bool.false_ne_true)) nofun
    have hsilent (t : State) : closingNoticed false d.round t = t := by cases d.round <;> rfl
    rw [hround] at hremove
    rw [hbox, hcloses, reconcileFaults, hsilent]
    exact hremove
  | some box =>
    have hbox : d.box = .installed box := by rw [BoxFigures.box, hreport]; rfl
    have hconflict : d.conflict = s.conflicts n box := by rw [h.conflict, hreport]; rfl
    obtain ⟨y, hy⟩ : ∃ y, y = removalFaults n d.scheduled d.holds s := ⟨_, rfl⟩
    obtain ⟨c, hc⟩ : ∃ c, c = s.cash.removed d.stored d.place d.number
      (removedRound n d.scheduled d.stored (if d.takes then m.tally.cash else 0) d.number s.cash.round) := ⟨_, rfl⟩
    obtain ⟨t, ht⟩ : ∃ t, t = y.changed n (fun x => x.emptied d.takes d.holds d.snap d.removal) c := ⟨_, rfl⟩
    rw [← hy, ← hc, ← ht] at hremove
    have hround : t.cash.round = removedRound n d.scheduled d.stored (if d.takes then m.tally.cash else 0) d.number
      s.cash.round := by rw [ht, hc]; rfl
    have htc : t.cash = c := by rw [ht]; rfl
    have hjoins : d.joins = decide (t.openEntry? n = some .boxOut) := by
      rw [openEntry?_removed hscheduled hround, h.joins, hreport, hremoved]
      rfl
    have hcloses : d.closes = (d.joins && c.round.any fun r => r.endedBut n) := by
      rw [← htc, hround, endedBut_removed]
      exact h.closes
    have hcollected : collectedRound n d.joins d.closes c.round = d.round := by
      rw [← htc, hround, h.round]
      refine exchangedRound_eq (fun hs => hs.elim hopen fun hj => ?_) fun hcl => ?_
      · rw [h.joins, Bool.and_eq_true, Bool.or_eq_true] at hj
        refine hj.2.elim hopen fun hout => ?_
        obtain ⟨r, hr, ho, -⟩ := openEntry?_eq_some (of_decide_eq_true hout)
        exact ⟨r, hr, ho⟩
      · rw [h.closes, Bool.and_eq_true] at hcl
        exact hcl.1
    have hinsert := insertBox_changed (apart_emptied d.takes d.holds d.snap d.removal) y (n := n) (box := box) (c := c)
      (conflict := d.conflict) (by rw [hy, removalFaults_conflicts, hconflict]) (hjoins.trans (by rw [ht])) hcloses
    rw [hcollected, ← ht] at hinsert
    have hne' : ¬old = box := fun he => hne (hreport.trans (congrArg some he.symm))
    have hstep : reconcileBox n (.installed old) (some box) s =
        ((Machine.removeBox n old s).1, insertBox n box (Machine.removeBox n old s).2) := if_neg hne'
    rw [hstep, hremove, hinsert, hbox, reconcileFaults, if_pos rfl, if_pos rfl, ← hy, hc]
    rfl

end

end Sys2Proof.Machine

/-! PROOFS. The rest of a reconciliation: the serial and cash figure, the kinds of the state restored, the write asked and
the group marked (05 R106, R107). -/

namespace Sys2Proof.Machine

/-! ## A group marked dirty in a steady state -/

/-- A mark set leaves no other clear that was not. -/
theorem Octet.get_of_set_true {o : Octet Bool} {g j : Nat} (hj : j < 8) (h : (o.set g true).get j = false) :
    o.get j = false := by
  by_cases hg : g < 8
  · by_cases he : j = g
    · rw [he, Octet.get_set_same o true hg] at h
      cases h
    · rwa [Octet.get_set_other o true hg hj he] at h
  · obtain ⟨k, rfl⟩ := Nat.exists_eq_add_of_le' (Nat.le_of_not_lt hg)
    exact h

/-- A checkpoint waiting for a group is a checkpoint waiting. -/
theorem checkpointWaits_of_groupWaits {c : StoreControl} {g : Nat} (h : c.groupWaits g = true) : c.checkpointWaits = true := by
  obtain ⟨o, ho, hw⟩ := List.any_eq_true.mp h
  refine List.any_eq_true.mpr ⟨o, ho, ?_⟩
  rw [eq_of_beq hw]
  rfl

/-- A state stays steady when a group is marked dirty, but for a trickle checkpoint at a backlog (08 R158, R161). -/
theorem steady_groupMarked {s : State} (h : s.steady) (hb : s.power = .running → s.store.flush = false → s.store.backlog = 0)
    (g : Nat) : ({ s with store := s.groupMarked g } : State).steady := by
  obtain ⟨hp, hfr, hfl, -⟩ := h
  by_cases hm : (s.power = .flushing ∨ s.store.flush = true) ∧ s.store.groupWaits g = false
  · cases hh : s.store.holder with
    | none =>
      obtain ⟨x, hx, hhold⟩ : ∃ x : Holder, x.op = ⟨.checkpoint g, 1, .flush⟩ ∧ s.groupMarked g =
          { s.store with
            dirty := (s.store.dirty.set g true).set g false
            pointer := (g + 1) % 8
            holder := some x } := by
        refine ⟨⟨⟨.checkpoint g, 1, .flush⟩, 0, false, .image ((s.machines.filter fun m => m.reg.position / 8 == g).map fun m =>
          ⟨m.number, m.reg.position, m.tally, m.cards, m.accepted⟩)⟩, rfl, (if_pos hm).trans ?_⟩
        simp only [hh]
      have hnot : ¬(s.groupMarked g).flushOver := fun hover => hover.2.2 x (by rw [hhold]) (by rw [hx])
      refine ⟨hp.imp_right fun hp => ⟨hp.1, .inl hnot⟩, by rw [hhold]; exact hfr, fun _ => hnot, .inr (.inr (.inr (.inl ?_)))⟩
      show (s.groupMarked g).checkpointHeld = true
      rw [hhold, StoreControl.checkpointHeld]
      show x.op.work.isCheckpoint = true
      rw [hx]
      rfl
    | some x =>
      have hmark : s.groupMarked g =
          { s.store with
            dirty := s.store.dirty.set g true
            queue := s.store.queue ++ [⟨.checkpoint g, 1, .flush⟩] } := by
        refine (if_pos hm).trans ?_
        simp only [hh]
      have hnot : ¬(s.groupMarked g).flushOver := fun hover =>
        hover.2.1 ⟨.checkpoint g, 1, .flush⟩ (by rw [hmark]; simp) rfl
      refine ⟨hp.imp_right fun hp => ⟨hp.1, .inl hnot⟩, by rw [hmark]; exact hfr, fun _ => hnot, .inr (.inr (.inl ?_))⟩
      show (s.groupMarked g).checkpointWaits = true
      rw [hmark, StoreControl.checkpointWaits]
      simp [StoreWork.isCheckpoint]
  · have hmark : s.groupMarked g = { s.store with dirty := s.store.dirty.set g true } := if_neg hm
    have hover : (s.groupMarked g).flushOver → s.store.flushOver := by
      rw [hmark]
      exact fun ⟨hd, hq, hh⟩ => ⟨fun j hj => Octet.get_of_set_true hj (hd j hj), hq, hh⟩
    have hwriting : s.store.writing → (s.groupMarked g).writing := by rw [hmark]; exact id
    refine ⟨hp.imp_right fun hp => ⟨hp.1, hp.2.imp (fun hn => fun ho => hn (hover ho)) hwriting⟩,
      by rw [hmark]; exact hfr, fun hf ho => hfl (by rw [hmark] at hf; exact hf) (hover ho), ?_⟩
    show (s.groupMarked g).backlog = 0 ∨ _ ∨ (s.groupMarked g).checkpointWaits = true ∨ _
    rw [hmark]
    by_cases hflush : s.power = .flushing ∨ s.store.flush = true
    · exact .inr (.inr (.inl (checkpointWaits_of_groupWaits (g := g)
        ((Bool.not_eq_false _).mp fun hw => hm ⟨hflush, hw⟩))))
    · obtain ⟨hnf, hff⟩ := not_or.mp hflush
      exact .inl (hb (hp.resolve_right fun hp => hnf hp.1) ((Bool.not_eq_true _).mp hff))

/-! ## The kinds of the state restored -/

/-- The kinds that a restored state calls for, raised in the order of their list (05 R107). -/
def restoredFaults (n : Nat) (out held near full : Bool) (s : State) : State :=
  raiseIf full n .boxFull (raiseIf near n .boxNearFull (raiseIf held n .dropHeld (raiseIf out n .boxOut s)))

theorem restoredFaults_changed {f : MachineRecord → MachineRecord} (hf : Apart f) (n : Nat) (out held near full : Bool)
    (s : State) (c : CashUnit) :
    restoredFaults n out held near full (s.changed n f c) = (restoredFaults n out held near full s).changed n f c := by
  simp only [restoredFaults, raiseIf_changed hf]

theorem sameBut_restoredFaults (n : Nat) (out held near full : Bool) (s : State) :
    s.sameBut (restoredFaults n out held near full s) :=
  (sameBut_raiseIf _ _ _ _).trans <| (sameBut_raiseIf _ _ _ _).trans <| (sameBut_raiseIf _ _ _ _).trans (sameBut_raiseIf _ _ _ _)

theorem faultsOnly_restoredFaults (n : Nat) (out held near full : Bool) (s : State) :
    s.faultsOnly (restoredFaults n out held near full s) :=
  (faultsOnly_raiseIf _ _ _ _).trans <| (faultsOnly_raiseIf _ _ _ _).trans <|
    (faultsOnly_raiseIf _ _ _ _).trans (faultsOnly_raiseIf _ _ _ _)

/-- A raise of a kind not active yet, where it is called for. -/
theorem raiseInactive_if (c : Prop) [Decidable c] (n : Nat) (k : FaultKind) (s : State) :
    (if c then raiseInactive n k s else s) = raiseIf (decide c && !s.faultActive n k) n k s := by
  rw [raiseInactive_eq_raiseIf]
  by_cases hc : c
  · rw [if_pos hc, decide_eq_true hc, Bool.true_and]
  · rw [if_neg hc, decide_eq_false hc]
    rfl

theorem raiseRestored_eq {s : State} {n : Nat} {m : MachineRecord} (hm : s.machine? n = some m) :
    raiseRestored n s =
      restoredFaults n (decide (m.box = .out) && !s.faultActive n .boxOut) (m.heldDrop.isSome && !s.faultActive n .dropHeld)
        (decide (m.reg.capacity ≤ m.tally.coins + m.reg.margin) && !s.faultActive n .boxNearFull)
        (decide (m.reg.capacity ≤ m.tally.coins) && !s.faultActive n .boxFull) s := by
  simp only [raiseRestored, hm, raiseInactive_if, restoredFaults, Bool.decide_eq_true]
  rw [faultActive_raiseIf_other _ _ _ (k := .boxOut) (k' := .dropHeld) (by decide)]
  rw [faultActive_raiseIf_other _ _ _ (k := .dropHeld) (k' := .boxNearFull) (by decide),
    faultActive_raiseIf_other _ _ _ (k := .boxOut) (k' := .boxNearFull) (by decide),
    faultActive_raiseIf_other _ _ _ (k := .boxNearFull) (k' := .boxFull) (by decide),
    faultActive_raiseIf_other _ _ _ (k := .dropHeld) (k' := .boxFull) (by decide),
    faultActive_raiseIf_other _ _ _ (k := .boxOut) (k' := .boxFull) (by decide)]

end Sys2Proof.Machine

/-! PROOFS. A reconciliation in full (05 R104 to R107). -/

namespace Sys2Proof.Machine

/-- The box part of a reconciliation (05 R105). -/
theorem reconcileBox_eq {d : BoxFigures} {s : State} {n : Nat} {m : MachineRecord} {recorded : RecordedBox}
    (h : d.Fit s n m recorded) (hm : s.machine? n = some m) (honly : ∀ x ∈ s.machines, x.number = n → x = m)
    (hout : recorded = .out → m.box = .out) : reconcileBox n recorded d.report s = d.outcome s n m := by
  by_cases hkept : ∀ old, recorded = .installed old → d.report = some old
  · exact reconcileBox_kept h honly hkept hout
  · simp only [not_forall] at hkept
    obtain ⟨old, rfl, hne⟩ := hkept
    exact reconcileBox_exchanged h hne hm honly

/-- The tally that the box part leaves. -/
def BoxFigures.left (d : BoxFigures) (m : MachineRecord) : Tally := if d.takes then emptyTally else m.tally

/-- The machine as a reconciliation leaves it, apart from its faults. -/
def MachineRecord.reconciled (m : MachineRecord) (d : BoxFigures) (accepted : Accepted) (tally : Tally) (x : MachineRecord) :
    MachineRecord :=
  { x with
    box := d.box
    tally := tally
    accepted := accepted
    removal := d.removal
    heldDrop := if d.holds then some d.snap else m.heldDrop
    reconcileDue := false }

theorem apart_reconciled (m : MachineRecord) (d : BoxFigures) (accepted : Accepted) (tally : Tally) :
    Apart (m.reconciled d accepted tally) := ⟨fun _ => rfl, fun _ => rfl, fun _ _ _ => rfl⟩

/-- What the write of a reconciliation records (05 R105). -/
def BoxFigures.work (d : BoxFigures) (n : Nat) (before : Option Round) : BoxWork :=
  { machine := n
    id := 0
    drop := if d.stored then some (d.place, ⟨d.number, d.snap⟩) else none
    snapshot := d.takes
    heldMade := if d.holds then some d.snap else none
    round := if d.round = before then none else d.round
    recorded := d.box.recordedForm
    removal := d.removal
    answer := none }

/-- The faults of a reconciliation, in the order of its steps (05 R105 to R107). -/
def BoxFigures.restored (d : BoxFigures) (n : Nat) (m : MachineRecord) (tally : Tally) (gap : Bool) (s : State) : State :=
  restoredFaults n false (m.heldDrop.isSome && !m.faults.active .dropHeld)
    (decide (m.reg.capacity ≤ tally.coins + m.reg.margin) && (d.removed.isSome || !m.faults.active .boxNearFull))
    (decide (m.reg.capacity ≤ tally.coins) && (d.removed.isSome || !m.faults.active .boxFull))
    (raiseIf gap n .tallyGap (d.faults n s))

section
variable {d : BoxFigures} {s : State} {n : Nat} {m : MachineRecord} {recorded : RecordedBox}

theorem sameBut_restored (d : BoxFigures) (n : Nat) (m : MachineRecord) (tally : Tally) (gap : Bool) (s : State) :
    s.sameBut (d.restored n m tally gap s) :=
  (sameBut_reconcileFaults _ _ _ _ _ _ _ _ _).trans <| (sameBut_raiseIf _ _ _ _).trans (sameBut_restoredFaults _ _ _ _ _ _)

theorem faultsOnly_restored (d : BoxFigures) (n : Nat) (m : MachineRecord) (tally : Tally) (gap : Bool) (s : State) :
    s.faultsOnly (d.restored n m tally gap s) :=
  (faultsOnly_reconcileFaults _ _ _ _ _ _ _ _ _).trans <|
    (faultsOnly_raiseIf _ _ _ _).trans (faultsOnly_restoredFaults _ _ _ _ _ _)

/-- A held drop made leaves none held before. -/
theorem BoxFigures.Fit.held_of_holds (h : d.Fit s n m recorded) (hh : d.holds = true) :
    d.removed.isSome = true ∧ m.heldDrop = none := by
  rw [BoxFigures.holds, Bool.and_eq_true, h.takes, Bool.and_eq_true, Bool.and_eq_true] at hh
  exact ⟨hh.1.1.1, Option.isNone_iff_eq_none.mp hh.1.2⟩

/-- The kinds of the restored state, on the machine as the reconciliation leaves it (05 R107). -/
theorem BoxFigures.Fit.raiseRestored (h : d.Fit s n m recorded) (hm : s.machine? n = some m) (accepted : Accepted)
    (tally : Tally) (gap : Bool) (c : CashUnit) :
    Machine.raiseRestored n ((raiseIf gap n .tallyGap (d.faults n s)).changed n (m.reconciled d accepted tally) c) =
      (d.restored n m tally gap s).changed n (m.reconciled d accepted tally) c := by
  have hn : s.machine? n ≠ none := by rw [hm]; exact Option.some_ne_none m
  obtain ⟨x, hx, fs, sv, hxm⟩ := ((faultsOnly_reconcileFaults n d.removed.isSome d.report.isSome d.scheduled d.holds
    d.conflict d.closes d.round s).trans (faultsOnly_raiseIf gap n .tallyGap _)) n m hm
  have hactive {k : FaultKind} (hk : k ≠ .tallyGap) :
      ((raiseIf gap n .tallyGap (d.faults n s)).changed n (m.reconciled d accepted tally) c).faultActive n k =
        (d.faults n s).faultActive n k := by
    rw [faultActive_changed (apart_reconciled m d accepted tally), faultActive_raiseIf_other _ _ _ hk]
  have hlevel {k : FaultKind} (hk : k = .boxNearFull ∨ k = .boxFull) :
      (d.faults n s).faultActive n k = (!d.removed.isSome && m.faults.active k) := by
    rw [BoxFigures.faults, faultActive_reconcileFaults_level _ _ _ _ _ _ _ _ _ hk, faultActive_eq hm]
  have hdrop : (d.faults n s).faultActive n .dropHeld = (d.holds || m.faults.active .dropHeld) := by
    rw [BoxFigures.faults, faultActive_reconcileFaults_dropHeld _ _ _ _ _ _ _ _ _ hn fun hh => (h.held_of_holds hh).1,
      faultActive_eq hm]
  rw [raiseRestored_eq (m := m.reconciled d accepted tally x)
    (by rw [machine?_changed (apart_reconciled m d accepted tally)]; exact congrArg _ hx),
    restoredFaults_changed (apart_reconciled m d accepted tally), hactive (by decide), hactive (by decide), hactive (by decide),
    hactive (by decide), hlevel (.inl rfl), hlevel (.inr rfl), hdrop, BoxFigures.restored]
  refine congrArg (fun t => State.changed t n (m.reconciled d accepted tally) c) ?_
  have hreg : (m.reconciled d accepted tally x).reg = m.reg := by rw [hxm]; rfl
  have hout : (decide ((m.reconciled d accepted tally x).box = .out) && !(d.faults n s).faultActive n .boxOut) = false := by
    cases hr : d.report with
    | none =>
      rw [BoxFigures.faults, hr]
      exact Bool.and_eq_false_iff.mpr (.inr (congrArg not
        (faultActive_reconcileFaults_boxOut n d.removed.isSome d.scheduled d.holds d.conflict d.closes d.round s hn)))
    | some box =>
      have hb : (m.reconciled d accepted tally x).box = .installed box := by
        show d.box = _
        rw [BoxFigures.box, hr]
        rfl
      rw [hb]
      rfl
  have hheld : ((m.reconciled d accepted tally x).heldDrop.isSome && !(d.holds || m.faults.active .dropHeld)) =
      (m.heldDrop.isSome && !m.faults.active .dropHeld) := by
    show ((if d.holds then some d.snap else m.heldDrop).isSome && _) = _
    cases hh : d.holds with
    | false => rw [if_neg Bool.false_ne_true, Bool.false_or]
    | true =>
      rw [(h.held_of_holds hh).2, Bool.true_or]
      rfl
  rw [hout, hheld, hreg]
  show restoredFaults n false _ (decide (m.reg.capacity ≤ tally.coins + m.reg.margin) && _)
    (decide (m.reg.capacity ≤ tally.coins) && _) _ = _
  congr 2
  · rw [Bool.not_and, Bool.not_not]
  · rw [Bool.not_and, Bool.not_not]

end

end Sys2Proof.Machine

/-! PROOFS. The store's part of a reconciliation: the write asked and the group marked (05 R105, R106; 08 R158). -/

namespace Sys2Proof.Machine

/-- The store once a reconciliation has asked its write, where the box, the tally or the round has changed. -/
def BoxFigures.written (d : BoxFigures) (n : Nat) (before m : MachineRecord) (round : Option Round) (c : StoreControl) :
    StoreControl :=
  if d.box ≠ before.box ∨ d.left m ≠ before.tally ∨ d.round ≠ round then
    c.taking ⟨.boxWrite (d.work n round), 2, .nobody⟩
  else c

theorem asking_eq_taking {c : StoreControl} {op : StoreOp} (h : op.cls < 4) : c.asking op = c.taking op :=
  if_neg fun hb => absurd hb.2 (Nat.not_le.mpr h)

theorem written_steady {s : State} (h : s.steady) (d : BoxFigures) (n : Nat) (before m : MachineRecord)
    (round : Option Round) : ({ s with store := d.written n before m round s.store } : State).steady := by
  unfold BoxFigures.written
  split
  · rw [← asking_eq_taking (op := ⟨.boxWrite (d.work n round), 2, .nobody⟩) (by decide : (2 : Nat) < 4)]
    exact steady_asking h _
  · exact h

theorem written_flush (d : BoxFigures) (n : Nat) (before m : MachineRecord) (round : Option Round) (c : StoreControl) :
    (d.written n before m round c).flush = c.flush ∧ (d.written n before m round c).backlog = c.backlog := by
  unfold BoxFigures.written
  split
  · obtain ⟨h, q, he⟩ := c.taking_frame ⟨.boxWrite (d.work n round), 2, .nobody⟩
    rw [he]
    exact ⟨rfl, rfl⟩
  · exact ⟨rfl, rfl⟩

/-- The store once a reconciliation has marked the machine's group, where a total has changed (08 R158). -/
def State.totalled (s : State) (changed : Bool) (g : Nat) : State :=
  { s with store := if changed then s.groupMarked g else s.store }

theorem totalled_steady {s : State} (h : s.steady) (hb : s.power = .running → s.store.flush = false → s.store.backlog = 0)
    (changed : Bool) (g : Nat) : (s.totalled changed g).steady := by
  cases changed with
  | false => exact h
  | true => exact steady_groupMarked h hb g

section
variable {d : BoxFigures} {s : State} {n : Nat} {m before : MachineRecord} {f : JoinFrame} {accepted : Accepted}
  {tally : Tally} {gap : Bool}

/-- A reconciliation in a steady state (05 R104 to R107). -/
theorem reconcile_eq (hs : s.steady) (hfit : d.Fit s n m before.recorded) (hm : s.machine? n = some m)
    (honly : ∀ x ∈ s.machines, x.number = n → x = m) (hout : before.recorded = .out → m.box = .out)
    (hn : before.number = n) (hreport : d.report = JoinFrame.boxReport f)
    (hserial : reconcileSerial m.accepted (d.left m) (JoinFrame.lastSerial f) f.cash = (accepted, tally, gap)) :
    reconcile before f s =
      State.totalled
        { (d.restored n m tally gap s).changed n (m.reconciled d accepted tally)
            (s.cash.removed d.stored d.place d.number d.round) with
          store := d.written n before m s.cash.round s.store }
        (d.takes || accepted != m.accepted || tally != d.left m) m.group := by
  obtain ⟨c, hc⟩ : ∃ c, c = s.cash.removed d.stored d.place d.number d.round := ⟨_, rfl⟩
  obtain ⟨t, ht⟩ : ∃ t, t = (d.faults n s).changed n (m.boxed d (d.left m)) c := ⟨_, rfl⟩
  have hbox : reconcileBox n before.recorded (JoinFrame.boxReport f) s =
      (⟨if d.stored then some (d.place, ⟨d.number, d.snap⟩) else none, d.takes⟩, t) := by
    rw [← hreport, reconcileBox_eq hfit hm honly hout, ht, hc]
    rfl
  obtain ⟨x, hx, fs, sv, hxm⟩ := faultsOnly_reconcileFaults n d.removed.isSome d.report.isSome d.scheduled d.holds
    d.conflict d.closes d.round s n m hm
  have hmt : t.machine? n = some (m.boxed d (d.left m) x) := by
    rw [ht, machine?_changed (apart_boxed d _ m)]
    exact congrArg _ hx
  have hround : t.cash.round = d.round := by rw [ht, hc]; rfl
  have hacc : (m.boxed d (d.left m) x).accepted = m.accepted := by rw [hxm]; rfl
  obtain ⟨u, hu⟩ : ∃ u, u = (d.restored n m tally gap s).changed n (m.reconciled d accepted tally) c := ⟨_, rfl⟩
  have hchange : raiseRestored n (if gap then raiseFault n .tallyGap (t.onMachine n fun m =>
      { m with accepted := accepted, tally := tally, reconcileDue := false })
        else t.onMachine n fun m => { m with accepted := accepted, tally := tally, reconcileDue := false }) = u := by
    rw [hu, ← hfit.raiseRestored hm, ← raiseIf_changed (apart_reconciled m d accepted tally), ht, onMachine_eq_changed,
      changed_changed (apart_boxed d _ m)]
    rfl
  have hus : u.power = s.power ∧ u.store = s.store ∧ u.cash = c := by
    rw [hu]
    obtain ⟨ms, sm, na, he⟩ := sameBut_restored d n m tally gap s
    rw [he]
    exact ⟨rfl, rfl, rfl⟩
  obtain ⟨q, hq, fs', sv', hqm⟩ := faultsOnly_restored d n m tally gap s n m hm
  have hmu : u.machine? n = some (m.reconciled d accepted tally q) := by
    rw [hu, machine?_changed (apart_reconciled m d accepted tally), hq]
    rfl
  have hparked : u.power ≠ .parked := by
    rw [hus.1]
    rcases hs.1 with hp | hp
    · rw [hp]; decide
    · rw [hp.1]; decide
  have hwork := boxWork_eq (n := n) (id := 0) (e := ⟨if d.stored then some (d.place, ⟨d.number, d.snap⟩) else none, d.takes⟩)
    (answer := none) (before := s) (s := u) (held := m.heldDrop) (m := m.reconciled d accepted tally q)
    (recorded := d.box.recordedForm) (removal := d.removal) (heldMade := if d.holds then some d.snap else none)
    (round := if d.round = s.cash.round then none else d.round) rfl rfl
    (heldMade_eq (takes := d.takes) (stored := d.stored) fun htakes => by
      rw [hfit.takes, Bool.and_eq_true] at htakes
      exact Option.isNone_iff_eq_none.mp htakes.2)
    (by
      have hur : u.cash.round = d.round := by rw [hus.2.2, hc]; rfl
      rw [hur]
      simp only [eq_comm])
  have hask : askBoxWrite n 0 ⟨if d.stored then some (d.place, ⟨d.number, d.snap⟩) else none, d.takes⟩ none s u =
      { u with store := s.store.taking ⟨.boxWrite (d.work n s.cash.round), 2, .nobody⟩ } := by
    rw [askBoxWrite_eq hm hmu, hwork, ask_write hparked rfl (Nat.le_succ 2) (fun _ => rfl), hus.2.1]
    rfl
  obtain ⟨v, hv⟩ : ∃ v : State, v = { u with store := d.written n before m s.cash.round s.store } := ⟨_, rfl⟩
  have hwrite : (if (m.boxed d (d.left m) x).box != before.box || (m.boxed d (d.left m) x).tally != before.tally ||
        t.cash.round != s.cash.round then
      askBoxWrite n 0 ⟨if d.stored then some (d.place, ⟨d.number, d.snap⟩) else none, d.takes⟩ none s u else u) = v := by
    rw [hask, hround, hv, BoxFigures.written]
    show (if d.box != before.box || d.left m != before.tally || _ then _ else _) = _
    simp only [Bool.or_eq_true, bne_iff_ne, or_assoc]
    split
    · rfl
    · rw [← hus.2.1]
  have hvs : v.steady := by
    rw [hv]
    exact steady_congr (written_steady hs d n before m s.cash.round) hus.1 rfl
  have hmark : markMachineDirty n v = { v with store := v.groupMarked m.group } := by
    have hmv : v.machine? n = some (m.reconciled d accepted tally q) := by rw [hv]; exact hmu
    have hgroup : (m.reconciled d accepted tally q).group = m.group := by rw [hqm]; rfl
    simp only [markMachineDirty, hmv, hgroup]
    exact markDirty_steady hvs m.group
  have hmodel : reconcile before f s =
      if d.takes || accepted != (m.boxed d (d.left m) x).accepted || tally != (m.boxed d (d.left m) x).tally then
        markMachineDirty n v else v := by
    rw [← hwrite, ← hchange]
    have hparts : reconcileSerial (m.boxed d (d.left m) x).accepted (m.boxed d (d.left m) x).tally
        (JoinFrame.lastSerial f) f.cash = (accepted, tally, gap) := by
      rw [hacc]
      exact hserial
    simp only [reconcile, hn, hbox, hmt, hparts]
  rw [hmodel, hacc, hmark, hv, State.totalled, hu, hc]
  show (if d.takes || accepted != m.accepted || tally != d.left m then _ else _) = _
  cases d.takes || accepted != m.accepted || tally != d.left m <;> rfl

end

end Sys2Proof.Machine

/-! PROOFS. The slot of a join, the figures of its frame, and the faults of its reconciliation, as the rules say them
(05 R105 to R107; 07 R141). -/

namespace Sys2Proof.Machine

/-! ## Slots -/

/-- A slot's number is in the list searched. -/
theorem mem_slots {slot : Nat} : slot ∈ (List.range 32).map (· + 1) ↔ 1 ≤ slot ∧ slot ≤ 32 := by
  simp only [List.mem_map, List.mem_range]
  exact ⟨fun ⟨k, hk, h⟩ => by omega, fun h => ⟨slot - 1, by omega⟩⟩

theorem freeSlot?_none {s : State} {line : LineId}
    (h : ∀ slot, 1 ≤ slot → slot ≤ 32 → (s.line line).slotEnabled slot = true → s.holder? line slot ≠ none) :
    s.freeSlot? line = none := by
  refine List.find?_eq_none.mpr fun slot hslot hfree => ?_
  obtain ⟨h1, h32⟩ := mem_slots.mp hslot
  rw [Bool.and_eq_true, Option.isNone_iff_eq_none] at hfree
  exact h slot h1 h32 hfree.1 hfree.2

theorem freeSlot?_some {s : State} {line : LineId} {slot : Nat} (h1 : 1 ≤ slot) (h32 : slot ≤ 32)
    (he : (s.line line).slotEnabled slot = true) (hh : s.holder? line slot = none)
    (hlower : ∀ lower, 1 ≤ lower → lower < slot → (s.line line).slotEnabled lower = false ∨ s.holder? line lower ≠ none) :
    s.freeSlot? line = some slot := by
  have hsplit : (List.range 32).map (· + 1) =
      (List.range (slot - 1)).map (· + 1) ++ slot :: ((List.range (32 - slot)).map fun i => slot + 1 + i) := by
    refine List.ext_getElem (by simp; omega) fun i hi _ => ?_
    rcases Nat.lt_trichotomy i (slot - 1) with hlt | heq | hgt
    · rw [List.getElem_append_left (by simpa using hlt)]
      simp
    · rw [List.getElem_append_right (by simp [heq])]
      simp [heq]
      omega
    · rw [List.getElem_append_right (by simp; omega)]
      have hpos : i - (slot - 1) ≠ 0 := by omega
      simp [List.getElem_cons, hpos]
      omega
  rw [State.freeSlot?, hsplit, List.find?_append, List.find?_eq_none.mpr ?_, Option.none_or, List.find?_cons_of_pos]
  · simp [he, hh]
  · intro lower hmem hfree
    obtain ⟨k, hk, rfl⟩ := List.mem_map.mp hmem
    have hk' := List.mem_range.mp hk
    rw [Bool.and_eq_true, Option.isNone_iff_eq_none] at hfree
    rcases hlower (k + 1) (Nat.le_add_left 1 k) (by omega) with hno | hno
    · exact Bool.noConfusion (hno.symm.trans hfree.1)
    · exact hno hfree.2

/-! ## The frame's figures -/

theorem raisedTo_eq (t : Tally) (cash : Nat) :
    t.raisedTo cash = { t with cash := max t.cash cash, unitemised := t.unitemised + (max t.cash cash - t.cash) } := by
  unfold Tally.raisedTo
  split
  next h => rw [Nat.max_eq_right (Nat.le_of_lt h)]
  next h => rw [Nat.max_eq_left (Nat.le_of_not_lt h), Nat.sub_self, Nat.add_zero]

theorem tally_unraised (t : Tally) : ({ t with cash := t.cash, unitemised := t.unitemised + (t.cash - t.cash) } : Tally) = t := by
  rw [Nat.sub_self, Nat.add_zero]

/-- The serial and cash part of a reconciliation (05 R106). -/
theorem reconcileSerial_eq {a accepted : Accepted} {left tally : Tally} {own : Option Nat} {cash figure : Nat} {gap : Bool}
    (h : match a.serial, own with
      | some last, some own =>
        if (own + 999999 - last) % 999999 = 0 then accepted = a ∧ cash = left.cash ∧ gap = decide (left.cash ≠ figure)
        else
          accepted = ⟨some own, none⟩ ∧ gap = true ∧
            cash = if (own + 999999 - last) % 999999 ≤ 1000 then max left.cash figure else left.cash
      | some _, none => accepted = ⟨none, none⟩ ∧ gap = true ∧ cash = left.cash
      | none, some own => accepted = ⟨some own, a.token⟩ ∧ gap = false ∧ cash = max left.cash figure
      | none, none => accepted = a ∧ gap = false ∧ cash = left.cash)
    (ht : tally = { left with cash := cash, unitemised := left.unitemised + (cash - left.cash) }) :
    reconcileSerial a left own figure = (accepted, tally, gap) := by
  cases ha : a.serial with
  | none =>
    cases own with
    | none =>
      simp only [ha] at h
      obtain ⟨rfl, rfl, rfl⟩ := h
      simp only [reconcileSerial, ha, ht, tally_unraised]
    | some own' =>
      simp only [ha] at h
      obtain ⟨rfl, rfl, rfl⟩ := h
      simp only [reconcileSerial, ha, ht, raisedTo_eq]
  | some last =>
    cases own with
    | none =>
      simp only [ha] at h
      obtain ⟨rfl, rfl, rfl⟩ := h
      simp only [reconcileSerial, ha, ht, tally_unraised]
    | some own' =>
      have hd : serialDistance last own' = (own' + 999999 - last) % 999999 := rfl
      simp only [ha] at h
      simp only [reconcileSerial, ha, hd]
      by_cases h0 : (own' + 999999 - last) % 999999 = 0
      · rw [if_pos h0] at h ⊢
        obtain ⟨rfl, rfl, rfl⟩ := h
        rw [ht, tally_unraised]
      · rw [if_neg h0] at h ⊢
        obtain ⟨rfl, rfl, hcash⟩ := h
        by_cases hw : (own' + 999999 - last) % 999999 ≤ 1000
        · rw [if_pos hw] at hcash
          rw [ht, hcash, ← raisedTo_eq]
          exact if_pos hw
        · rw [if_neg hw] at hcash
          rw [ht, hcash, tally_unraised]
          exact if_neg hw

theorem lastSerial_eq (f : JoinFrame) :
    JoinFrame.lastSerial f = if f.presence % 2 = 1 ∧ 1 ≤ f.serial ∧ f.serial ≤ 999999 then some f.serial else none := by
  have hiff : ((f.presence % 2 == 1 && decide (1 ≤ f.serial) && decide (f.serial ≤ Config.serials)) = true) ↔
      f.presence % 2 = 1 ∧ 1 ≤ f.serial ∧ f.serial ≤ 999999 := by
    rw [Bool.and_eq_true, Bool.and_eq_true, beq_iff_eq, decide_eq_true_eq, decide_eq_true_eq, and_assoc]
    exact Iff.rfl
  exact ite_congr (propext hiff) (fun _ => rfl) fun _ => rfl

theorem boxReport_eq (f : JoinFrame) : JoinFrame.boxReport f = if f.presence / 2 % 2 = 1 then some f.box else none :=
  ite_congr (propext beq_iff_eq) (fun _ => rfl) fun _ => rfl

/-! ## The faults as the rules order them -/

theorem raiseIf_of_iff {p : Prop} [Decidable p] {b : Bool} (h : b = true ↔ p) (n : Nat) (k : FaultKind) (s : State) :
    (if p then raiseFault n k s else s) = raiseIf b n k s := by
  rw [raiseIf]
  exact ite_congr (propext h.symm) (fun _ => rfl) fun _ => rfl

/-- The faults and notices of the box part, one after another (05 R105). -/
theorem boxFaults_eq {d : BoxFigures} {n : Nat} {u v w x y z : State} (hconflict : d.report = none → d.conflict = false)
    (hholds : d.holds = true → d.removed ≠ none)
    (hv : v = if d.removed ≠ none ∧ d.scheduled = false then raiseFault n .cashTamper u else u)
    (hw : w =
      if d.removed ≠ none then
        clearFault n .boxFull .removed (clearFault n .boxNearFull .removed (raiseFault n .boxOut v))
      else if d.report = none then raiseFault n .boxOut v
      else v)
    (hx : x = if d.takes && !d.stored then raiseFault n .dropHeld w else w)
    (hy : y = if d.report = none then x else clearFault n .boxOut .inserted x)
    (hz : z = if d.conflict then raiseFault n .boxConflict y else y) :
    (d.round.elim z fun r => if d.closes then notify (roundClosedNotice r) z else z) = d.faults n u := by
  have hx' : x = raiseIf d.holds n .dropHeld w := hx
  have hz' : z = raiseIf d.conflict n .boxConflict y := hz
  have hclosing : (d.round.elim z fun r => if d.closes then notify (roundClosedNotice r) z else z) =
      closingNoticed d.closes d.round z := rfl
  rw [hclosing, BoxFigures.faults, reconcileFaults]
  refine congrArg (closingNoticed d.closes d.round) ?_
  have hinner : x = if d.removed.isSome then removalFaults n d.scheduled d.holds u
      else if d.report.isSome then u else raiseFault n .boxOut u := by
    cases hr : d.removed with
    | none =>
      rw [hr] at hv hw
      have hno : d.holds = false := Bool.eq_false_iff.mpr fun h => hholds h hr
      have hv' : v = u := by rw [hv]; exact if_neg fun h => h.1 rfl
      have hw' : w = if d.report = none then raiseFault n .boxOut v else v := by rw [hw]; exact if_neg fun h => h rfl
      rw [hx', hno, hw', hv']
      cases d.report <;> rfl
    | some old =>
      rw [hr] at hv hw
      have hv' : v = raiseIf (!d.scheduled) n .cashTamper u := by
        rw [hv]
        exact raiseIf_of_iff (by simp) n .cashTamper u
      have hw' : w = _ := hw.trans (if_pos (Option.some_ne_none old))
      rw [hx', hw', hv']
      rfl
  cases hr : d.report with
  | none =>
    rw [hr] at hy hinner
    rw [hz', hconflict hr, hy, hinner]
    cases d.removed <;> rfl
  | some box =>
    rw [hr] at hy hinner
    rw [hz', hy, hinner]
    cases d.removed <;> rfl

end Sys2Proof.Machine

/-! PROOFS. What the grant of a slot leaves before a reconciliation (07 R142). -/

namespace Sys2Proof.Machine

/-- A machine granted a slot, apart from its faults. -/
def MachineRecord.granted (line : LineId) (slot : Nat) (quote : Option OpenQuote) (m : MachineRecord) : MachineRecord :=
  { m with link := .active ⟨line, slot, 0⟩, request := none, openQuote := quote }

/-- The state once a slot held has been released, if any was (07 R141, R143). -/
def State.freed (s : State) (n : Nat) (m : MachineRecord) : State :=
  if m.link = .absent then s
  else s.onMachine n fun x => { x with link := .absent, request := none, openQuote := none }

/-- The state once a join has been granted its slot. -/
def State.joinedOn (s : State) (line : LineId) (slot n : Nat) (m : MachineRecord) : State :=
  setHeard line (.joined n slot) (((passPhase line s).freed n m).onMachine n fun x =>
    { x with link := .active ⟨line, slot, 0⟩, request := none })

theorem freed_frame (s : State) (n : Nat) (m : MachineRecord) : ∃ ms, s.freed n m = { s with machines := ms } := by
  unfold State.freed
  split
  · exact ⟨s.machines, rfl⟩
  · exact ⟨_, rfl⟩

theorem line_freed (s : State) (n : Nat) (m : MachineRecord) (line : LineId) : (s.freed n m).line line = s.line line := by
  obtain ⟨ms, h⟩ := freed_frame s n m
  rw [h]
  cases line <;> rfl

section
variable (s : State) (line : LineId) (slot n : Nat) (m : MachineRecord)

theorem joinedOn_frame : ∃ la lb ms, s.joinedOn line slot n m = { s with lineA := la, lineB := lb, machines := ms } := by
  obtain ⟨ms, h⟩ := freed_frame (passPhase line s) n m
  rw [State.joinedOn, h]
  cases line <;> exact ⟨_, _, _, rfl⟩

theorem joinedOn_machines :
    (s.joinedOn line slot n m).machines =
      (s.onMachine n fun x => x.granted line slot (if m.link = .absent then x.openQuote else none)).machines := by
  rw [State.joinedOn, setHeard_machines, State.freed]
  have hgrant (t : State) (ht : t.machines = s.machines) (f g : MachineRecord → MachineRecord) (hfg : ∀ x, f x = g x) :
      (t.onMachine n f).machines = (s.onMachine n g).machines := by
    rw [State.onMachine_machines, State.onMachine_machines, ht]
    simp only [hfg]
  split
  · exact hgrant _ (passPhase_machines line s) _ _ fun _ => rfl
  · rw [onMachine_onMachine (by intro; rfl)]
    exact hgrant _ (passPhase_machines line s) _ _ fun _ => rfl

end

/-- What a join leaves of the machine and of the rest of the state before a reconciliation. -/
structure JoinedFrom (s : State) (n : Nat) (m : MachineRecord) (joined : State) : Prop where
  machine : ∃ b, joined.machine? n = some b ∧ b.tally = m.tally ∧ b.accepted = m.accepted ∧ b.box = m.box ∧
    b.removal = m.removal ∧ b.heldDrop = m.heldDrop ∧ b.reg = m.reg ∧
    ∀ k, k ≠ .silent → b.faults.active k = m.faults.active k
  numbers : joined.machines.map MachineRecord.number = s.machines.map MachineRecord.number
  conflicts : ∀ box, joined.conflicts n box = s.conflicts n box
  frame : ∃ la lb ms na, joined = { s with lineA := la, lineB := lb, machines := ms, notices := na }

theorem clearFault_numbers (n : Nat) (k : FaultKind) (c : ClearCause) (s : State) :
    (clearFault n k c s).machines.map MachineRecord.number = s.machines.map MachineRecord.number := by
  cases h : s.machine? n with
  | none => simp only [clearFault, h]
  | some m =>
    cases ha : m.faults.active k with
    | false => rw [clearFault_inactive h ha]
    | true =>
      rw [clearFault_active h ha]
      exact onMachine_numbers n (fun x => x.withEntry k ((m.faults.get k).cleared s.now)) s (by intro; rfl)

theorem joinedFrom {s : State} {n : Nat} {m : MachineRecord} (hm : s.machine? n = some m) (line : LineId) (slot : Nat) :
    JoinedFrom s n m (clearFault n .silent .heard (s.joinedOn line slot n m)) := by
  obtain ⟨g, hg⟩ : ∃ g : MachineRecord → MachineRecord,
    g = fun x => x.granted line slot (if m.link = .absent then x.openQuote else none) := ⟨_, rfl⟩
  obtain ⟨p, hp⟩ : ∃ p, p = s.joinedOn line slot n m := ⟨_, rfl⟩
  have hmachines : p.machines = (s.onMachine n g).machines := by rw [hp, joinedOn_machines, hg]
  have hnumber : ∀ x, (g x).number = x.number := fun x => by rw [hg]; rfl
  have hmp : p.machine? n = some (g m) := by
    have hfound : (s.onMachine n g).machine? n = some (g m) := by rw [machine?_onMachine_same hnumber, hm]; rfl
    rw [← hfound, State.machine?, State.machine?, hmachines]
  obtain ⟨x, hx, fs, sv, hxg⟩ := faultsOnly_clearFault n .silent .heard p n (g m) hmp
  rw [← hp]
  refine ⟨⟨x, hx, ?_⟩, ?_, fun box => ?_, ?_⟩
  · have hactive (k : FaultKind) (hk : k ≠ .silent) : x.faults.active k = m.faults.active k := by
      rw [← faultActive_eq hx, faultActive_clearFault_other p n hk, faultActive_eq hmp, hg]
      rfl
    rw [hxg, hg] at *
    exact ⟨rfl, rfl, rfl, rfl, rfl, rfl, hactive⟩
  · rw [clearFault_numbers, hmachines, onMachine_numbers n g s hnumber]
  · rw [clearFault_conflicts, conflicts_of_machines hnumber hmachines]
  · obtain ⟨ms, na, hc⟩ := clearFault_frame n .silent .heard p
    obtain ⟨la, lb, ms', hframe⟩ := joinedOn_frame s line slot n m
    exact ⟨la, lb, ms, na, by rw [hc, hp, hframe]⟩

/-- A Join is decided by the machine's registration and the slots of the line (07 R141). -/
theorem decideJoin_eq {s : State} {line : LineId} {f : JoinFrame} {m : MachineRecord} (hm : s.machine? f.machine = some m) :
    decideJoin line f s =
      if m.reg.permitted.permits line = false then setHeard line (.joinRefused f.machine .wrongLine) (s.freed f.machine m)
      else ((s.freed f.machine m).joinSlot? line m.link.fields?).elim
        (setHeard line (.joinRefused f.machine .lineFull) (s.freed f.machine m))
        fun slot => grantJoin line slot m f (s.freed f.machine m) := by
  have hfreed : (if m.link = .absent then s else releaseSlot f.machine s) = s.freed f.machine m := rfl
  simp only [decideJoin, hm, hfreed]
  split
  · rfl
  · cases (s.freed f.machine m).joinSlot? line m.link.fields? <;> rfl

theorem permits_false_iff (p : PermittedLine) (line : LineId) :
    p.permits line = false ↔ p = .lineA ∧ line = .b ∨ p = .lineB ∧ line = .a := by
  cases p <;> cases line <;> simp [PermittedLine.permits]

theorem permits_of {p : PermittedLine} {line : LineId} (h : p = .either ∨ p = .lineA ∧ line = .a ∨ p = .lineB ∧ line = .b) :
    p.permits line = true := by
  rcases h with rfl | ⟨rfl, rfl⟩ | ⟨rfl, rfl⟩
  · rfl
  · rfl
  · rfl

end Sys2Proof.Machine

/-! PROOFS. Joins in full (07 R141 to R143; 05 R104 to R107). -/

namespace Sys2Proof.Machine

theorem restored_changed {f : MachineRecord → MachineRecord} (hf : Apart f) (d : BoxFigures) (n : Nat) (m : MachineRecord)
    (tally : Tally) (gap : Bool) (s : State) (c : CashUnit) :
    d.restored n m tally gap (s.changed n f c) = (d.restored n m tally gap s).changed n f c := by
  rw [BoxFigures.restored, BoxFigures.restored, BoxFigures.faults, BoxFigures.faults, reconcileFaults_changed _ _ _ _ _ _ _ _ _ hf,
    raiseIf_changed hf, restoredFaults_changed hf]

/-- A state that a reconciliation leaves differs from the state of its faults in cash unit and store alone. -/
theorem totalled_eq (e : State) (bytes : List Byte) (c : CashUnit) (w : StoreControl) (changed : Bool) (g : Nat) :
    notify bytes (State.totalled { e with cash := c, store := w } changed g) =
      { notify bytes e with
        cash := c
        store := if changed then State.groupMarked { e with store := w } g else w } := by
  cases changed
  · rfl
  · rfl

theorem joinedFrom_steady {s j : State} {n : Nat} {m : MachineRecord} (h : JoinedFrom s n m j) (hs : s.steady) : j.steady := by
  obtain ⟨la, lb, ms, na, rfl⟩ := h.frame
  exact steady_congr hs rfl rfl

/-- The round that the box part leaves, as the rules say it (05 R99, R101). -/
theorem exchangedRound_spec (n : Nat) (scheduled joins closes stored takes : Bool) (cash number : Nat) (round : Option Round) :
    exchangedRound n scheduled joins closes stored (if takes then cash else 0) number round =
      if scheduled || joins then
        round.map fun r =>
          { r with
            isOpen := !closes
            cash := r.cash + (if scheduled && takes then cash else 0)
            entries := r.entries.map fun e =>
              if e.machine = n then
                { e with
                  state := if joins then .collected else .boxOut
                  drop := if scheduled && stored then some number else e.drop }
              else e }
      else round := by
  cases scheduled <;> rfl

/-- The levels raised where the restored state calls for them (05 R107). -/
theorem level_iff (removed : Option Nat) (p : Prop) [Decidable p] (active : Bool) :
    (decide p && (removed.isSome || !active)) = true ↔ p ∧ (removed ≠ none ∨ active = false) := by
  rw [Bool.and_eq_true, Bool.or_eq_true, decide_eq_true_eq, Option.isSome_iff_ne_none, Bool.not_eq_true']

/-- The faults and notices of a reconciliation, one after another (05 R105 to R107). -/
theorem restored_chain {d : BoxFigures} {s : State} {n : Nat} {m : MachineRecord} {recorded : RecordedBox} {tally : Tally}
    {gap : Bool} {u v w x y z a g c p e : State} (hfit : d.Fit s n m recorded)
    (hv : v = if d.removed ≠ none ∧ d.scheduled = false then raiseFault n .cashTamper u else u)
    (hw : w =
      if d.removed ≠ none then
        clearFault n .boxFull .removed (clearFault n .boxNearFull .removed (raiseFault n .boxOut v))
      else if d.report = none then raiseFault n .boxOut v
      else v)
    (hx : x = if d.takes && !d.stored then raiseFault n .dropHeld w else w)
    (hy : y = if d.report = none then x else clearFault n .boxOut .inserted x)
    (hz : z = if d.conflict then raiseFault n .boxConflict y else y)
    (ha : a = d.round.elim z fun r => if d.closes then notify (roundClosedNotice r) z else z)
    (hg : g = if gap then raiseFault n .tallyGap a else a)
    (hc : c = if m.heldDrop ≠ none ∧ m.faults.active .dropHeld = false then raiseFault n .dropHeld g else g)
    (hp : p =
      if m.reg.capacity ≤ tally.coins + m.reg.margin ∧ (d.removed ≠ none ∨ m.faults.active .boxNearFull = false) then
        raiseFault n .boxNearFull c
      else c)
    (he : e =
      if m.reg.capacity ≤ tally.coins ∧ (d.removed ≠ none ∨ m.faults.active .boxFull = false) then raiseFault n .boxFull p
      else p) :
    e = d.restored n m tally gap u := by
  have ha' : a = d.faults n u := ha.trans (boxFaults_eq (fun h => by rw [hfit.conflict, h]; rfl)
    (fun h => Option.isSome_iff_ne_none.mp (hfit.held_of_holds h).1) hv hw hx hy hz)
  have hc' : c = raiseIf (m.heldDrop.isSome && !m.faults.active .dropHeld) n .dropHeld
      (raiseIf gap n .tallyGap (d.faults n u)) := by
    rw [← ha', hc, hg]
    exact raiseIf_of_iff (by rw [Bool.and_eq_true, Option.isSome_iff_ne_none, Bool.not_eq_true']) _ _ _
  have hp' := hp.trans (raiseIf_of_iff (level_iff d.removed _ _) _ _ _)
  have he' := he.trans (raiseIf_of_iff (level_iff d.removed _ _) _ _ _)
  rw [he', hp', hc']
  rfl

theorem join_stands {s : State} {line : LineId} (h : s.stands line 0) (f : JoinFrame) :
    exec (.join line f) s = .next (decideJoin line f (passPhase line s)) :=
  congrArg Host.Outcome.next (inPhase_stands h _)

theorem joinSlot?_other {s : State} {line : LineId} {before : Option LinkFields}
    (h : before.map LinkFields.line ≠ some line) : s.joinSlot? line before = s.freeSlot? line := by
  cases before with
  | none => rfl
  | some old => exact if_neg fun ho => h (congrArg some ho)

theorem joinSlot?_same {s : State} {line : LineId} {slot : Nat} {before : Option LinkFields}
    (hl : before.map LinkFields.line = some line) (hs : before.map LinkFields.slot = some slot) :
    s.joinSlot? line before = some slot := by
  cases before with
  | none => cases hl
  | some old => exact (if_pos (Option.some.inj hl)).trans hs

theorem slotEnabled_freed (s : State) (line : LineId) (n : Nat) (m : MachineRecord) (slot : Nat) :
    (((passPhase line s).freed n m).line line).slotEnabled slot = (s.line line).slotEnabled slot := by
  rw [line_freed, line_passPhase]
  rfl

/-- What the parts of a join that are not the machine's keep. -/
theorem joinedFrom_keeps {s j : State} {n : Nat} {m : MachineRecord} (h : JoinedFrom s n m j) :
    j.cash = s.cash ∧ j.store = s.store ∧ j.power = s.power ∧ j.now = s.now ∧ j.dropPlace = s.dropPlace ∧
      j.openEntry? n = s.openEntry? n := by
  obtain ⟨la, lb, ms, na, rfl⟩ := h.frame
  exact ⟨rfl, rfl, rfl, rfl, rfl, rfl⟩

/-- The one machine of its number, where the numbers are distinct. -/
theorem joinedFrom_only {s j : State} {n : Nat} {m b : MachineRecord} (h : JoinedFrom s n m j) (hb : j.machine? n = some b)
    (hnodup : (s.machines.map MachineRecord.number).Nodup) : ∀ x ∈ j.machines, x.number = n → x = b := by
  intro x hx hn
  have hfound := machine?_of_nodup (by rw [h.numbers]; exact hnodup) hx
  rw [hn, hb] at hfound
  exact (Option.some.inj hfound).symm

/-- Settles O47. -/
theorem joinsAreGrantedOrRefused : Obligations.JoinsAreGrantedOrRefused := by
  intro s line f s0 hs hback hstands hs0
  have hexec : exec (.join line f) s = .next (decideJoin line f s0) := by rw [hs0]; exact join_stands hstands f
  have hfound (n : Nat) : s0.machine? n = s.machine? n := by rw [hs0]; exact machine?_passPhase line n s
  refine ⟨fun hnone => ?_, fun m free hm hfree => ?_⟩
  · rw [hexec]
    simp only [decideJoin, hfound, hnone]
  have hfreed : free = s0.freed f.machine m := hfree
  have henabled (slot : Nat) : (free.line line).slotEnabled slot = (s.line line).slotEnabled slot := by
    rw [hfreed, hs0, slotEnabled_freed]
  have hdecide (hp : m.reg.permitted = .either ∨ m.reg.permitted = .lineA ∧ line = .a ∨ m.reg.permitted = .lineB ∧ line = .b) :
      exec (.join line f) s = .next ((free.joinSlot? line m.link.fields?).elim
        (setHeard line (.joinRefused f.machine .lineFull) free) fun slot => grantJoin line slot m f free) := by
    rw [hexec, decideJoin_eq ((hfound _).trans hm), if_neg (by rw [permits_of hp]; decide), hfreed]
  refine ⟨fun hwrong => ?_, fun hpermitted => ⟨fun hother hfull => ?_, ?_⟩⟩
  · rw [hexec, decideJoin_eq ((hfound _).trans hm), if_pos ((permits_false_iff _ _).mpr hwrong), hfree]
    rfl
  · have hnone : m.link.fields?.map LinkFields.line ≠ some line := fun h => by
      obtain ⟨old, ho, hl⟩ := Option.map_eq_some_iff.mp h
      exact hother old ho hl
    rw [hdecide hpermitted, joinSlot?_other hnone, freeSlot?_none fun slot h1 h32 he => hfull slot h1 h32 (henabled slot ▸ he)]
    rfl
  · intro slot joined hslot hjoined
    have hgrant : exec (.join line f) s = .next (grantJoin line slot m f free) := by
      have hsome : free.joinSlot? line m.link.fields? = some slot := by
        rcases hslot with ⟨hl, hsl⟩ | ⟨hl, h1, h32, he, hh, hlower⟩
        · exact joinSlot?_same hl hsl
        · rw [joinSlot?_other hl]
          exact freeSlot?_some h1 h32 ((henabled slot).trans he) hh fun lower h1 hlt => by
            rw [henabled]
            exact hlower lower h1 hlt
      rw [hdecide hpermitted, hsome]
      rfl
    have hnumber : m.number = f.machine := by
      simpa using List.find?_some hm
    have hj : joined = clearFault f.machine .silent .heard (s.joinedOn line slot f.machine m) := by
      rw [hjoined, hfree, hs0]
      rfl
    have hfrom : JoinedFrom s f.machine m joined := hj ▸ joinedFrom hm line slot
    have hjs := joinedFrom_steady hfrom hs
    have hplain : grantJoin line slot m f free =
        settle (notify (machineJoinedNotice f.machine line slot m.reconcileDue)
          (if m.reconcileDue then reconcile m f joined else joined)) := by
      rw [hjoined, ← hnumber]
      rfl
    refine ⟨fun hdue => ?_, ?_⟩
    · rw [hgrant, hplain, hdue]
      exact congrArg Host.Outcome.next (settle_steady (steady_congr hjs rfl rfl))
    · intro report removed own box place number snap takes stored scheduled joins closes conflict gap left tally accepted cash
        hdue hout hnodup hreport hown hremoved hbox htakes hstored hplace hnum hscheduled hjoins hcloses hconflict hsnap hleft
        hserial htally
      obtain ⟨b, hb, hbtally, hbacc, hbbox, hbremoval, hbheld, hbreg, hbfaults⟩ := hfrom.machine
      obtain ⟨hjcash, hjstore, hjpower, hjnow, hjplace, hjentry⟩ := joinedFrom_keeps hfrom
      obtain ⟨removal, hremoval⟩ : ∃ removal : Removal, removal =
        if removed = none then m.removal else if stored then .recorded number else if 0 < m.tally.cash then .held else .noDrop :=
          ⟨_, rfl⟩
      obtain ⟨round, hround⟩ : ∃ round : Option Round, round =
        exchangedRound f.machine scheduled joins closes stored (if takes then m.tally.cash else 0) number s.cash.round := ⟨_, rfl⟩
      obtain ⟨d, hd⟩ : ∃ d : BoxFigures, d =
        ⟨report, removed, place, number, snap, takes, stored, scheduled, joins, closes, conflict, removal, round⟩ := ⟨_, rfl⟩
      have hfit : d.Fit joined f.machine b m.recorded := by
        rw [hd]
        constructor
        · exact hremoved
        · rw [hbtally, hbheld]; exact htakes
        · rw [hjcash]; exact hstored
        · exact fun h => hjplace.trans (takes_dropPlace (hplace h))
        · rw [hjcash]; exact hnum
        · rw [hjentry]; exact hscheduled
        · rw [hjentry]; exact hjoins
        · rw [hjcash]; exact hcloses
        · rw [Bool.eq_iff_iff, hconflict]
          simp only [Option.any_eq_true, hfrom.conflicts, conflicts_iff]
        · rw [hjcash, hjnow, hbtally]; exact hsnap
        · rw [hbremoval, hbtally]; exact hremoval
        · rw [hjcash, hbtally]; exact hround
      have hdleft : d.left b = left := by rw [hleft, BoxFigures.left, hbtally, hd]
      have hparts : reconcileSerial b.accepted (d.left b) (JoinFrame.lastSerial f) f.cash = (accepted, tally, gap) := by
        rw [hdleft, hbacc, lastSerial_eq, ← hown]
        exact reconcileSerial_eq hserial htally
      have hmodel := reconcile_eq hjs hfit hb (joinedFrom_only hfrom hb hnodup) (fun h => hbbox.trans (hout h)) hnumber
        (by rw [hd, boxReport_eq]; exact hreport) hparts
      obtain ⟨held, hheld⟩ : ∃ held, held = if takes && !stored then some snap else m.heldDrop := ⟨_, rfl⟩
      obtain ⟨u, hu⟩ : ∃ u, u = joined.onMachine f.machine fun x =>
        { x with
          box := box
          tally := tally
          accepted := accepted
          removal := removal
          heldDrop := held
          reconcileDue := false } := ⟨_, rfl⟩
      obtain ⟨v, hv⟩ : ∃ v, v = if removed ≠ none ∧ scheduled = false then raiseFault f.machine .cashTamper u else u := ⟨_, rfl⟩
      obtain ⟨w, hw⟩ : ∃ w, w =
        if removed ≠ none then
          clearFault f.machine .boxFull .removed (clearFault f.machine .boxNearFull .removed (raiseFault f.machine .boxOut v))
        else if report = none then raiseFault f.machine .boxOut v
        else v := ⟨_, rfl⟩
      obtain ⟨x, hx⟩ : ∃ x, x = if takes && !stored then raiseFault f.machine .dropHeld w else w := ⟨_, rfl⟩
      obtain ⟨y, hy⟩ : ∃ y, y = if report = none then x else clearFault f.machine .boxOut .inserted x := ⟨_, rfl⟩
      obtain ⟨z, hz⟩ : ∃ z, z = if conflict then raiseFault f.machine .boxConflict y else y := ⟨_, rfl⟩
      obtain ⟨a, ha⟩ : ∃ a, a = round.elim z fun r => if closes then notify (roundClosedNotice r) z else z := ⟨_, rfl⟩
      obtain ⟨g, hg⟩ : ∃ g, g = if gap then raiseFault f.machine .tallyGap a else a := ⟨_, rfl⟩
      obtain ⟨c, hc⟩ : ∃ c, c =
        if m.heldDrop ≠ none ∧ m.faults.active .dropHeld = false then raiseFault f.machine .dropHeld g else g := ⟨_, rfl⟩
      obtain ⟨p, hp⟩ : ∃ p, p =
        if m.reg.capacity ≤ tally.coins + m.reg.margin ∧ (removed ≠ none ∨ m.faults.active .boxNearFull = false) then
          raiseFault f.machine .boxNearFull c
        else c := ⟨_, rfl⟩
      obtain ⟨e, he⟩ : ∃ e, e =
        if m.reg.capacity ≤ tally.coins ∧ (removed ≠ none ∨ m.faults.active .boxFull = false) then
          raiseFault f.machine .boxFull p
        else p := ⟨_, rfl⟩
      have hrestored := restored_chain hfit (u := u) (v := v) (w := w) (x := x) (y := y) (z := z) (a := a) (g := g) (c := c)
        (p := p) (e := e) (tally := tally) (gap := gap) (by rw [hd]; exact hv) (by rw [hd]; exact hw) (by rw [hd]; exact hx)
        (by rw [hd]; exact hy) (by rw [hd]; exact hz) (by rw [hd]; exact ha) hg
        (by rw [hbheld, hbfaults .dropHeld (by decide)]; exact hc)
        (by rw [hbreg, hbfaults .boxNearFull (by decide), hd]; exact hp)
        (by rw [hbreg, hbfaults .boxFull (by decide), hd]; exact he)
      have hdholds : d.holds = (takes && !stored) := by rw [hd]; rfl
      have hdsnap : d.snap = snap := by rw [hd]
      have hdremoval : d.removal = removal := by rw [hd]
      have hdtakes : d.takes = takes := by rw [hd]
      have hddrop : d.stored = stored ∧ d.place = place ∧ d.number = number ∧ d.round = round := by rw [hd]; exact ⟨rfl, rfl, rfl, rfl⟩
      have hdbox : d.box = box := by rw [hbox, BoxFigures.box, hd]; cases report <;> rfl
      have hrecorded : d.box.recordedForm = report.elim .out .installed := by
        rw [hdbox, hbox]
        cases report <;> rfl
      have hu' : u = joined.changed f.machine (b.reconciled d accepted tally) joined.cash := by
        rw [hu]
        refine congrArg (joined.onMachine f.machine) (funext fun x => ?_)
        rw [MachineRecord.reconciled, hdbox, hbheld, hheld, hdholds, hdsnap, hdremoval]
      have hchain : e = (d.restored f.machine b tally gap joined).changed f.machine (b.reconciled d accepted tally) joined.cash := by
        rw [← restored_changed (apart_reconciled b d accepted tally), ← hu', hrestored]
      refine ⟨removal, held, round, u, v, w, x, y, z, a, g, c, hremoval, hheld, hround.trans (exchangedRound_spec ..), hu, hv, hw,
        hx, hy, hz, ha, hg, hc, p, e, d.written f.machine m b s.cash.round s.store, hp, he, ?_, ?_⟩
      · obtain ⟨hdstored, hdplace, hdnumber, hdround⟩ := hddrop
        rw [BoxFigures.written, hdleft, hdbox, BoxFigures.work, hrecorded, hdholds, hdsnap, hdremoval, hdtakes, hdstored, hdplace,
          hdnumber, hdround]
        cases report <;> rfl
      · obtain ⟨k, hk⟩ : ∃ k, k = d.written f.machine m b s.cash.round s.store := ⟨_, rfl⟩
        obtain ⟨unit, hunit⟩ : ∃ unit, unit = s.cash.removed stored place number round := ⟨_, rfl⟩
        have hleaves : ({ (d.restored f.machine b tally gap joined).changed f.machine (b.reconciled d accepted tally)
            (joined.cash.removed d.stored d.place d.number d.round) with
              store := d.written f.machine m b joined.cash.round joined.store } : State) =
            { e with cash := unit, store := k } := by
          obtain ⟨hdstored, hdplace, hdnumber, hdround⟩ := hddrop
          rw [hchain, hunit, hk, hjcash, hjstore, hdstored, hdplace, hdnumber, hdround]
          rfl
        have hepower : e.power = joined.power := by
          obtain ⟨ms, sm, na, hframe⟩ := sameBut_restored d f.machine b tally gap joined
          rw [hchain, hframe]
          rfl
        have hesteady : ({ e with cash := unit, store := k } : State).steady :=
          steady_congr (s := { joined with store := k })
            (by rw [hk, ← hjstore]; exact written_steady hjs d f.machine m b s.cash.round) hepower rfl
        obtain ⟨hflush, hbacklog⟩ := written_flush d f.machine m b s.cash.round s.store
        rw [← hk] at hflush hbacklog
        have hsettled := settle_steady (steady_congr
          (t := notify (machineJoinedNotice f.machine line slot true)
            (State.totalled { e with cash := unit, store := k } (decide (takes = true ∨ accepted ≠ m.accepted ∨ tally ≠ left))
              m.group))
          (totalled_steady hesteady (fun hp hf => hbacklog.trans (hback (hjpower ▸ hepower ▸ hp) (hflush ▸ hf))) _ m.group) rfl rfl)
        have hflag : (d.takes || accepted != b.accepted || tally != d.left b) =
            decide (takes = true ∨ accepted ≠ m.accepted ∨ tally ≠ left) := by
          rw [hdleft, hbacc, hdtakes, Bool.eq_iff_iff]
          simp [or_assoc]
        have hgroup : b.group = m.group := by rw [MachineRecord.group, hbreg]; rfl
        rw [hgrant, hplain, if_pos hdue, hdue, hmodel, hleaves, hflag, hgroup, hsettled, totalled_eq, ← hk, hunit]
        simp only [decide_eq_true_eq]
        rfl

end Sys2Proof.Machine

/-! PROOFS. The bands that a walk passes through, laid out on its positions, and the minutes' prices (02 R30, R31). -/

namespace Sys2Proof.Machine

/-! ## Segments laid out -/

/-- Segments laid out one behind another from a position to another, each with the price of its minutes. -/
def Laid (price : Nat → Option Nat) : Nat → Nat → List Segment → Prop
  | a, h, [] => a = h
  | a, h, g :: rest => g.first = a ∧ a < g.last ∧ (∀ p, a ≤ p → p < g.last → price p = g.price) ∧ Laid price g.last h rest

theorem Laid.le {price : Nat → Option Nat} {segs : List Segment} {a h : Nat} (hl : Laid price a h segs) : a ≤ h := by
  induction segs generalizing a with
  | nil => exact Nat.le_of_eq hl
  | cons g rest ih =>
    obtain ⟨-, hlt, -, hrest⟩ := hl
    exact Nat.le_trans (Nat.le_of_lt hlt) (ih hrest)

theorem Laid.congr {price price' : Nat → Option Nat} {segs : List Segment} {a h : Nat} (hl : Laid price a h segs)
    (hp : ∀ p, a ≤ p → p < h → price p = price' p) : Laid price' a h segs := by
  induction segs generalizing a with
  | nil => exact hl
  | cons g rest ih =>
    obtain ⟨hfirst, hlt, hg, hrest⟩ := hl
    have hlast : g.last ≤ h := hrest.le
    exact ⟨hfirst, hlt, fun p ha hb => (hp p ha (Nat.lt_of_lt_of_le hb hlast)).symm.trans (hg p ha hb),
      ih hrest fun p ha hb => hp p (Nat.le_trans (Nat.le_of_lt hlt) ha) hb⟩

theorem Laid.append {price : Nat → Option Nat} {xs ys : List Segment} {a m h : Nat} (hx : Laid price a m xs)
    (hy : Laid price m h ys) : Laid price a h (xs ++ ys) := by
  induction xs generalizing a with
  | nil => exact hx ▸ hy
  | cons g rest ih =>
    obtain ⟨hfirst, hlt, hg, hrest⟩ := hx
    exact ⟨hfirst, hlt, hg, ih hrest⟩

/-- The segments ahead of a position: it stands in the first of them. -/
theorem Laid.segmentsFrom {price : Nat → Option Nat} {segs : List Segment} {a h start : Nat} (hl : Laid price a h segs)
    (ha : a ≤ start) (hh : start < h) :
    ∃ g rest, Machine.segmentsFrom start segs = g :: rest ∧ start < g.last ∧
      (∀ p, start ≤ p → p < g.last → price p = g.price) ∧ Laid price g.last h rest := by
  induction segs generalizing a with
  | nil => exact absurd hl (Nat.ne_of_lt (Nat.lt_of_le_of_lt ha hh))
  | cons g rest ih =>
    obtain ⟨-, hlt, hg, hrest⟩ := hl
    by_cases hpast : g.last ≤ start
    · obtain ⟨g', rest', he, h'⟩ := ih hrest hpast
      refine ⟨g', rest', ?_, h'⟩
      rw [← he]
      exact List.dropWhile_cons_of_pos (by simpa using hpast)
    · refine ⟨g, rest, ?_, Nat.lt_of_not_le hpast, fun p hp => hg p (Nat.le_trans ha hp), hrest⟩
      exact List.dropWhile_cons_of_neg (by simpa using hpast)

/-! ## The bands of a day -/

theorem bandAt_first {b : Band} {rest : List Band} {m : Nat} (hb : b.start ≤ m) (hrest : ∀ c ∈ rest, m < c.start) :
    bandAt (b :: rest) m = some b.kind := by
  have hnone : rest.filter (fun c => decide (c.start ≤ m)) = [] :=
    List.filter_eq_nil_iff.mpr fun c hc => by simpa using hrest c hc
  rw [bandAt, List.filter_cons_of_pos (by simpa using hb), hnone]
  rfl

theorem bandAt_later {b c : Band} {rest : List Band} {m : Nat} (hb : b.start ≤ m) (hc : c.start ≤ m) :
    bandAt (b :: c :: rest) m = bandAt (c :: rest) m := by
  rw [bandAt, bandAt, List.filter_cons_of_pos (by simpa using hb), List.filter_cons_of_pos (by simpa using hc),
    List.getLast?_cons_cons]

theorem startsIncrease_le {low : Nat} {bands : List Band} (h : startsIncrease low bands = true) :
    ∀ c ∈ bands, low ≤ c.start := by
  induction bands generalizing low with
  | nil => exact nofun
  | cons b rest ih =>
    rw [startsIncrease, Bool.and_eq_true, Bool.and_eq_true, decide_eq_true_eq] at h
    obtain ⟨⟨hlow, -⟩, hrest⟩ := h
    intro c hc
    rcases List.mem_cons.mp hc with rfl | hc
    · exact hlow
    · exact Nat.le_trans (Nat.le_trans hlow (Nat.le_succ b.start)) (ih hrest c hc)

/-- The bands of a day, from one on, are laid out to the day's end (01 R1, 02 R31). -/
theorem laid_daySegments (offset : Nat) (f : BandKind → Option Nat) (rest : List Band) :
    ∀ b : Band, b.start < 1440 → startsIncrease (b.start + 1) rest = true →
      Laid (fun p => (bandAt (b :: rest) (p - offset)).bind f) (offset + b.start) (offset + 1440)
        (daySegments offset f (b :: rest)) := by
  induction rest with
  | nil =>
    intro b hb _
    refine ⟨rfl, Nat.add_lt_add_left hb offset, fun p hp _ => ?_, rfl⟩
    exact congrArg (fun k => k.bind f) (bandAt_first (Nat.le_sub_of_add_le' hp) fun c hc => absurd hc List.not_mem_nil)
  | cons c rest ih =>
    intro b hb hincrease
    rw [startsIncrease, Bool.and_eq_true, Bool.and_eq_true, decide_eq_true_eq, decide_eq_true_eq] at hincrease
    obtain ⟨⟨hlow, hlast⟩, hrest⟩ := hincrease
    refine ⟨rfl, Nat.add_lt_add_left hlow offset, fun p hp hlt => ?_, ?_⟩
    · have hbefore : p - offset < c.start := by
        have hlt' : p < offset + c.start := hlt
        omega
      have hall : ∀ x ∈ c :: rest, p - offset < x.start := fun x hx => by
        rcases List.mem_cons.mp hx with rfl | hx
        · exact hbefore
        · exact Nat.lt_of_lt_of_le (Nat.lt_succ_of_lt hbefore) (startsIncrease_le hrest x hx)
      exact congrArg (fun k => k.bind f) (bandAt_first (Nat.le_sub_of_add_le' hp) hall)
    · refine (ih c (Nat.lt_succ_of_le hlast) hrest).congr fun p hp _ => ?_
      rw [bandAt_later (b := b) (c := c) (by omega) (Nat.le_sub_of_add_le' hp)]

/-- A valid day is laid out from its first minute to its last. -/
theorem laid_day {bands : List Band} (h : scheduleValid bands = true) (offset : Nat) (f : BandKind → Option Nat) :
    Laid (fun p => (bandAt bands (p - offset)).bind f) offset (offset + 1440) (daySegments offset f bands) := by
  cases bands with
  | nil => cases h
  | cons b rest =>
    rw [scheduleValid, Bool.and_eq_true, Bool.and_eq_true, beq_iff_eq] at h
    obtain ⟨⟨hstart, -⟩, hrest⟩ := h
    have hlaid := laid_daySegments offset f rest b (by rw [hstart]; decide) (by rw [hstart]; exact hrest)
    rwa [hstart, Nat.add_zero] at hlaid

/-- The bands that a walk passes through are laid out from 00:00 of the arrival date to the horizon, each with the price of
its minutes (02 R31, R32). -/
theorem laid_walkSegments {s : State} {zone : Nat} (hvalid : ∀ c, scheduleValid ((s.zone zone).tariff.schedule c) = true)
    (rate : RateClass) (date : Date) :
    Laid (s.priceAt zone rate date) 0 (walkHorizon (s.zone zone).tariff.params.carryOver date)
      (s.walkSegments zone rate date) := by
  have htoday : Laid (s.priceAt zone rate date) 0 1440 (daySegments 0 (BandKind.price (s.zone zone).tariff.params rate)
      ((s.zone zone).tariff.schedule (s.dayClass date))) := by
    refine (laid_day (hvalid (s.dayClass date)) 0 _).congr fun p _ hp => ?_
    simp only [State.priceAt, if_pos hp, Nat.sub_zero]
  have hlater : Laid (s.priceAt zone rate date) 1440 2880 (daySegments 1440 (BandKind.price (s.zone zone).tariff.params rate)
      ((s.zone zone).tariff.schedule (s.calendarClass date.next))) := by
    refine (laid_day (hvalid (s.calendarClass date.next)) 1440 _).congr fun p hp _ => ?_
    simp only [State.priceAt, if_neg (Nat.not_lt.mpr hp)]
  simp only [State.walkSegments]
  split
  next h =>
    rw [h]
    exact htoday.append hlater
  next h =>
    have hshort : walkHorizon (s.zone zone).tariff.params.carryOver date = 1440 := by
      unfold walkHorizon at h ⊢
      split
      next hc => rw [if_pos hc] at h; exact absurd rfl h
      next => rfl
    rw [hshort]
    exact htoday

/-- The valid-until of a free stay is its first minute that is not free, or the horizon (02 R34). -/
theorem validUntil_eq {price : Nat → Option Nat} {segs : List Segment} {a h v : Nat} (hl : Laid price a h segs)
    (hav : a ≤ v) (hvh : v ≤ h) (hfree : ∀ p, a ≤ p → p < v → price p = some 0) (hv : v = h ∨ price v ≠ some 0) :
    validUntil h segs = v := by
  induction segs generalizing a with
  | nil =>
    have hah : a = h := hl
    exact Nat.le_antisymm (hah ▸ hav) hvh
  | cons g rest ih =>
    obtain ⟨hfirst, hlt, hg, hrest⟩ := hl
    have hlast := hrest.le
    by_cases hz : g.price = some 0
    · have hpast : g.last ≤ v := Nat.le_of_not_lt fun hlt' =>
        hv.elim (fun he => absurd hlast (Nat.not_le.mpr (he ▸ hlt'))) fun hne => hne ((hg v hav hlt').trans hz)
      rw [validUntil, if_pos hz]
      exact ih hrest hpast fun p hp => hfree p (Nat.le_trans (Nat.le_of_lt hlt) hp)
    · rw [validUntil, if_neg hz, hfirst]
      exact Nat.le_antisymm hav (Nat.le_of_not_lt fun hlt' =>
        hz ((hg a (Nat.le_refl a) hlt).symm.trans (hfree a (Nat.le_refl a) hlt')))

end Sys2Proof.Machine

/-! PROOFS. The walk of a quote, minute by minute (02, section 2.6). -/

namespace Sys2Proof.Machine

/-! ## The minutes walked -/

/-- What the minutes from a position to another cost by the hour. -/
def minuteRates (price : Nat → Option Nat) (a p : Nat) : List (Option Nat) :=
  (List.range (p - a)).map fun i => price (a + i)

/-- What the minutes from a position to another cost together. -/
def spentOn (price : Nat → Option Nat) (a p : Nat) : Nat := ((minuteRates price a p).map fun r => r.getD 0).sum

/-- How many minutes from a position to another have a price. -/
def pricedMinutes (price : Nat → Option Nat) (a p : Nat) : Nat :=
  ((minuteRates price a p).filter fun r => r != some 0).length

section
variable {price : Nat → Option Nat} {a p k : Nat} {c : Option Nat}

/-- The minutes of a stretch at one price. -/
theorem minuteRates_stretch (hap : a ≤ p) (hc : ∀ q, p ≤ q → q < p + k → price q = c) :
    minuteRates price a (p + k) = minuteRates price a p ++ List.replicate k c := by
  have hsplit : p + k - a = (p - a) + k := by omega
  rw [minuteRates, hsplit, List.range_add, List.map_append, List.map_map, minuteRates]
  refine congrArg (_ ++ ·) (List.eq_replicate_iff.mpr ⟨by simp, fun x hx => ?_⟩)
  obtain ⟨i, hi, rfl⟩ := List.mem_map.mp hx
  have hik := List.mem_range.mp hi
  have hpos : a + (p - a + i) = p + i := by omega
  exact (congrArg price hpos).trans (hc (p + i) (Nat.le_add_right p i) (Nat.add_lt_add_left hik p))

theorem minuteRates_self (price : Nat → Option Nat) (a : Nat) : minuteRates price a a = [] := by
  rw [minuteRates, Nat.sub_self]
  rfl

theorem spentOn_stretch (hap : a ≤ p) (hc : ∀ q, p ≤ q → q < p + k → price q = c) :
    spentOn price a (p + k) = spentOn price a p + k * c.getD 0 := by
  rw [spentOn, minuteRates_stretch hap hc, List.map_append, List.sum_append, List.map_replicate, List.sum_replicate, spentOn,
    smul_eq_mul]

theorem pricedMinutes_stretch (hap : a ≤ p) (hc : ∀ q, p ≤ q → q < p + k → price q = c) :
    pricedMinutes price a (p + k) = pricedMinutes price a p + if c = some 0 then 0 else k := by
  rw [pricedMinutes, minuteRates_stretch hap hc, List.filter_append, List.length_append, List.filter_replicate, pricedMinutes]
  by_cases h : c = some 0
  · simp [h]
  · simp [h]

end

/-! ## What a walk holds -/

/-- The four values of a walk say what the minutes walked come to, within the bounds (02 R35, R36). -/
structure Walk.Sound (w : Walk) (price : Nat → Option Nat) (b : WalkBounds) (start credit : Nat) : Prop where
  ahead : start ≤ w.pos
  allowed : none ∉ minuteRates price start w.pos
  minutes : w.minutes = pricedMinutes price start w.pos
  money : b.byMoney = true → w.credit + spentOn price start w.pos = credit
  time : b.byMoney = false → w.cost = spentOn price start w.pos ∧ w.minutes ≤ b.duration
  stay : b.maxStay ≠ 0 → w.minutes ≤ b.maxStay
  balance : ∀ x, b.balance = some x → w.minutes ≤ x

theorem Walk.sound_start (price : Nat → Option Nat) (b : WalkBounds) (start credit : Nat) :
    Walk.Sound ⟨start, credit, 0, 0⟩ price b start credit where
  ahead := Nat.le_refl start
  allowed := by rw [minuteRates_self]; exact List.not_mem_nil
  minutes := by rw [pricedMinutes, minuteRates_self]; rfl
  money := fun _ => by rw [spentOn, minuteRates_self]; rfl
  time := fun _ => ⟨by rw [spentOn, minuteRates_self]; rfl, Nat.zero_le _⟩
  stay := fun _ => Nat.zero_le _
  balance := fun _ _ => Nat.zero_le _

section
variable {price : Nat → Option Nat} {b : WalkBounds} {start credit : Nat} {w : Walk}

theorem Walk.Sound.allowed_stretch (h : w.Sound price b start credit) {k r : Nat}
    (hc : ∀ q, w.pos ≤ q → q < w.pos + k → price q = some r) : none ∉ minuteRates price start (w.pos + k) := by
  rw [minuteRates_stretch h.ahead hc, List.mem_append]
  rintro (hin | hin)
  · exact h.allowed hin
  · cases List.eq_of_mem_replicate hin

/-- A free stretch moves the walk on and changes nothing else (02 R35). -/
theorem Walk.Sound.free (h : w.Sound price b start credit) {last : Nat} (hlast : w.pos ≤ last)
    (hc : ∀ q, w.pos ≤ q → q < last → price q = some 0) : ({ w with pos := last } : Walk).Sound price b start credit := by
  obtain ⟨k, rfl⟩ := Nat.exists_eq_add_of_le hlast
  have hspent : spentOn price start (w.pos + k) = spentOn price start w.pos := by
    rw [spentOn_stretch h.ahead hc, Option.getD_some, Nat.mul_zero, Nat.add_zero]
  have hminutes : pricedMinutes price start (w.pos + k) = pricedMinutes price start w.pos := by
    rw [pricedMinutes_stretch h.ahead hc, if_pos rfl, Nat.add_zero]
  exact
    { ahead := Nat.le_trans h.ahead hlast
      allowed := h.allowed_stretch hc
      minutes := h.minutes.trans hminutes.symm
      money := fun hm => hspent.symm ▸ h.money hm
      time := fun hm => hspent.symm ▸ h.time hm
      stay := h.stay
      balance := h.balance }

/-! ## A step -/

theorem capped_le (cap : Option Nat) (n : Nat) : capped cap n ≤ n := by
  cases cap with
  | none => exact Nat.le_refl n
  | some c => exact Nat.min_le_right c n

theorem capped_le_cap (cap : Option Nat) (n : Nat) {c : Nat} (h : cap = some c) : capped cap n ≤ c := by
  rw [h]
  exact Nat.min_le_left c n

theorem capped_cases (cap : Option Nat) (n : Nat) : capped cap n = n ∨ cap = some (capped cap n) := by
  cases cap with
  | none => exact .inl rfl
  | some c => exact (Nat.le_total n c).imp Nat.min_eq_right fun h => congrArg some (Nat.min_eq_left h).symm

/-- A step uses no more than the band and the bounds allow (02 R36). -/
theorem use_le (b : WalkBounds) (w : Walk) (rate span : Nat) :
    b.use w rate span ≤ span ∧ b.use w rate span ≤ b.allowance w rate ∧
      (b.maxStay ≠ 0 → b.use w rate span ≤ b.maxStay - w.minutes) ∧
      ∀ x, b.balance = some x → b.use w rate span ≤ x - w.minutes := by
  have hinner := capped_le (b.stayCap w) (capped (b.balanceCap w) (min (b.allowance w rate) span))
  have hmin := Nat.le_trans hinner (capped_le (b.balanceCap w) (min (b.allowance w rate) span))
  refine ⟨Nat.le_trans hmin (Nat.min_le_right _ _), Nat.le_trans hmin (Nat.min_le_left _ _), fun hs => ?_, fun x hx => ?_⟩
  · exact capped_le_cap _ _ (if_neg hs)
  · exact Nat.le_trans hinner (capped_le_cap _ _ (by rw [WalkBounds.balanceCap, hx]; rfl))

/-- A step that does not reach the band's end has met a bound (02 R36, R37). -/
theorem use_cases (b : WalkBounds) (w : Walk) (rate span : Nat) :
    b.use w rate span = span ∨ b.stayCap w = some (b.use w rate span) ∨ b.balanceCap w = some (b.use w rate span) ∨
      b.allowance w rate = b.use w rate span := by
  rcases capped_cases (b.stayCap w) (capped (b.balanceCap w) (min (b.allowance w rate) span)) with h | h
  · rcases capped_cases (b.balanceCap w) (min (b.allowance w rate) span) with h' | h'
    · have huse : b.use w rate span = min (b.allowance w rate) span := h.trans h'
      rcases Nat.le_total (b.allowance w rate) span with hle | hle
      · exact .inr (.inr (.inr (huse.trans (Nat.min_eq_left hle)).symm))
      · exact .inl (huse.trans (Nat.min_eq_right hle))
    · exact .inr (.inr (.inl (h'.trans (congrArg some h.symm))))
  · exact .inr (.inl h)

/-- A step within its bounds keeps the walk's values (02 R36). -/
theorem Walk.Sound.spend (h : w.Sound price b start credit) {r span : Nat} (hr : 0 < r)
    (hc : ∀ q, w.pos ≤ q → q < w.pos + span → price q = some r) :
    (w.spend b r (b.use w r span)).Sound price b start credit := by
  obtain ⟨hspan, hallow, hstay, hbalance⟩ := use_le b w r span
  obtain ⟨k, hk⟩ : ∃ k, k = b.use w r span := ⟨_, rfl⟩
  rw [← hk] at hspan hallow hstay hbalance ⊢
  have hck : ∀ q, w.pos ≤ q → q < w.pos + k → price q = some r := fun q hq hlt =>
    hc q hq (Nat.lt_of_lt_of_le hlt (Nat.add_le_add_left hspan w.pos))
  have hspent : spentOn price start (w.pos + k) = spentOn price start w.pos + k * r := spentOn_stretch h.ahead hck
  have hminutes : pricedMinutes price start (w.pos + k) = pricedMinutes price start w.pos + k := by
    rw [pricedMinutes_stretch h.ahead hck, if_neg (by simpa using Nat.ne_of_gt hr)]
  refine
    { ahead := Nat.le_trans h.ahead (Nat.le_add_right w.pos k)
      allowed := h.allowed_stretch hck
      minutes := (congrArg (· + k) h.minutes).trans hminutes.symm
      money := fun hm => ?_
      time := fun hm => ⟨?_, ?_⟩
      stay := fun hs => ?_
      balance := fun x hx => ?_ }
  · have hcredit := h.money hm
    rw [WalkBounds.allowance, if_pos hm] at hallow
    have hpaid : k * r ≤ w.credit := (Nat.le_div_iff_mul_le hr).mp hallow
    show (if b.byMoney then w.credit - k * r else w.credit) + spentOn price start (w.pos + k) = credit
    rw [if_pos hm, hspent]
    omega
  · obtain ⟨hcost, -⟩ := h.time hm
    show (if b.byMoney then w.cost else w.cost + k * r) = spentOn price start (w.pos + k)
    rw [hm, hspent, hcost]
    rfl
  · obtain ⟨-, hduration⟩ := h.time hm
    rw [WalkBounds.allowance, hm, if_neg Bool.false_ne_true] at hallow
    show w.minutes + k ≤ b.duration
    omega
  · have hbound := h.stay hs
    have hcap := hstay hs
    show w.minutes + k ≤ b.maxStay
    omega
  · have hbound := h.balance x hx
    have hcap := hbalance x hx
    show w.minutes + k ≤ x
    omega

end

end Sys2Proof.Machine

/-! PROOFS. Where a walk ends, and why (02 R35 to R37). -/

namespace Sys2Proof.Machine

/-- Segments that reach from a position to another, each with the price of its minutes. -/
def Spans (price : Nat → Option Nat) : Nat → Nat → List Segment → Prop
  | a, h, [] => a = h
  | a, h, g :: rest => a < g.last ∧ (∀ p, a ≤ p → p < g.last → price p = g.price) ∧ Spans price g.last h rest

theorem Laid.spans {price : Nat → Option Nat} {segs : List Segment} {a h : Nat} (hl : Laid price a h segs) :
    Spans price a h segs := by
  induction segs generalizing a with
  | nil => exact hl
  | cons g rest ih =>
    obtain ⟨-, hlt, hg, hrest⟩ := hl
    exact ⟨hlt, hg, ih hrest⟩

theorem Spans.le {price : Nat → Option Nat} {segs : List Segment} {a h : Nat} (hs : Spans price a h segs) : a ≤ h := by
  induction segs generalizing a with
  | nil => exact Nat.le_of_eq hs
  | cons g rest ih => exact Nat.le_trans (Nat.le_of_lt hs.1) (ih hs.2.2)

/-- A bound of a walk is met: no further minute at a rate is allowed (02 R36). -/
def WalkBounds.met (b : WalkBounds) (w : Walk) (rate : Nat) : Prop :=
  b.maxStay ≠ 0 ∧ w.minutes = b.maxStay ∨ b.balance = some w.minutes ∨ b.byMoney = true ∧ w.credit < rate ∨
    b.byMoney = false ∧ w.minutes = b.duration

/-- The reason of a walk that has met a bound, the first met in the order maximum stay, balance, allowance (02 R37). -/
def WalkBounds.stopAt (b : WalkBounds) (minutes : Nat) : StopReason :=
  if b.maxStay ≠ 0 ∧ minutes = b.maxStay then .maxStay
  else if b.balance = some minutes then .balance
  else if b.byMoney then .credit
  else .timeReached

/-- The end of a walk, with its reason (02 R37). -/
inductive WalkEnd (price : Nat → Option Nat) (b : WalkBounds) (h : Nat) (w : Walk) : StopReason → Prop
  | horizon (hpos : w.pos = h) : WalkEnd price b h w .horizon
  | ban (hpos : w.pos < h) (hprice : price w.pos = none) : WalkEnd price b h w .ban
  | bound {rate : Nat} (hpos : w.pos < h) (hrate : 0 < rate) (hprice : price w.pos = some rate) (hmet : b.met w rate) :
    WalkEnd price b h w (b.stopAt w.minutes)

section
variable {price : Nat → Option Nat} {b : WalkBounds} {start credit : Nat} {w : Walk}

theorem Walk.Sound.stayCap_iff (h : w.Sound price b start credit) (use : Nat) :
    b.stayCap w = some use ↔ b.maxStay ≠ 0 ∧ w.minutes + use = b.maxStay := by
  rw [WalkBounds.stayCap]
  by_cases hs : b.maxStay = 0
  · simp [hs]
  · have hbound := h.stay hs
    rw [if_neg hs, Option.some_inj]
    omega

theorem Walk.Sound.balanceCap_iff (h : w.Sound price b start credit) (use : Nat) :
    b.balanceCap w = some use ↔ b.balance = some (w.minutes + use) := by
  rw [WalkBounds.balanceCap]
  cases hb : b.balance with
  | none => simp
  | some x =>
    have hbound := h.balance x hb
    rw [Option.map_some, Option.some_inj, Option.some_inj]
    omega

theorem Walk.Sound.reason_eq (h : w.Sound price b start credit) (use : Nat) :
    b.reason w use = b.stopAt (w.minutes + use) := by
  simp only [WalkBounds.reason, WalkBounds.stopAt, h.stayCap_iff, h.balanceCap_iff]

/-- A step that does not reach the band's end leaves a bound met (02 R36). -/
theorem Walk.Sound.met_spend (h : w.Sound price b start credit) {rate span : Nat} (hr : 0 < rate)
    (hshort : b.use w rate span ≠ span) : b.met (w.spend b rate (b.use w rate span)) rate := by
  obtain ⟨k, hk⟩ : ∃ k, k = b.use w rate span := ⟨_, rfl⟩
  rcases (use_cases b w rate span).resolve_left hshort with hstay | hbalance | hallow
  · exact .inl ((h.stayCap_iff _).mp hstay)
  · exact .inr (.inl ((h.balanceCap_iff _).mp hbalance))
  · rw [← hk] at hallow ⊢
    cases hm : b.byMoney with
    | true =>
      refine .inr (.inr (.inl ⟨hm, ?_⟩))
      show (if b.byMoney then w.credit - k * rate else w.credit) < rate
      rw [WalkBounds.allowance, if_pos hm] at hallow
      rw [if_pos hm, ← hallow, Nat.mul_comm, ← Nat.mod_eq_sub_mul_div]
      exact Nat.mod_lt _ hr
    | false =>
      refine .inr (.inr (.inr ⟨hm, ?_⟩))
      obtain ⟨-, hduration⟩ := h.time hm
      rw [WalkBounds.allowance, hm, if_neg Bool.false_ne_true] at hallow
      show w.minutes + k = b.duration
      omega

end

/-- A walk keeps its values sound and stops as far on as it can (02 R35 to R37). -/
theorem walk_spec {price : Nat → Option Nat} {b : WalkBounds} {start credit h : Nat} (segs : List Segment) :
    ∀ w : Walk, w.Sound price b start credit → Spans price w.pos h segs →
      (walk b segs w).1.Sound price b start credit ∧ WalkEnd price b h (walk b segs w).1 (walk b segs w).2 ∧
        w.minutes ≤ (walk b segs w).1.minutes := by
  induction segs with
  | nil => exact fun w hw hs => ⟨hw, .horizon hs, Nat.le_refl _⟩
  | cons g rest ih =>
    intro w hw ⟨hlt, hg, hrest⟩
    have hh : w.pos < h := Nat.lt_of_lt_of_le hlt hrest.le
    cases hp : g.price with
    | none =>
      simp only [walk, hp]
      exact ⟨hw, .ban hh ((hg w.pos (Nat.le_refl _) hlt).trans hp), Nat.le_refl _⟩
    | some rate =>
      have hat : ∀ p, w.pos ≤ p → p < g.last → price p = some rate := fun p hle hlt => (hg p hle hlt).trans hp
      cases rate with
      | zero =>
        simp only [walk, hp]
        exact ih _ (hw.free (Nat.le_of_lt hlt) hat) hrest
      | succ r =>
        obtain ⟨use, huse⟩ : ∃ use, use = b.use w (r + 1) (g.last - w.pos) := ⟨_, rfl⟩
        have hend : w.pos + (g.last - w.pos) = g.last := Nat.add_sub_cancel' (Nat.le_of_lt hlt)
        have hspend := hw.spend (Nat.succ_pos r) (span := g.last - w.pos) (by rw [hend]; exact hat)
        rw [← huse] at hspend
        simp only [walk, hp, ← huse]
        by_cases hfull : use = g.last - w.pos
        · rw [if_pos hfull]
          have hpos : (w.spend b (r + 1) use).pos = g.last := by rw [Walk.spend, hfull, hend]
          obtain ⟨hsound, hwalkEnd, hle⟩ := ih _ hspend (hpos.symm ▸ hrest)
          exact ⟨hsound, hwalkEnd, Nat.le_trans (Nat.le_add_right w.minutes use) hle⟩
        · rw [if_neg hfull, hw.reason_eq]
          obtain ⟨hspan, -⟩ := use_le b w (r + 1) (g.last - w.pos)
          rw [← huse] at hspan
          have hpos : w.pos + use < g.last := by omega
          refine ⟨hspend, ?_, Nat.le_add_right w.minutes use⟩
          exact .bound (w := w.spend b (r + 1) use) (Nat.lt_of_lt_of_le hpos hrest.le) (Nat.succ_pos r)
            (hat _ (Nat.le_add_right _ _) hpos) (huse ▸ hw.met_spend (Nat.succ_pos r) (huse ▸ hfull))

end Sys2Proof.Machine

/-! PROOFS. The quote computation in full (02 R30 to R40, R44). -/

namespace Sys2Proof.Machine

/-! ## The first minute walked -/

section
variable {price : Nat → Option Nat} {b : WalkBounds} {start credit h : Nat} {w : Walk} {rate : Nat} {stop : StopReason}

theorem minuteRates_cons {a p : Nat} (h : a < p) (price : Nat → Option Nat) :
    minuteRates price a p = price a :: minuteRates price (a + 1) p := by
  obtain ⟨k, rfl⟩ := Nat.exists_eq_add_of_lt h
  have hlen : a + k + 1 - a = k + 1 := by omega
  have hlen' : a + k + 1 - (a + 1) = k := by omega
  rw [minuteRates, minuteRates, hlen, hlen', List.range_succ_eq_map, List.map_cons, List.map_map]
  exact congrArg (_ :: ·) (List.map_congr_left fun i _ => congrArg price (by omega))

/-- A walk past a priced first minute has walked a priced minute and spent its price. -/
theorem priced_first (hprice : price start = some rate) (hrate : 0 < rate) {p : Nat} (h : start < p) :
    1 ≤ pricedMinutes price start p ∧ rate ≤ spentOn price start p := by
  rw [pricedMinutes, spentOn, minuteRates_cons h, hprice]
  constructor
  · rw [List.filter_cons_of_pos (by simpa using Nat.ne_of_gt hrate)]
    exact Nat.le_add_left 1 _
  · rw [List.map_cons, List.sum_cons]
    exact Nat.le_add_right rate _

/-- A walk that has walked a priced minute has spent something. -/
theorem Walk.Sound.spent_first (hw : w.Sound price b start credit) (hprice : price start = some rate) (hrate : 0 < rate)
    (hm : w.minutes ≠ 0) : rate ≤ spentOn price start w.pos := by
  refine (priced_first hprice hrate (Nat.lt_of_le_of_ne hw.ahead fun he => hm ?_)).2
  rw [hw.minutes, ← he, pricedMinutes, minuteRates_self]
  rfl

/-- A walk from a priced minute walks none exactly where a bound forbids the first (02 R38, R39). -/
theorem minutes_eq_zero_iff (hw : w.Sound price b start credit) (hend : WalkEnd price b h w stop) (hh : start < h)
    (hprice : price start = some rate) (hrate : 0 < rate) :
    w.minutes = 0 ↔ b.balance = some 0 ∨ b.byMoney = true ∧ credit < rate ∨ b.byMoney = false ∧ b.duration = 0 := by
  constructor
  · intro hzero
    have hpos : w.pos = start := by
      by_contra hne
      have hpriced := (priced_first hprice hrate (Nat.lt_of_le_of_ne hw.ahead (Ne.symm hne))).1
      rw [← hw.minutes, hzero] at hpriced
      exact absurd hpriced (by decide)
    have hspent : spentOn price start w.pos = 0 := by rw [hpos, spentOn, minuteRates_self]; rfl
    cases hend with
    | horizon he => exact absurd (hpos.symm.trans he) (Nat.ne_of_lt hh)
    | ban _ hnone => cases (hpos ▸ hnone).symm.trans hprice
    | bound _ _ hr hmet =>
      obtain rfl := Option.some.inj ((hpos ▸ hr).symm.trans hprice)
      rw [WalkBounds.met, hzero] at hmet
      rcases hmet with ⟨hs, hz⟩ | hbal | ⟨hm, hc⟩ | ⟨hm, hd⟩
      · exact absurd hz.symm hs
      · exact .inl hbal
      · have hcredit := hw.money hm
        rw [hspent] at hcredit
        exact .inr (.inl ⟨hm, hcredit ▸ hc⟩)
      · exact .inr (.inr ⟨hm, hd.symm⟩)
  · rintro (hbal | ⟨hm, hc⟩ | ⟨hm, hd⟩)
    · exact Nat.le_zero.mp (hw.balance 0 hbal)
    · by_contra hne
      have hspent := hw.spent_first hprice hrate hne
      have hcredit := hw.money hm
      omega
    · obtain ⟨-, hle⟩ := hw.time hm
      exact Nat.le_zero.mp (hd ▸ hle)

end

/-! ## The computation -/

/-- The credit units a walk starts with (02 R35). -/
def QuoteWork.credit (q : QuoteWork) : Nat := if q.pay = .cash then 60 * q.amount else 0

/-- The walk of a quote whose arrival minute is priced (02, section 2.6). -/
structure QuoteWork.Walks (q : QuoteWork) (s : State) (w : Walk) (stop : StopReason) : Prop where
  sound : w.Sound (s.priceAt q.zone q.rate q.date) (q.bounds (s.zone q.zone).tariff.params) q.start q.credit
  ends : WalkEnd (s.priceAt q.zone q.rate q.date) (q.bounds (s.zone q.zone).tariff.params)
    (walkHorizon (s.zone q.zone).tariff.params.carryOver q.date) w stop

section
variable {q : QuoteWork} {s : State}

theorem start_lt_horizon (hstart : q.start < 1440) (carryOver : Bool) (date : Date) :
    q.start < walkHorizon carryOver date := by
  unfold walkHorizon
  split
  · exact Nat.lt_trans hstart (by decide)
  · exact hstart

/-- The bands ahead of the arrival. -/
theorem segments_ahead (hvalid : ∀ c, scheduleValid ((s.zone q.zone).tariff.schedule c) = true) (hstart : q.start < 1440) :
    ∃ g rest, segmentsFrom q.start (s.walkSegments q.zone q.rate q.date) = g :: rest ∧ q.start < g.last ∧
      (∀ p, q.start ≤ p → p < g.last → s.priceAt q.zone q.rate q.date p = g.price) ∧
      Laid (s.priceAt q.zone q.rate q.date) g.last (walkHorizon (s.zone q.zone).tariff.params.carryOver q.date) rest :=
  (laid_walkSegments hvalid q.rate q.date).segmentsFrom (Nat.zero_le _) (start_lt_horizon hstart _ _)

/-- An arrival in a NoParking minute is refused (02 R33). -/
theorem computeQuote_noParking (hvalid : ∀ c, scheduleValid ((s.zone q.zone).tariff.schedule c) = true)
    (hstart : q.start < 1440) (hprice : s.priceAt q.zone q.rate q.date q.start = none) :
    computeQuote q s = .reply (quoteRefusal .noParking [] q.unverified) := by
  obtain ⟨g, rest, hahead, hlt, hg, -⟩ := segments_ahead hvalid hstart
  have hfirst : g.price = none := (hg q.start (Nat.le_refl _) hlt).symm.trans hprice
  simp only [computeQuote, hahead, List.head?_cons, Option.map_some, hfirst]

/-- An arrival in a free minute is answered FREE (02 R34). -/
theorem computeQuote_free (hvalid : ∀ c, scheduleValid ((s.zone q.zone).tariff.schedule c) = true)
    (hstart : q.start < 1440) (hprice : s.priceAt q.zone q.rate q.date q.start = some 0) {v : Nat} (hsv : q.start < v)
    (hvh : v ≤ walkHorizon (s.zone q.zone).tariff.params.carryOver q.date)
    (hfree : ∀ p, q.start ≤ p → p < v → s.priceAt q.zone q.rate q.date p = some 0)
    (hv : v = walkHorizon (s.zone q.zone).tariff.params.carryOver q.date ∨
      s.priceAt q.zone q.rate q.date v ≠ some 0) :
    computeQuote q s = .reply (freeAnswer (positionMoment q.date v) q.unverified) := by
  obtain ⟨g, rest, hahead, hlt, hg, hrest⟩ := segments_ahead hvalid hstart
  have hfirst : g.price = some 0 := (hg q.start (Nat.le_refl _) hlt).symm.trans hprice
  have hpast : g.last ≤ v := Nat.le_of_not_lt fun hlt' =>
    hv.elim (fun he => absurd hrest.le (Nat.not_le.mpr (he ▸ hlt')))
      fun hne => hne ((hg v (Nat.le_of_lt hsv) hlt').trans hfirst)
  have huntil : validUntil (walkHorizon (s.zone q.zone).tariff.params.carryOver q.date) (g :: rest) = v :=
    (if_pos hfirst).trans (validUntil_eq hrest hpast hvh
      (fun p hp => hfree p (Nat.le_trans (Nat.le_of_lt hlt) hp)) hv)
  simp only [computeQuote, hahead, List.head?_cons, Option.map_some, hfirst, huntil]

/-- An arrival in a priced minute is walked, unless its payment kind is None (02 R35 to R39). -/
theorem computeQuote_priced (hvalid : ∀ c, scheduleValid ((s.zone q.zone).tariff.schedule c) = true)
    (hstart : q.start < 1440) {rate : Nat} (hprice : s.priceAt q.zone q.rate q.date q.start = some rate) (hrate : 0 < rate) :
    ∃ w stop, q.Walks s w stop ∧
      computeQuote q s =
        if q.pay = .unpaid then .reply (quoteRefusal .kindNotAllowed [] q.unverified)
        else if q.pay = .cash then moneyOutcome q (s.zone q.zone).tariff.params.minimum w stop
        else timeOutcome q (s.zone q.zone).tariff.params.minimum w stop := by
  obtain ⟨g, rest, hahead, hlt, hg, hrest⟩ := segments_ahead hvalid hstart
  have hfirst : g.price = some rate := (hg q.start (Nat.le_refl _) hlt).symm.trans hprice
  obtain ⟨hsound, hend, -⟩ := walk_spec (g :: rest) ⟨q.start, q.credit, 0, 0⟩
    (Walk.sound_start _ (q.bounds (s.zone q.zone).tariff.params) q.start q.credit) ⟨hlt, hg, hrest.spans⟩
  refine ⟨_, _, ⟨hsound, hend⟩, ?_⟩
  obtain ⟨r, rfl⟩ := Nat.exists_eq_succ_of_ne_zero (Nat.ne_of_gt hrate)
  simp only [computeQuote, hahead, List.head?_cons, Option.map_some, hfirst]
  rfl

/-- A refusal carries the flags byte only where UNVERIFIED (12 R203). -/
theorem quoteRefusal_eq (c : Code) (data : List Byte) (unverified : Bool) :
    quoteRefusal c data unverified = ⟨c.byte, data ++ if unverified then [1#8] else []⟩ := by
  cases unverified <;> rfl

end

end Sys2Proof.Machine

/-! PROOFS. What a computed quote says of the minutes walked (02 R37 to R41). -/

namespace Sys2Proof.Machine

section
variable {q : QuoteWork} {s : State} {w : Walk} {stop : StopReason} {rate : Nat}

theorem bounds_byMoney (q : QuoteWork) (p : ZoneParams) : (q.bounds p).byMoney = true ↔ q.pay = .cash := beq_iff_eq

theorem bounds_byTime (q : QuoteWork) (p : ZoneParams) : (q.bounds p).byMoney = false ↔ q.pay ≠ .cash :=
  beq_eq_false_iff_ne

/-- A priced quote walks no minute exactly where a bound forbids the first (02 R38, R39). -/
theorem QuoteWork.Walks.minutes_eq_zero_iff (h : q.Walks s w stop) (hstart : q.start < 1440)
    (hprice : s.priceAt q.zone q.rate q.date q.start = some rate) (hrate : 0 < rate) :
    w.minutes = 0 ↔ q.balance = some 0 ∨ q.pay = .cash ∧ 60 * q.amount < rate ∨ q.pay ≠ .cash ∧ q.amount = 0 := by
  rw [Machine.minutes_eq_zero_iff h.sound h.ends (start_lt_horizon hstart _ _) hprice hrate, bounds_byMoney, bounds_byTime]
  refine or_congr_right (or_congr_left (and_congr_right fun hcash => ?_))
  rw [QuoteWork.credit, if_pos hcash]

theorem computeQuote_unpriced (hvalid : ∀ c, scheduleValid ((s.zone q.zone).tariff.schedule c) = true)
    (hstart : q.start < 1440) (hprice : s.priceAt q.zone q.rate q.date q.start = some 0) :
    ∃ a, computeQuote q s = .reply a := by
  obtain ⟨g, rest, hahead, hlt, hg, -⟩ := segments_ahead hvalid hstart
  have hfirst : g.price = some 0 := (hg q.start (Nat.le_refl _) hlt).symm.trans hprice
  simp only [computeQuote, hahead, List.head?_cons, Option.map_some, hfirst]
  exact ⟨_, rfl⟩

/-- A quote that is quoted was priced from its first minute, and paid for. -/
theorem quoted_priced (hvalid : ∀ c, scheduleValid ((s.zone q.zone).tariff.schedule c) = true)
    (hstart : q.start < 1440) {minutes : Nat} {paid : QuotePrice} {expiry : Moment} {clamped raised : Bool} {stop : StopReason}
    (h : computeQuote q s = .quoted minutes paid expiry clamped raised stop) :
    q.pay ≠ .unpaid ∧ ∃ rate, 0 < rate ∧ s.priceAt q.zone q.rate q.date q.start = some rate := by
  cases hprice : s.priceAt q.zone q.rate q.date q.start with
  | none => cases h.symm.trans (computeQuote_noParking hvalid hstart hprice)
  | some rate =>
    rcases Nat.eq_zero_or_pos rate with rfl | hrate
    · obtain ⟨a, ha⟩ := computeQuote_unpriced hvalid hstart hprice
      cases h.symm.trans ha
    · refine ⟨fun hpay => ?_, rate, hrate, rfl⟩
      obtain ⟨w, stop', -, hquote⟩ := computeQuote_priced hvalid hstart hprice hrate
      rw [if_pos hpay] at hquote
      cases h.symm.trans hquote

/-- A ByMoney quote: its useful amount is what its minutes cost, sixty credit units to the penny, rounded up (02 R38). -/
theorem moneyOutcome_quoted {minimum minutes : Nat} {paid : QuotePrice} {expiry : Moment} {clamped raised : Bool}
    {stop' : StopReason} (hq : moneyOutcome q minimum w stop = .quoted minutes paid expiry clamped raised stop')
    {spent : Nat} (hmoney : w.credit + spent = 60 * q.amount) :
    w.minutes ≠ 0 ∧ minimum ≤ q.amount ∧ minutes = w.minutes ∧ expiry = positionMoment q.date w.pos ∧ stop' = stop ∧
      clamped = false ∧ raised = false ∧ paid = .byMoney q.amount ((spent + 59) / 60) ∧ (spent + 59) / 60 ≤ q.amount := by
  unfold moneyOutcome at hq
  split at hq
  next => cases hq
  next h =>
    obtain ⟨hm, hmin⟩ := not_or.mp h
    obtain ⟨rfl, rfl, rfl, rfl, rfl, rfl⟩ := QuoteOutcome.quoted.inj hq
    have huseful : q.amount - w.credit / 60 = (spent + 59) / 60 := by omega
    exact ⟨hm, Nat.le_of_not_lt hmin, rfl, rfl, rfl, rfl, rfl, by rw [huseful], by omega⟩

/-- A ByTime quote: its cost is what its minutes cost, rounded up, and the minimum at least (02 R39, R40). -/
theorem timeOutcome_quoted {minimum minutes : Nat} {paid : QuotePrice} {expiry : Moment} {clamped raised : Bool}
    {stop' : StopReason} (hq : timeOutcome q minimum w stop = .quoted minutes paid expiry clamped raised stop')
    (hcost : w.minutes ≠ 0 → 1 ≤ w.cost) :
    w.minutes ≠ 0 ∧ minutes = w.minutes ∧ expiry = positionMoment q.date w.pos ∧ stop' = stop ∧
      clamped = decide (w.minutes < q.amount) ∧ raised = decide ((w.cost + 59) / 60 < minimum) ∧
      paid = .byTime (max ((w.cost + 59) / 60) minimum) := by
  unfold timeOutcome at hq
  split at hq
  next =>
    split at hq
    · cases hq
    · cases hq
  next hm =>
    obtain ⟨rfl, rfl, rfl, rfl, rfl, rfl⟩ := QuoteOutcome.quoted.inj hq
    have hpositive : decide (0 < (w.cost + 59) / 60) = true := by
      have hspent := hcost hm
      exact decide_eq_true (by omega)
    rw [hpositive, Bool.true_and]
    refine ⟨hm, rfl, rfl, rfl, rfl, rfl, congrArg QuotePrice.byTime ?_⟩
    by_cases hless : (w.cost + 59) / 60 < minimum
    · rw [decide_eq_true hless, if_pos rfl, Nat.max_eq_right (Nat.le_of_lt hless)]
    · rw [decide_eq_false hless, if_neg Bool.false_ne_true, Nat.max_eq_left (Nat.le_of_not_lt hless)]

/-- Where a walk ends before the horizon at a minute that has a price, a bound is met there (02 R36). -/
theorem WalkEnd.met {price : Nat → Option Nat} {b : WalkBounds} {h : Nat} (hend : WalkEnd price b h w stop)
    (hpos : w.pos ≠ h) {r : Nat} (hr : price w.pos = some r) : 0 < r ∧ b.met w r := by
  cases hend with
  | horizon he => exact absurd he hpos
  | ban _ hnone => cases hnone.symm.trans hr
  | bound _ hrate hprice hmet =>
    obtain rfl := Option.some.inj (hprice.symm.trans hr)
    exact ⟨hrate, hmet⟩

/-- A walk's reason, by where it ends (02 R37). -/
theorem WalkEnd.reason {price : Nat → Option Nat} {b : WalkBounds} {h : Nat} (hend : WalkEnd price b h w stop) :
    stop = if w.pos = h then .horizon else if price w.pos = none then .ban else b.stopAt w.minutes := by
  cases hend with
  | horizon he => rw [if_pos he]
  | ban hlt hnone => rw [if_neg (Nat.ne_of_lt hlt), if_pos hnone]
  | bound hlt _ hprice _ =>
    rw [if_neg (Nat.ne_of_lt hlt), if_neg (by rw [hprice]; exact Option.some_ne_none _)]

theorem WalkEnd.pos_le {price : Nat → Option Nat} {b : WalkBounds} {h : Nat} (hend : WalkEnd price b h w stop) : w.pos ≤ h := by
  cases hend with
  | horizon he => exact Nat.le_of_eq he
  | ban hlt _ => exact Nat.le_of_lt hlt
  | bound hlt _ _ _ => exact Nat.le_of_lt hlt

end

/-- The bounds met at a quote's end, as the rules say them (02 R36). -/
theorem QuoteWork.Walks.bound_met {q : QuoteWork} {s : State} {w : Walk} {stop : StopReason} (h : q.Walks s w stop) {r : Nat}
    (hpaid : q.pay ≠ .unpaid) (hm : (q.bounds (s.zone q.zone).tariff.params).met w r) :
    ((s.zone q.zone).tariff.params.maxStay ≠ 0 ∧ w.minutes = (s.zone q.zone).tariff.params.maxStay) ∨
      q.balance = some w.minutes ∨
      q.pay = .cash ∧ 60 * q.amount < spentOn (s.priceAt q.zone q.rate q.date) q.start w.pos + r ∨
      q.pay = .card ∧ w.minutes = q.amount := by
  refine hm.imp_right fun hm => hm.imp_right fun hm => hm.imp (fun ⟨hmoney, hless⟩ => ?_) fun ⟨htime, hall⟩ => ?_
  · have hcash := (bounds_byMoney q _).mp hmoney
    have hcredit := h.sound.money hmoney
    rw [QuoteWork.credit, if_pos hcash] at hcredit
    exact ⟨hcash, by omega⟩
  · have hnc := (bounds_byTime q _).mp htime
    refine ⟨?_, hall⟩
    cases hpay : q.pay with
    | cash => exact absurd hpay hnc
    | card => rfl
    | unpaid => exact absurd hpay hpaid

theorem stopAt_bounds (q : QuoteWork) (p : ZoneParams) (minutes : Nat) :
    (q.bounds p).stopAt minutes =
      if p.maxStay ≠ 0 ∧ minutes = p.maxStay then .maxStay
      else if q.balance = some minutes then .balance
      else if q.pay = .cash then .credit
      else .timeReached := by
  unfold WalkBounds.stopAt
  simp only [bounds_byMoney]
  rfl

/-- Settles O26, by the walk's values minute by minute. -/
theorem quotesCountTheMinutesWalked : Obligations.QuotesCountTheMinutesWalked := by
  intro s q horizon params price at_ only hvalid hstart hparams hpriceAt hhorizon hat honly
  have hh : horizon = walkHorizon (s.zone q.zone).tariff.params.carryOver q.date := by
    rw [hhorizon, hparams, walkHorizon]
    simp [lastDate]
  have hmoment : at_ = positionMoment q.date := hat
  have hrefuse (c : Code) (data : List Byte) : quoteRefusal c data q.unverified = ⟨c.byte, data ++ only⟩ := by
    rw [quoteRefusal_eq, honly]
  subst hparams hpriceAt
  rw [hmoment]
  refine ⟨fun hnone => ?_, fun v hzero hsv hvh hfree hv => ?_, fun r hr hpos => ?_, ?_⟩
  · rw [computeQuote_noParking hvalid hstart hnone, hrefuse]
    rfl
  · rw [hh] at hvh hv
    exact computeQuote_free hvalid hstart hzero hsv hvh hfree hv
  · obtain ⟨w, stop, hwalks, hquote⟩ := computeQuote_priced hvalid hstart hr hpos
    have hzero := hwalks.minutes_eq_zero_iff hstart hr hpos
    refine ⟨fun hpay => ?_, fun hpay hbelow => ?_, fun hpay hnone => ?_, fun henough => ?_⟩
    · rw [hquote, if_pos hpay, hrefuse]
      rfl
    · rw [hquote, if_neg (by rw [hpay]; decide), if_pos hpay, moneyOutcome, if_pos, hrefuse]
      rcases hbelow with hmin | hfirst | hbal
      · exact .inr hmin
      · exact .inl (hzero.mpr (.inr (.inl ⟨hpay, hfirst⟩)))
      · exact .inl (hzero.mpr (.inl hbal))
    · have hnc : q.pay ≠ .cash := by rw [hpay]; decide
      rw [hquote, if_neg (by rw [hpay]; decide), if_neg hnc, timeOutcome, if_pos, hrefuse, hrefuse]
      · split
        · rfl
        · rfl
      · exact hzero.mpr (hnone.elim (fun ha => .inr (.inr ⟨hnc, ha⟩)) .inl)
    · rcases henough with ⟨hpay, hmin, hfirst, hbal⟩ | ⟨hpay, hamount, hbal⟩
      · have hm : ¬(w.minutes = 0 ∨ q.amount < (s.zone q.zone).tariff.params.minimum) := by
          rw [hzero]
          rintro ((hb | ⟨-, hc⟩ | ⟨hnc, -⟩) | hlt)
          · exact hbal hb
          · exact absurd hc (Nat.not_lt.mpr hfirst)
          · exact hnc hpay
          · exact absurd hlt (Nat.not_lt.mpr hmin)
        rw [hquote, if_neg (by rw [hpay]; decide), if_pos hpay, moneyOutcome, if_neg hm]
        exact ⟨_, _, _, _, _, _, rfl⟩
      · have hnc : q.pay ≠ .cash := by rw [hpay]; decide
        have hm : ¬w.minutes = 0 := by
          rw [hzero]
          rintro (hb | ⟨hc, -⟩ | ⟨-, ha⟩)
          · exact hbal hb
          · exact hnc hc
          · exact hamount ha
        rw [hquote, if_neg (by rw [hpay]; decide), if_neg hnc, timeOutcome, if_neg hm]
        exact ⟨_, _, _, _, _, _, rfl⟩
  · intro minutes paid expiry clamped raised stop hquoted
    obtain ⟨hpaid, rate, hrate, hprice⟩ := quoted_priced hvalid hstart hquoted
    obtain ⟨w, stop', ⟨hsound, hend⟩, hquote⟩ := computeQuote_priced hvalid hstart hprice hrate
    rw [if_neg hpaid, hquoted] at hquote
    obtain ⟨spent, hspent⟩ : ∃ spent, spent = spentOn (s.priceAt q.zone q.rate q.date) q.start w.pos := ⟨_, rfl⟩
    have hfirst : w.minutes ≠ 0 → 1 ≤ spent := fun hm =>
      hspent ▸ Nat.le_trans hrate (hsound.spent_first hprice hrate hm)
    have hcost (hnc : q.pay ≠ .cash) : w.cost = spent ∧ w.minutes ≤ q.amount :=
      hspent ▸ hsound.time ((bounds_byTime q _).mpr hnc)
    have hfigures : (w.minutes ≠ 0 ∧ minutes = w.minutes ∧ expiry = positionMoment q.date w.pos ∧ stop = stop') ∧
        (q.pay = .cash →
          paid = .byMoney q.amount ((spent + 59) / 60) ∧ 1 ≤ (spent + 59) / 60 ∧ (spent + 59) / 60 ≤ q.amount ∧
            (s.zone q.zone).tariff.params.minimum ≤ q.amount ∧ clamped = false ∧ raised = false) ∧
        (q.pay = .card →
          w.minutes ≤ q.amount ∧ clamped = decide (w.minutes < q.amount) ∧
            raised = decide ((spent + 59) / 60 < (s.zone q.zone).tariff.params.minimum) ∧
            paid = .byTime (max ((spent + 59) / 60) (s.zone q.zone).tariff.params.minimum)) := by
      by_cases hcash : q.pay = .cash
      · have hcredit := hsound.money ((bounds_byMoney q _).mpr hcash)
        rw [QuoteWork.credit, if_pos hcash, ← hspent] at hcredit
        rw [if_pos hcash] at hquote
        obtain ⟨hm, hmin, hminutes, hexpiry, hstop, hclamped, hraised, hpaid', hle⟩ := moneyOutcome_quoted hquote.symm hcredit
        have hone := hfirst hm
        exact ⟨⟨hm, hminutes, hexpiry, hstop⟩, fun _ => ⟨hpaid', by omega, hle, hmin, hclamped, hraised⟩,
          fun hcard => nomatch hcash.symm.trans hcard⟩
      · obtain ⟨hspend, hle⟩ := hcost hcash
        rw [if_neg hcash] at hquote
        obtain ⟨hm, hminutes, hexpiry, hstop, hclamped, hraised, hpaid'⟩ :=
          timeOutcome_quoted hquote.symm fun hm => hspend ▸ hfirst hm
        rw [hspend] at hraised hpaid'
        exact ⟨⟨hm, hminutes, hexpiry, hstop⟩, fun hc => absurd hc hcash, fun _ => ⟨hle, hclamped, hraised, hpaid'⟩⟩
    obtain ⟨⟨hm, rfl, hexpiry, rfl⟩, hmoney, htime⟩ := hfigures
    refine ⟨w.pos, minuteRates (s.priceAt q.zone q.rate q.date) q.start w.pos, spent, hsound.ahead, hh ▸ hend.pos_le, hexpiry, rfl,
      hsound.allowed, hspent, hsound.minutes, Nat.one_le_iff_ne_zero.mpr hm, hsound.stay, hsound.balance, hmoney, htime, hpaid,
      fun hpos r hr => ?_, ?_⟩
    · obtain ⟨hr0, hmet⟩ := hend.met (hh ▸ hpos) hr
      rw [hspent]
      exact ⟨hr0, QuoteWork.Walks.bound_met ⟨hsound, hend⟩ hpaid hmet⟩
    · rw [hend.reason, stopAt_bounds, hh]

end Sys2Proof.Machine
